-- ==== Sys2Proof/Word.lean ====
section
/-! DEFINITION. The byte of the serial and telegram lines, and the form every table of the part is held in. -/

namespace Sys2Proof

/-- A byte of the serial line (R179) or a character of the telegram line (R11). -/
abbrev Byte := BitVec 8

/-- A table: the entries that differ from the table's default, by index, indices strictly rising. The operations
are in Machine/Tables.lean. -/
abbrev Table (α : Type) := List (Nat × α)

end Sys2Proof
end

