-- ==== Sys2Proof/Syntax.lean ====
section
/-! DEFINITION. The commands of the part: one constructor of `Instr` for each row of spec/opcode_table.json, and
the types of their operands. -/

namespace Sys2Proof

/-- One byte as the receiver of the serial line takes it (R180). -/
structure RxByte where
  /-- Elapsed ms that pass before it: since the byte before it, or since what came about last. -/
  gap : Nat
  value : Byte
  /-- The stop bit was there. -/
  stop : Bool
deriving DecidableEq, Repr

/-- The level of the belfry access switch, and the access state (R170). -/
inductive Access
  | clear | active
deriving DecidableEq, Repr

/-- The level of the engineer key switch, and the key state, in the order of R171. -/
inductive Key
  | on | off
deriving DecidableEq, Repr

/-- A direction of rotation, of push or of a dial's polarity (R94, R95, R117). -/
inductive Dir
  | positive | negative
deriving DecidableEq, Repr

/-- A claimant of the supply arbiter (R159). -/
inductive Claimant
  | hammer (bell : Nat) | dial (dial : Nat) | swing (unit : Nat) | flood (circuit : Nat)
deriving DecidableEq, Repr

/-- The commands. A host request stands for a frame of its kind that arrives whole with a correct check (R180); its
operand is the frame's body. An event of a timer stands for the timer's expiry. -/
inductive Instr
  -- host requests (R181)
  | status (body : List Byte)
  | faults (body : List Byte)
  | clearfault (body : List Byte)
  | get (body : List Byte)
  | put (body : List Byte)
  | erase (body : List Byte)
  | list (body : List Byte)
  | save (body : List Byte)
  | restart (body : List Byte)
  | rate (body : List Byte)
  | settime (body : List Byte)
  | timeinfo (body : List Byte)
  | quiet (body : List Byte)
  | dayinfo (body : List Byte)
  | play (body : List Byte)
  | cancel (body : List Byte)
  | queue (body : List Byte)
  | ring (body : List Byte)
  | halt (body : List Byte)
  | peal (body : List Byte)
  | endpeal (body : List Byte)
  | dialset (body : List Byte)
  | dialstop (body : List Byte)
  | scene (body : List Byte)
  | override (body : List Byte)
  | floodinfo (body : List Byte)
  | lightinfo (body : List Byte)
  | supplyinfo (body : List Byte)
  | unknownKindFrame (kind : Byte) (body : List Byte)
  -- the serial line (R180, R183)
  | frameDiscarded (bytes : List RxByte)
  | transmitFrameEnd
  -- the time base (R2, R3, R4, R6, R21)
  | civilMinuteBoundary
  | civilHalfMinuteBoundary
  | keptSecondEnd
  | rangeEnd
  | seasonalInstant
  | lossOfLock
  | holdoverLimit
  -- the reference monitor (R12, R14, R16, R17, R18)
  | telegramRecord (chars : List Byte)
  | telegramRecordTimeout
  | telegramMark
  | telegramMarkDeadline
  | telegramSilence
  | secondMarkEdge
  | secondMarkTimeout
  | skewDecisionTimeout
  -- the chime player (R81, R83, R84, R85, R87)
  | headDue
  | startDeadline (id : Fin 256)
  | noteDue
  | noteWaitExpiry
  | tailEnd
  -- the hammers (R58, R62)
  | pulseEnd (bell : Fin 16)
  | recoveryEnd (bell : Fin 16)
  | senseInstant (bell : Fin 16)
  -- the swing units (R95, R96, R100, R101, R102, R103)
  | reversal (unit : Fin 6)
  | indexCrossing (unit : Fin 6)
  | raiseLimitExpiry (unit : Fin 6)
  | driveWindowExpiry (unit : Fin 6)
  | driveImpulseEnd (unit : Fin 6)
  | ringEnd (unit : Fin 6)
  | noTurnTimeout (unit : Fin 6)
  | lowerLimitExpiry (unit : Fin 6)
  | settleTimerExpiry (unit : Fin 6)
  -- the peal run (R110, R111)
  | startStep
  | pealEndInstant
  | stopStep
  -- the dials (R119, R120)
  | dialSpacingExpiry (dial : Fin 4)
  | dialImpulseEnd (dial : Fin 4)
  -- the floodlights (R135, R137, R138)
  | warmUpEnd (circuit : Fin 12)
  | restrikeEnd (circuit : Fin 12)
  | fadeStep (circuit : Fin 12)
  | overrideExpiry (circuit : Fin 12)
  -- the light monitor and the converter (R147, R151)
  | sampleInstant
  | conversionEnd (reading : Fin 1024)
  -- the supply arbiter (R164)
  | shedTimerExpiry (claimant : Claimant)
  -- the power monitor (R168, R170, R171)
  | mainsLineAbsent
  | mainsLinePresent
  | mainsSettleExpiry
  | accessSwitchChange (shows : Access)
  | accessTimerExpiry
  | keySwitchChange (shows : Key)
  | keyTimerExpiry
  -- the store and the start (R173, R174, R175)
  | saveTableWritten (readBack : Bool)
  | resetLineHeld
  | resetLineRelease
  | supplyFailure
  | powerOn (retained : Bool)
  | loadingEnd
  -- the encoders (R95)
  | encoderEdge (unit : Fin 6) (dir : Dir)
deriving DecidableEq, Repr

end Sys2Proof
end

