-- ==== Sys2Proof/WellFormed.lean ====
section
/-! DEFINITION. Which terms of `Instr` stand for something that can come about at the part: a frame's body holds at
most 249 bytes (R179), and a claimant has a number the tower has (R159). Every other operand's bound is its type's. -/

namespace Sys2Proof

/-- The longest body of a frame (R179). -/
def maxBody : Nat := 249

/-- The claimants of R159. -/
def Claimant.wf : Claimant → Bool
  | .hammer b => decide (b < 16)
  | .dial d => decide (d < 4)
  | .swing u => decide (u < 6)
  | .flood c => decide (c < 12)

/-- A kind byte that stands for one of the requests of R181. -/
def assignedKind (kind : Byte) : Bool :=
  let k := kind.toNat
  (1 ≤ k && k ≤ 0x0A) || (0x10 ≤ k && k ≤ 0x13) || (0x18 ≤ k && k ≤ 0x1A) || (0x20 ≤ k && k ≤ 0x23)
    || k = 0x28 || k = 0x29 || (0x30 ≤ k && k ≤ 0x34)

/-- The command can come about. -/
def Instr.wellFormed : Instr → Bool
  | .status b | .faults b | .clearfault b | .get b | .put b | .erase b | .list b | .save b | .restart b | .rate b
  | .settime b | .timeinfo b | .quiet b | .dayinfo b | .play b | .cancel b | .queue b | .ring b | .halt b | .peal b
  | .endpeal b | .dialset b | .dialstop b | .scene b | .override b | .floodinfo b | .lightinfo b | .supplyinfo b =>
    decide (b.length ≤ maxBody)
  | .unknownKindFrame kind b => decide (b.length ≤ maxBody) && !assignedKind kind
  | .frameDiscarded bytes => !bytes.isEmpty
  | .telegramRecord chars => !chars.isEmpty
  | .shedTimerExpiry c => c.wf
  | .transmitFrameEnd | .civilMinuteBoundary | .civilHalfMinuteBoundary | .keptSecondEnd | .rangeEnd
  | .seasonalInstant | .lossOfLock | .holdoverLimit | .telegramRecordTimeout | .telegramMark | .telegramMarkDeadline
  | .telegramSilence | .secondMarkEdge | .secondMarkTimeout | .skewDecisionTimeout | .headDue | .startDeadline _
  | .noteDue | .noteWaitExpiry | .tailEnd | .pulseEnd _ | .recoveryEnd _ | .senseInstant _ | .reversal _
  | .indexCrossing _ | .raiseLimitExpiry _ | .driveWindowExpiry _ | .driveImpulseEnd _ | .ringEnd _ | .noTurnTimeout _
  | .lowerLimitExpiry _ | .settleTimerExpiry _ | .startStep | .pealEndInstant | .stopStep | .dialSpacingExpiry _
  | .dialImpulseEnd _ | .warmUpEnd _ | .restrikeEnd _ | .fadeStep _ | .overrideExpiry _ | .sampleInstant
  | .conversionEnd _ | .mainsLineAbsent | .mainsLinePresent | .mainsSettleExpiry | .accessSwitchChange _
  | .accessTimerExpiry | .keySwitchChange _ | .keyTimerExpiry | .saveTableWritten _ | .resetLineHeld
  | .resetLineRelease | .supplyFailure | .powerOn _ | .loadingEnd | .encoderEdge _ _ => true

end Sys2Proof
end

