-- ==== Sys2Proof/Decode.lean ====
section
/-! DEFINITION. The commands spelled by words. No row of spec/opcode_table.json gives bits: no command is a word, and no
word is a command. -/

namespace Sys2Proof

/-- The command a word spells by the table's bits: none, since the table gives no row any. -/
def decodeTableWord (_nbits _w : Nat) : Option Instr := none

end Sys2Proof
end

