-- ==== Sys2Proof/Config.lean ====
section
/-! DEFINITION. The numbers the manual fixes for every part, and the free values: what the manual leaves open. -/

namespace Sys2Proof.Config

/-! ## Numbers of the manual -/

/-- Milliseconds of a day. -/
def dayMs : Nat := 86400000

/-- Days from 2000-01-01 to 2100-01-01: the range of kept time (R2). -/
def rangeDays : Nat := 36525

/-- The first kept ms past 2099-12-31 23:59:59.999 (R2). -/
def rangeEnd : Nat := rangeDays * dayMs

/-- Loss of lock (R6). -/
def lockLimit : Nat := 300000

/-- The time a telegram record has to complete (R12). -/
def recordLimit : Nat := 2000

/-- How long a previous mark counts (R14), and the silence of the telegram line (R16). -/
def telegramMemory : Nat := 180000

/-- How long after the previous mark a mark may come (R14). -/
def markLimit : Nat := 61000

/-- The second mark's absence (R17). -/
def secondLimit : Nat := 3000

/-- The reach of the nearest second mark (R18). -/
def skewReach : Nat := 1000

/-- The largest skew of a second-mark phase (R19). -/
def skewBound : Nat := 50

/-- The places of the strike queue (R79). -/
def queuePlaces : Nat := 16

/-- The places of the notice queue (R189). -/
def noticePlaces : Nat := 32

/-- Ten seconds without a turn in LOWERING (R102). -/
def noTurnLimit : Nat := 10000

/-- The counts of a reversal (R95). -/
def reversalCounts : Int := 4

/-- The mains settle (R168), the access time (R170) and the key time (R171). -/
def mainsSettle : Nat := 2000
def accessTime : Nat := 500
def keyTime : Nat := 100

/-- The time of a conversion (R147). -/
def conversionTime : Nat := 1

/-- The readings of the window (R152). -/
def windowPlaces : Nat := 6

/-- The gap that ends a frame (R180). -/
def frameGap : Nat := 20

/-- How many messages of one block to another one command may cause. Log 3: no command can cause so many. -/
def agendaFuel : Nat := 16384

/-! ## Free values -/

/-- Whether seasonal time is in force in a year whose start and end instants are the same instant, named by
different fields (R21 states only "before" and "after"). A free value: log 10. -/
opaque seasonTie : Nat → Bool

/-- What the trim moves by when the interval of R10 is 0 s, for the drift given. A free value: log 11. -/
opaque driftOverZero : Int → Int

end Sys2Proof.Config
end

