-- ==== Sys2Proof/Machine/Types.lean ====
section
/-! DEFINITION. The types of the blocks' state and records. The constructors of an enumeration stand in the order in
which the chapters list its values, which is the order of their codes on the line (R194). Default values of record
fields are in Machine/Defaults.lean; an object a letter and a number name is held as its number. -/

namespace Sys2Proof.Machine

/-! ## Time base and reference monitor -/

/-- The time states (1.2). -/
inductive TimeState
  | unset | free | locked | holdover
deriving DecidableEq, Repr

/-- The reference modes (R19). -/
inductive RefMode
  | auto | telegram | off
deriving DecidableEq, Repr

/-- The causes of a TIME notice (R24). -/
inductive TimeCause
  | set | confirm | seasonal | holdover | freeRun | mode | rangeEnd
deriving DecidableEq, Repr

/-- The phase of a confirmation (R19, R24). -/
inductive PhaseSource
  | telegram | second
deriving DecidableEq, Repr

/-- The start or the end of seasonal time (1.6). A week of `none` is LAST. -/
structure SeasonEdge where
  month : Nat
  week : Option Nat
  weekday : Nat
  hour : Nat
deriving DecidableEq, Repr

/-- SETTINGS group 0, TIME (R23). -/
structure TimeSettings where
  mode : RefMode
  /-- Step threshold, ms. -/
  threshold : Nat
  /-- Holdover limit, h. -/
  holdLimit : Nat
  /-- Seasonal offset setting, min. -/
  offset : Nat
  begins : SeasonEdge
  ends : SeasonEdge
deriving DecidableEq, Repr

/-- The previous-confirmation record (R10). -/
structure PrevConf where
  /-- Elapsed time of the phase instant. -/
  phase : Nat
  /-- The offset measured, ms. -/
  offset : Int
  /-- The correction account, ms. -/
  account : Int
deriving DecidableEq, Repr

/-- The time base (chapter 1). Kept time is in ms from 2000-01-01 00:00:00.000 standard time. -/
structure TimeBase where
  elapsed : Nat
  kept : Option Nat
  /-- The part of a kept ms run so far, in units of 10^-7 ms (log 8). -/
  sub : Nat
  state : TimeState
  /-- Rate trim, 0.1 ppm (R3). -/
  trim : Int
  /-- Slew remainder, ms (R3). -/
  slew : Int
  /-- The kept second in progress began with the present slew remainder (log 8). -/
  slewArmed : Bool
  /-- The kept second in progress is in its 1001st ms (log 8). -/
  slewHold : Bool
  /-- Seasonal offset in force, min (R21, R22). -/
  offset : Option Nat
  /-- The last seasonal flag was S (R22, R23). -/
  flagS : Bool
  prevConf : Option PrevConf
  /-- Elapsed time of the last confirmation, in LOCKED (R6). -/
  lastConf : Option Nat
  /-- Holdover start, kept time (R6). -/
  holdStart : Option Nat
  lastOffset : Option Int
  lastInterval : Option Nat
  lastPhase : Option PhaseSource
  /-- Civil minute last issued or reached by a step, from 2000-01-01 00:00 (log 35). -/
  minuteSeen : Option Nat
  /-- Civil half-minute last issued or reached by a step (log 35). -/
  halfSeen : Option Nat
deriving DecidableEq, Repr

/-- The qualification states (R15). -/
inductive Qual
  | absent | checking | confirmed
deriving DecidableEq, Repr

/-- The second-mark states (R17). -/
inductive SecState
  | absent | unstable | stable
deriving DecidableEq, Repr

/-- The elapsed and the kept time latched at an edge (R14, R17). -/
structure Latch where
  elapsed : Nat
  kept : Option Nat
  /-- An accepted SETTIME has set kept time since (R8). -/
  superseded : Bool
deriving DecidableEq, Repr

/-- An edge of the second-mark line, and whether the state its interval left was STABLE (R18, R19). -/
structure SecEdge where
  latch : Latch
  stable : Bool
deriving DecidableEq, Repr

/-- A valid telegram: its label in standard time, ms from 2000-01-01, and its flags (R11, R13). -/
structure Telegram where
  label : Nat
  seasonal : Bool
  announce : Bool
deriving DecidableEq, Repr

/-- The pending telegram (R13), the characters it came as, and the deadline of its mark (R14). -/
structure PendingTelegram where
  telegram : Telegram
  chars : List Byte
  deadline : Nat
deriving DecidableEq, Repr

/-- A telegram mark waiting for its AUTO decision (R18): the second mark before it, and the telegram whose
confirmation is owed, if one is. -/
structure Decision where
  mark : Latch
  before : Option SecEdge
  confirms : Option Telegram
deriving DecidableEq, Repr

/-- The reference monitor (chapter 1). -/
structure RefMonitor where
  /-- The record in progress: the elapsed time of its start and its characters so far (R12). -/
  record : Option (Nat × List Byte)
  /-- The last telegram as received, and whether it passed (R24). -/
  lastTelegram : Option (List Byte × Bool)
  lastTelegramTime : Option Nat
  pending : Option PendingTelegram
  qual : Qual
  count : Nat
  predecessor : Option Telegram
  prevMark : Option Nat
  second : SecState
  secondCount : Nat
  lastEdge : Option SecEdge
  skew : Option Int
  deciding : List Decision
deriving DecidableEq, Repr

/-! ## Day programme -/

/-- The trigger of a schedule entry (R26): a civil minute of the day, or a sun offset in minutes. -/
inductive Trigger
  | clock (minute : Nat) | dusk (offset : Int) | dawn (offset : Int)
deriving DecidableEq, Repr

/-- The action of a schedule entry (R26). The interval of a toll is in s. -/
inductive Action
  | tune (tune repeats : Nat) | toll (bell count interval : Nat) | peal (plan : Nat) | scene (scene : Nat)
  | quietBegin | quietEnd
deriving DecidableEq, Repr

/-- A date window: the from date and the to date (R26). -/
structure Window where
  fromMonth : Nat
  fromDay : Nat
  toMonth : Nat
  toDay : Nat
deriving DecidableEq, Repr

/-- A schedule entry (R26). -/
structure Entry where
  used : Bool
  trigger : Trigger
  /-- Weekday marks, bit 0 Monday to bit 6 Sunday. -/
  days : Nat
  /-- Class marks, bit 0 A to bit 3 D. -/
  classes : Nat
  window : Option Window
  action : Action
  lateness : Nat
deriving DecidableEq, Repr

/-- A special-day entry (R29). Class 0 is A, 3 is D. -/
structure Special where
  used : Bool
  month : Nat
  day : Nat
  year : Option Nat
  cls : Nat
deriving DecidableEq, Repr

/-- A sun table entry, minutes of the day in standard time (R31). -/
structure Sun where
  dusk : Option Nat
  dawn : Option Nat
deriving DecidableEq, Repr

/-- The day class of a date (R30). -/
inductive DayClass
  | special (cls : Nat) | weekday (day : Nat)
deriving DecidableEq, Repr

/-- What fixed a dusk or dawn instant (R32, R33). -/
inductive SunSource
  | light | table
deriving DecidableEq, Repr

/-- The today record (R34). The date is in days from 2000-01-01; a `last` of `none` is START_OF_DAY. -/
structure Today where
  day : Nat
  cls : DayClass
  special : Option Nat
  dusk : Option (Nat × SunSource)
  dawn : Option (Nat × SunSource)
  last : Option Nat
deriving DecidableEq, Repr

/-- The day programme's own state (chapter 2). A firing guard is a civil minute from 2000-01-01 00:00, or none (R36). -/
structure DayProgramme where
  today : Option Today
  guards : Table (Option Nat)
  quiet : Bool
deriving DecidableEq, Repr

/-- Why a schedule entry was not carried out (R43). -/
inductive SkipReason
  | late | quiet | refused
deriving DecidableEq, Repr

/-! ## Replies -/

/-- The reply statuses, in the order of their values (R181). -/
inductive Status
  | ok | accepted | busy | unknownKind | badLength | range | noEntry | duplicate
  | inUse | locked | access | reserve | queueFull | starting | referenceHeld | notSet
deriving DecidableEq, Repr

/-! ## Strike generator, tune library and chime player -/

/-- The velocity of a blow (3.4). -/
inductive Velocity
  | soft | medium | full
deriving DecidableEq, Repr

/-- SETTINGS group 1, STRIKE (R68). -/
structure StrikeSettings where
  quarters : Bool
  hours : Bool
  hourBell : Nat
  q1 : Option Nat
  q2 : Option Nat
  q3 : Option Nat
  q4 : Option Nat
  /-- Hour gap, ms. -/
  gap : Nat
  velocity : Velocity
  /-- Strike lateness, s. -/
  lateness : Nat
  /-- Note wait limit, ms. -/
  noteWait : Nat
deriving DecidableEq, Repr

/-- A tune directory entry (R74). -/
structure Tune where
  used : Bool
  first : Nat
  count : Nat
  tempo : Nat
deriving DecidableEq, Repr

/-- A note (R75). -/
structure Note where
  used : Bool
  bells : List Nat
  velocity : Velocity
  /-- Interval, ms. -/
  interval : Nat
deriving DecidableEq, Repr

/-- The kinds of performance (R77). -/
inductive PerfKind
  | quarter | hour | tune | toll
deriving DecidableEq, Repr

/-- Who offered a performance (R77). -/
inductive Origin
  | generator | schedule | request
deriving DecidableEq, Repr

/-- What a performance plays: a tune (QUARTER, TUNE) or strokes of one bell (HOUR, TOLL), interval in ms (R77). -/
inductive PerfArgs
  | tune (tune repeats : Nat)
  | strokes (bell count interval : Nat) (velocity : Velocity)
deriving DecidableEq, Repr

/-- A performance record (R77), with the mark of the blocked head (R79). -/
structure Perf where
  id : Nat
  kind : PerfKind
  args : PerfArgs
  origin : Origin
  entry : Option Nat
  due : Nat
  deadline : Nat
  playing : Bool
  blocked : Bool
  /-- Repeat reached, 1-9, for PLAYING. -/
  rep : Nat
  /-- Note reached, 0-511, for PLAYING. -/
  note : Nat
  lost : Nat
  clipped : Nat
deriving DecidableEq, Repr

/-- Why a performance ended (R91). -/
inductive EndReason
  | complete | cancelled | access | reserve | preempted
deriving DecidableEq, Repr

/-- Why a performance was dropped (R91). -/
inductive DropReason
  | queueFull | badTune | badBell | late | cancelled
deriving DecidableEq, Repr

/-- The phases of a PLAYING performance (4.6). -/
inductive Phase
  /-- The note's outstanding blows, its wait timer, and whether its bells are still being dealt with (R84). -/
  | noteWait (outstanding : List Nat) (deadline : Nat) (dealing : Bool)
  | interval (due : Nat)
  | tail (ends : Nat)
  | ending (reason : EndReason)
deriving DecidableEq, Repr

/-- The run and tempo of a tune as read at its start (R81). -/
structure Run where
  first : Nat
  count : Nat
  tempo : Nat
deriving DecidableEq, Repr

/-- What the player holds for the PLAYING performance (4.6). -/
structure Playing where
  id : Nat
  run : Option Run
  /-- The tune protected by R76. -/
  tune : Option Nat
  bells : List Nat
  started : Nat
  marks : List Nat
  phase : Phase
deriving DecidableEq, Repr

/-- The strike generator and the chime player (chapter 4). The quarter guard counts quarter hours of civil time
from 2000-01-01 00:00 (R70). -/
structure Chime where
  queue : List Perf
  nextId : Nat
  playing : Option Playing
  quarterGuard : Option Nat
deriving DecidableEq, Repr

/-! ## Bell table -/

/-- A bell record (R46). -/
structure BellRec where
  inUse : Bool
  fitted : Bool
  enabled : Bool
  soft : Nat
  medium : Nat
  full : Nat
  recovery : Nat
  units : Nat
  swing : Option Nat
  coilCheck : Bool
deriving DecidableEq, Repr

/-- A claim with its holder (R46). -/
inductive Claim
  | free | struck (id : Nat) | swung (unit : Nat) | settling (unit : Nat)
deriving DecidableEq, Repr

/-- A hammer's state (3.4), with the blow in WAITING, the pulse's end and sense instant, and the recovery's end. -/
inductive Hammer
  | idle
  | waiting (velocity : Velocity) (id : Nat)
  | pulse (ends : Nat) (sense : Option Nat)
  | recovery (ends : Nat)
deriving DecidableEq, Repr

/-- A hammer fault (R46). -/
inductive HammerFault
  | none | opened | short
deriving DecidableEq, Repr

/-- The dynamic fields of a bell (R46), and a release deferred to its pulse's end (R50). -/
structure Bell where
  claim : Claim
  pending : Bool
  hammer : Hammer
  held : Option (Velocity × Nat)
  releasing : Bool
  fault : HammerFault
  newMark : Bool
  opens : Nat
  reading : Option Nat
deriving DecidableEq, Repr

/-- SETTINGS group 4, HAMMER CHECK (R64). -/
structure HammerSettings where
  opened : Nat
  short : Nat
deriving DecidableEq, Repr

/-! ## Swing controller and ring sequencer -/

/-- The brake of a swing unit (R93). -/
inductive Brake
  | coast | counter
deriving DecidableEq, Repr

/-- A swing unit record (R93): degrees, s, ms, counts and units as the table there gives them. -/
structure SwingRec where
  counts : Nat
  target : Nat
  band : Nat
  rest : Nat
  settle : Nat
  raise : Nat
  lower : Nat
  width : Nat
  window : Nat
  units : Nat
  brake : Brake
  tolerance : Nat
deriving DecidableEq, Repr

/-- The states of a swing unit (R94). -/
inductive UnitState
  | rest | raising | swinging | lowering | settling | fault
deriving DecidableEq, Repr

/-- The fault kinds of a swing unit (R94). -/
inductive UnitFault
  | none | encoderSlip | encoderLost | raiseTimeout | lowerTimeout
deriving DecidableEq, Repr

/-- The lowering kinds (R94). -/
inductive LowKind
  | normal | access | reserve
deriving DecidableEq, Repr

/-- The owner of a unit (R94). -/
inductive Owner
  | ring | peal
deriving DecidableEq, Repr

/-- A unit's drive (R94): the direction, and for WAITING the window's expiry (none for a kick) and whether the
impulse brakes (R101). -/
inductive Drive
  | idle
  | waiting (dir : Dir) (window : Option Nat) (braking : Bool)
  | impulse (dir : Dir) (ends : Nat)
deriving DecidableEq, Repr

/-- The dynamic fields of a swing unit (R94), its reversal tracker (R95, R114) and its timers (R99-R103), each the
elapsed time of its expiry. -/
structure SwingUnit where
  state : UnitState
  fault : UnitFault
  newMark : Bool
  referenced : Bool
  angle : Int
  lastDir : Dir
  amplitude : Option Nat
  slips : Nat
  turns : Nat
  ringEnd : Option Nat
  startPending : Bool
  lowKind : Option LowKind
  drive : Drive
  owner : Option Owner
  /-- The direction in which the tracker's furthest point was reached (log 20). -/
  trackDir : Dir
  furthest : Int
  prevReversal : Int
  raiseLimit : Option Nat
  lowerLimit : Option Nat
  noTurn : Option Nat
  settle : Option Nat
  /-- A turn was taken since the unit entered SETTLING (R99, log 21). -/
  turned : Bool
  /-- Minutes of the RING that raised the unit or set its start pending (R107). -/
  minutes : Nat
deriving DecidableEq, Repr

/-- The causes of a UNIT notice, in R113's order. DESIGN CHOICE (log 48): its "the fault kind" stands for the four kinds of
R94 but NONE, each a code between SETTLED and CLEARFAULT. -/
inductive UnitCause
  | start | handed | target | ringEnd | halt | pealStop | access | reserve | smallReversal | noTurn | settled
  | encoderSlip | encoderLost | raiseTimeout | lowerTimeout | clearfault
deriving DecidableEq, Repr

/-- Why a pending start failed (R113). -/
inductive FailReason
  | access | reserve | halt | pealStop
deriving DecidableEq, Repr

/-- The refusals of a start (R98), with the reasons a start step is skipped for besides, in the order of R110's table.
DESIGN CHOICE (log 49): HALTED, which R110 names outside that table, has the last code. -/
inductive StartRefusal
  | fault | noBell | inUse | notReady | access | reserve | halted
deriving DecidableEq, Repr

/-- The precedence of a plan (R109). -/
inductive Precedence
  | wait | preempt
deriving DecidableEq, Repr

/-- A ring plan (R109). -/
structure Plan where
  used : Bool
  units : List Nat
  /-- Start stagger, s. -/
  startGap : Nat
  /-- Duration, min. -/
  duration : Nat
  reverse : Bool
  /-- Stop stagger, s. -/
  stopGap : Nat
  precedence : Precedence
deriving DecidableEq, Repr

/-- The states of the peal run (R110, R111). -/
inductive RunState
  | idle | starting | running | stopping
deriving DecidableEq, Repr

/-- The causes of a RUN notice (R113). -/
inductive RunCause
  | accepted | lastStep | duration | endpeal | access | reserve | membersDone
deriving DecidableEq, Repr

/-- The peal run (R110-R112). Instants are elapsed ms. -/
structure PealRun where
  state : RunState
  plan : Nat
  first : Nat
  ends : Nat
  steps : Nat
  members : List Nat
  halted : List Nat
  /-- The members whose stop step is still to be taken, in stop order. -/
  stops : List Nat
  nextStop : Nat
  /-- The stop stagger in force, ms. -/
  stopGap : Nat
deriving DecidableEq, Repr

/-! ## Dial drive -/

/-- A dial train record (R115): s, ms, s, min and units. -/
structure DialRec where
  inUse : Bool
  interval : Nat
  width : Nat
  catchUp : Nat
  hold : Nat
  units : Nat
deriving DecidableEq, Repr

/-- The states of a dial (R117). -/
inductive DialState
  | unknown | stopped | inStep | advancing | holding
deriving DecidableEq, Repr

/-- A dial's drive, with the REPEAT mark and the impulse's end (R117). -/
inductive DialDrive
  | idle
  | waiting (again : Bool)
  | impulse (again : Bool) (ends : Nat)
deriving DecidableEq, Repr

/-- The dynamic fields of a dial (R117). -/
structure Dial where
  state : DialState
  position : Option Nat
  next : Option Dir
  last : Option Dir
  inFlight : Bool
  stop : Bool
  kept : Option Nat
  drive : DialDrive
  spacing : Option Nat
deriving DecidableEq, Repr

/-- The causes of a DIAL notice (R126). -/
inductive DialCause
  | step | timeSet | timeUnset | mainsLoss | mainsReturn | caughtUp | fellBehind | targetReached
  | dialset | dialstop | table | start
deriving DecidableEq, Repr

/-- The dial drive: the dials, and the civil half-minute of the twelve-hour face, 0-1439, from which the targets were
last computed (R117). -/
structure DialDriveState where
  dials : Table Dial
  half : Option Nat
deriving DecidableEq, Repr

/-! ## Floodlight controller -/

/-- The kinds of circuit (R128). -/
inductive CircuitKind
  | switched | dimmed
deriving DecidableEq, Repr

/-- A circuit record (R128). -/
structure CircuitRec where
  inUse : Bool
  kind : CircuitKind
  rated : Nat
  surge : Nat
  /-- Warm-up time, s. -/
  warmUp : Nat
  /-- Restrike time, s. -/
  restrike : Nat
  /-- Fade rate, % per s. -/
  fade : Nat
  shed : Nat
  sheddable : Bool
  accessLight : Bool
deriving DecidableEq, Repr

/-- The states of a circuit (R130): those of a SWITCHED one, three of which a DIMMED one has. DEDUCED (log 18): one list codes
both kinds, so that ON is 3 of either. -/
inductive CircuitState
  | off | waiting | warming | on | cooling
deriving DecidableEq, Repr

/-- The sources of demand (R130). -/
inductive DemandSource
  | access | override | scene
deriving DecidableEq, Repr

/-- An override: its level and its expiry in elapsed time, or none (R130). -/
structure Override where
  level : Nat
  expiry : Option Nat
deriving DecidableEq, Repr

/-- The dynamic fields of a circuit (R130). Units held and requested are the arbiter's. -/
structure Circuit where
  state : CircuitState
  demand : Nat
  source : DemandSource
  sceneLevel : Nat
  override : Option Override
  /-- Output level of a DIMMED circuit. -/
  level : Nat
  /-- Fade target. -/
  target : Nat
  shed : Bool
  /-- End of warm-up or restrike. -/
  timer : Option Nat
  /-- The next fade step (R138). -/
  fade : Option Nat
deriving DecidableEq, Repr

/-- The causes of a FLOOD notice (R144). -/
inductive FloodCause
  | demand | grant | warmed | restrikeEnd | fadedOut | shed | restored | mainsLoss | mainsReturn | table | start
deriving DecidableEq, Repr

/-- A scene: for each circuit C0-C11 a level, or `none` for UNCHANGED (R132). -/
structure Scene where
  used : Bool
  levels : List (Option Nat)
deriving DecidableEq, Repr

/-- The floodlight controller (chapter 7). -/
structure Floods where
  circuits : Table Circuit
  lastScene : Option Nat
  /-- The shed signal as last received (R145). -/
  shedSeen : Bool
deriving DecidableEq, Repr

/-! ## Light monitor and converter -/

/-- SETTINGS group 2, LIGHT (R155). -/
structure LightSettings where
  /-- Sun margin, min. -/
  margin : Nat
  fallback : Option Nat
  /-- Light interval, s. -/
  interval : Nat
  dusk : Nat
  dawn : Nat
  confirm : Nat
deriving DecidableEq, Repr

/-- The light states (R153). -/
inductive LightState
  | unknown | light | dark
deriving DecidableEq, Repr

/-- The causes of a LIGHT notice (R154). -/
inductive LightCause
  | decided | confirmed | sensorFault | sensorRestored
deriving DecidableEq, Repr

/-- The light monitor (R151-R153). The sensor fault is OUT_OF_RANGE where `fault` is set. -/
structure Light where
  state : LightState
  window : List Nat
  darkRun : Nat
  lightRun : Nat
  outRun : Nat
  goodRun : Nat
  fault : Bool
  newMark : Bool
  average : Option Nat
  reading : Option Nat
  /-- The next sample instant. -/
  sample : Option Nat
deriving DecidableEq, Repr

/-- A conversion request (R147). -/
inductive Conversion
  | coil (bell : Nat) | light
deriving DecidableEq, Repr

/-- The converter (R147, R148): the requests waiting, and the conversion in flight with its end. -/
structure Converter where
  queue : List Conversion
  inFlight : Option (Conversion × Nat)
deriving DecidableEq, Repr

/-! ## Supply arbiter -/

/-- SETTINGS group 3, SUPPLY (R158). -/
structure SupplySettings where
  budget : Nat
  delay : Nat
deriving DecidableEq, Repr

/-- The supply classes, from the highest (R159). -/
inductive SupplyClass
  | hammer | dial | swing | flood
deriving DecidableEq, Repr

/-- A waiting request (R159): the joining time, and the expiry of the shed timer of a HAMMER or DIAL request (R164). -/
structure SupplyRequest where
  claimant : Claimant
  units : Nat
  joined : Nat
  shedAt : Option Nat
deriving DecidableEq, Repr

/-- The supply arbiter (R159, R164): the units held by claimant number, B0-B15, D0-D3, S0-S5, C0-C11. -/
structure Supply where
  grants : Table Nat
  waiting : List SupplyRequest
  shed : Bool
deriving DecidableEq, Repr

/-- The arbiter's own causes of a SUPPLY notice (R166). -/
inductive SupplyCause
  | shedSet | shedClear | oversize
deriving DecidableEq, Repr

/-! ## Power monitor, store and start -/

/-- The mains states (R168). -/
inductive Mains
  | normal | reserve | returning
deriving DecidableEq, Repr

/-- The power monitor (R168, R170, R171): the states, their timers' expiries, and what the three lines show. -/
structure Power where
  mains : Mains
  settle : Option Nat
  access : Access
  accessTimer : Option Nat
  key : Key
  keyTimer : Option Nat
  linePresent : Bool
  accessShows : Access
  keyShows : Key
deriving DecidableEq, Repr

/-- The stored tables, in the order of R172. -/
inductive TableId
  | bell | swing | plan | tune | note | dial | circuit | scene | schedule | special | sun
  | time | strike | light | supply | hammerCheck | notice
deriving DecidableEq, Repr

/-- The seventeen tables (R172, R184). The NOTICE group is its class mask, bit 0 for class 0 (R190). -/
structure Tables where
  bell : Table BellRec
  swing : Table SwingRec
  plan : Table Plan
  tune : Table Tune
  note : Table Note
  dial : Table DialRec
  circuit : Table CircuitRec
  scene : Table Scene
  schedule : Table Entry
  special : Table Special
  sun : Table Sun
  time : TimeSettings
  strike : StrikeSettings
  light : LightSettings
  supply : SupplySettings
  hammerCheck : HammerSettings
  notice : Nat
deriving DecidableEq, Repr

/-- A save in flight (R173): the table being written, the tables after it, and those that failed, in order. -/
structure Saving where
  writing : TableId
  rest : List TableId
  failed : List TableId
deriving DecidableEq, Repr

/-- The store (R172, R173): the stored contents, the tables whose stored check fails, and the save in flight. -/
structure Store where
  stored : Tables
  bad : List TableId
  saving : Option Saving
deriving DecidableEq, Repr

/-- The phases of a start (10.4). -/
inductive StartPhase
  | loading | ready
deriving DecidableEq, Repr

/-- The causes of a start (10.4). -/
inductive StartCause
  | powerOn | resetLine | restart
deriving DecidableEq, Repr

/-- The start sequence (R174-R176): its phase and cause, the tables that failed their check, whether the part is held by
its reset line or without supply, whether retained memory passes its check, and the kept time at the opening of LOADING. -/
structure Start where
  phase : StartPhase
  cause : StartCause
  failed : List TableId
  resetHeld : Bool
  supplied : Bool
  retainedGood : Bool
  keptAtOpening : Option Nat
deriving DecidableEq, Repr

/-! ## Link interface -/

/-- The kinds of a discarded frame's error (R180, R191). -/
inductive LinkError
  | none | gap | length | framing | check
deriving DecidableEq, Repr

/-- The receiver (R180): in FRAME the length and the bytes of kind and body so far; in CHECK kind and body, and
the first check byte where it has come. -/
inductive Receiver
  | hunting
  | length
  | frame (length : Nat) (got : List Byte)
  | check (got : List Byte) (first : Option Byte)
deriving DecidableEq, Repr

/-- The line rates, in the order of their values in RATE (R178). -/
inductive Rate
  | r19200 | r57600 | r115200
deriving DecidableEq, Repr

/-- A frame the part owes or builds: kind and body. What goes on the line for it is `Frame.wire` (R179). -/
structure Frame where
  kind : Byte
  body : List Byte
deriving DecidableEq, Repr

/-- What the end of the slot's reply brings about besides freeing the slot (R177, R178). -/
inductive After
  | nothing | rate (rate : Rate) | restart
deriving DecidableEq, Repr

/-- A reply owed (R183): the request slot's, or an entry of the answer list. -/
structure Owed where
  frame : Frame
  slot : Bool
  after : After
deriving DecidableEq, Repr

/-- What a frame being sent is (R183). -/
inductive Sent
  | reply (slot : Bool) (after : After) | listing (last : Bool) | notice
deriving DecidableEq, Repr

/-- A listing in progress (R187): the table, the next used index and the last index of the range. -/
structure Listing where
  table : Nat
  next : Nat
  last : Nat
deriving DecidableEq, Repr

/-! ## Notices (R188) -/

/-- A notice by its class and form, with the fields of the owning chapter. -/
inductive NoticeBody
  /-- START (R176). -/
  | start (cause : StartCause) (warm : Bool) (failed : List TableId) (mains : Mains) (access : Access) (key : Key)
  /-- TIME (R24): the step in ms, the new civil time in ms. -/
  | time (cause : TimeCause) (old new : TimeState) (step : Int) (civil : Option Nat)
  /-- STRIKE (R91). -/
  | started (perf : Perf)
  | ended (perf : Perf) (reason : EndReason) (started : Nat)
  | dropped (perf : Perf) (hasId : Bool) (reason : DropReason)
  /-- RING (R113). -/
  | unit (unit : Nat) (bell : Option Nat) (old new : UnitState) (cause : UnitCause) (owner : Option Owner)
      (amplitude : Option Nat) (low : Option LowKind) (fault : UnitFault)
  | pending (unit : Nat) (bell : Option Nat) (failed : Option FailReason)
  | run (plan : Nat) (old new : RunState) (cause : RunCause)
  | step (plan step unit : Nat) (reason : StartRefusal)
  /-- DIAL (R126). -/
  | dial (dial : Nat) (old new : DialState) (cause : DialCause) (position target difference : Option Nat)
      (next : Option Dir)
  /-- FLOOD (R144). -/
  | flood (circuit : Nat) (old new : CircuitState) (cause : FloodCause) (demand : Nat) (source : DemandSource)
      (level units : Nat)
  /-- LIGHT (R154). -/
  | light (old new : LightState) (cause : LightCause) (average : Option Nat) (fault : Bool)
  /-- FAULT (R63, R104, R154). -/
  | faultBell (bell : Nat) (fault : HammerFault) (reading : Nat) (claim : Claim)
  | faultSwing (unit : Nat) (bell : Option Nat) (fault : UnitFault) (amplitude : Option Nat)
  | faultLight (reading : Nat) (before : LightState)
  /-- SUPPLY (R166, R168). -/
  | supply (cause : SupplyCause) (budget granted waiting : Nat) (first : Option (Claimant × Nat))
      (oversize : Option (Claimant × Nat))
  | mains (old new : Mains) (elapsed : Nat)
  /-- ACCESS (R170). -/
  | access (old new : Access) (elapsed : Nat)
  /-- SAVED (R173): the tables that failed, in order. -/
  | saved (failed : List TableId)
  /-- SKIPPED (R43, R73): dates in days, minutes of the day; the quarter counted from 2000-01-01, civil time in ms. -/
  | skipped (entry day minute now : Nat) (action : Action) (reason : SkipReason) (status : Status)
  | skippedStrike (kind : PerfKind) (quarter civil : Nat) (reason : SkipReason)
deriving DecidableEq, Repr

/-- A notice in the queue (R188, R189). -/
structure Notice where
  lost : Bool
  lostCount : Nat
  elapsed : Nat
  body : NoticeBody
deriving DecidableEq, Repr

/-- The link interface (chapter 11). -/
structure Link where
  rate : Rate
  receiver : Receiver
  /-- Elapsed time of the last byte of the frame in progress; none in HUNTING (R180). -/
  lastByte : Option Nat
  lastError : LinkError
  lastErrorTime : Option Nat
  errorCount : Nat
  slotBusy : Bool
  owed : List Owed
  /-- The bytes of the frame being sent (R179), and what it is. -/
  sending : Option (List Byte × Sent)
  listing : Option Listing
  notices : List Notice
  overrun : Bool
  lostCount : Nat
deriving DecidableEq, Repr

/-! ## Messages between blocks -/

/-- What one block hands another inside a command (spec/00_scope.md, "How the blocks work together"). The handlers are in
Machine/Cascade.lean. -/
inductive Msg
  /-- A notice handed to the link interface (R189). -/
  | notice (body : NoticeBody)
  /-- A grant told to its claimant (R161), the shed signal handed on (R164). -/
  | granted (claimant : Claimant) (units : Nat)
  | shedSet
  | shedClear
  /-- A strikeable report (R48). -/
  | report (bell : Nat)
  /-- A blow request (R56), the end of a note's requests (R84), a withdrawal (R59). -/
  | blow (bell : Nat) (velocity : Velocity) (id : Nat)
  | noteDealt
  | withdraw (bell id : Nat)
  /-- A release request (R50), a deferred release at its pulse's end, the answer (R50, R87). -/
  | release (bells : List Nat) (id : Nat)
  | completeRelease (bell : Nat)
  | releaseCheck
  /-- An abort request (R89), of the performance with the id where one is named. -/
  | abort (reason : EndReason) (id : Option Nat)
  /-- The bell table's HANDED and FAILED (R52). -/
  | handed (unit : Nat)
  | failed (unit : Nat) (reason : FailReason)
  /-- A start step of the run (R110). -/
  | startStep
  /-- The judging of a candidate: entry, trigger minute, minute evaluated (R35). -/
  | judgeEntry (entry minute now : Nat)
  /-- A civil minute boundary (R4), civil steps (R5), the time-set event (R5), the loss of time (R2), to each block. -/
  | minuteDay (minute : Nat)
  | minuteStrike (minute : Nat)
  | stepDay (old new : Nat)
  | stepStrike (old new : Nat)
  | stepDials (civil : Nat)
  | timeSetDay (civil : Nat)
  | timeSetStrike (civil : Nat)
  | timeSetDials (civil : Nat)
  | unsetDials
  | unsetFloods
  /-- A transition of the light state to the day programme and the floodlights (R154). -/
  | transitionDay (state : LightState)
  | transitionFloods (state : LightState)
  /-- The demands of circuits judged afresh (R131). -/
  | judgeCircuits (circuits : List Nat) (cause : FloodCause)
  /-- Mains return and access changes to each block (R169, R170). -/
  | returnDials (cause : DialCause)
  | returnFloods (cause : FloodCause)
  | returnLight
  | accessBells
  | accessSwing
  | accessRun
  | accessFloods
  /-- The blocks' work at READY (R176). -/
  | readyTime
  | readyDay
  | readyStrike
  | readyDials
deriving DecidableEq, Repr

end Sys2Proof.Machine
end

