-- ==== Sys2Proof/Machine/Calendar.lean ====
section
/-! DEFINITION. Dates and times of day, 2000 to 2099 (R2). A date is held as days from 2000-01-01, a time as
milliseconds from 2000-01-01 00:00:00.000. In this range every fourth year from 2000 is a leap year. -/

namespace Sys2Proof.Machine

/-- A Gregorian date. -/
structure Date where
  year : Nat
  month : Nat
  day : Nat
deriving DecidableEq, Repr

def isLeap (year : Nat) : Bool := year % 4 = 0

/-- The days of a month, February with 29 in a leap year. -/
def monthDays (leap : Bool) (month : Nat) : Nat :=
  if month = 2 then (if leap then 29 else 28)
  else if month = 4 ∨ month = 6 ∨ month = 9 ∨ month = 11 then 30 else 31

/-- The days before a month in its year: the first of the month counted from 1 January. -/
def daysBefore (leap : Bool) : Nat → Nat
  | 0 => 0
  | m + 1 => if m = 0 then 0 else daysBefore leap m + monthDays leap m

/-- The first day of a year, in days from 2000-01-01. -/
def yearStart (year : Nat) : Nat := 365 * (year - 2000) + (year - 2000 + 3) / 4

/-- The day of a date. -/
def dayOf (d : Date) : Nat := yearStart d.year + daysBefore (isLeap d.year) d.month + (d.day - 1)

/-- The year of a day. -/
def yearOf (day : Nat) : Nat :=
  let r := day % 1461
  2000 + 4 * (day / 1461) + (if r < 366 then 0 else 1 + (r - 366) / 365)

/-- The month and the day of the month of a day of the year counted from 0; `months` is how many months are left to try. -/
def monthDayOf (leap : Bool) : Nat → Nat → Nat × Nat
  | 0, rest => (12, rest + 1)
  | months + 1, rest =>
    let month := 12 - months
    if rest < monthDays leap month then (month, rest + 1) else monthDayOf leap months (rest - monthDays leap month)

/-- The date of a day. -/
def dateOf (day : Nat) : Date :=
  let y := yearOf day
  let md := monthDayOf (isLeap y) 12 (day - yearStart y)
  ⟨y, md.1, md.2⟩

/-- The weekday of a day, 1 = Monday; 2000-01-01 was a Saturday. -/
def weekdayOf (day : Nat) : Nat := (day + 5) % 7 + 1

/-- The date exists, in 2000-2099. -/
def Date.valid (d : Date) : Bool :=
  2000 ≤ d.year && d.year ≤ 2099 && 1 ≤ d.month && d.month ≤ 12 && 1 ≤ d.day && d.day ≤ monthDays (isLeap d.year) d.month

/-- A month and a day valid for it, February taken as 29 days (R26, R29). -/
def validMonthDay (month day : Nat) : Bool :=
  1 ≤ month && month ≤ 12 && 1 ≤ day && day ≤ monthDays true month

/-- The date in ms. -/
def dateMs (d : Date) : Nat := dayOf d * Config.dayMs

/-- A time of day in ms. -/
def timeMs (hour minute second ms : Nat) : Nat := ((hour * 60 + minute) * 60 + second) * 1000 + ms

def dayOfMs (t : Nat) : Nat := t / Config.dayMs
def msOfDay (t : Nat) : Nat := t % Config.dayMs
def minuteOfMs (t : Nat) : Nat := t / 60000

/-- The sun table's entry for a day: 1-366 with 29 February included in every year (R31). -/
def sunIndex (day : Nat) : Nat :=
  let d := dateOf day
  daysBefore true d.month + d.day

/-- The instant of a seasonal edge in a year, in kept ms: the given hour on the week's occurrence of the weekday (R21). -/
def edgeInstant (e : SeasonEdge) (year : Nat) : Nat :=
  let first := dayOf ⟨year, e.month, 1⟩
  let offset := (e.weekday + 7 - weekdayOf first) % 7
  let day := match e.week with
    | some w => first + offset + 7 * (w - 1)
    | none =>
      let length := monthDays (isLeap year) e.month
      first + offset + 7 * ((length - 1 - offset) / 7)
  day * Config.dayMs + e.hour * 3600000

/-- Seasonal time is in force at a kept time (R21). Instants that fall together are log 10's. -/
def seasonal (t : TimeSettings) (kept : Nat) : Bool :=
  let year := yearOf (dayOfMs kept)
  let b := edgeInstant t.begins year
  let e := edgeInstant t.ends year
  if b < e then b ≤ kept && kept < e
  else if e < b then b ≤ kept || kept < e
  else Config.seasonTie year

/-- The offset the seasonal rule gives at a kept time, min (R21). -/
def ruleOffset (t : TimeSettings) (kept : Nat) : Nat :=
  if t.offset = 0 then 0 else if seasonal t kept then t.offset else 0

/-- The seasonal instants of a year that lie after a kept time. -/
def edgesAfter (t : TimeSettings) (kept year : Nat) : List Nat :=
  [edgeInstant t.begins year, edgeInstant t.ends year].filter (kept < ·)

/-- The first seasonal instant after a kept time: this year's or the next year's. -/
def nextEdge (t : TimeSettings) (kept : Nat) : Option Nat :=
  let year := yearOf (dayOfMs kept)
  (edgesAfter t kept year ++ edgesAfter t kept (year + 1)).min?

end Sys2Proof.Machine
end

