-- ==== Sys2Proof/Machine/Tables.lean ====
section
/-! DEFINITION. Reading and writing a table, and the canonical form a table keeps (log 34): indices strictly rising, and
no entry equal to the table's default, so that equal tables are equal data. -/

namespace Sys2Proof

/-- The entry at an index, the default where none is listed. -/
def Table.get {α : Type} (d : α) : Table α → Nat → α
  | [], _ => d
  | (k, v) :: t, i => if k = i then v else Table.get d t i

/-- A table with an entry at its place by index. -/
def Table.insert {α : Type} : Table α → Nat → α → Table α
  | [], i, v => [(i, v)]
  | (k, w) :: t, i, v => if i < k then (i, v) :: (k, w) :: t else (k, w) :: Table.insert t i v

/-- The table without an index. -/
def Table.remove {α : Type} (t : Table α) (i : Nat) : Table α := t.filter fun e => e.1 ≠ i

/-- The table with the entry at an index replaced; an entry equal to the default is not listed. -/
def Table.put {α : Type} [DecidableEq α] (d : α) (t : Table α) (i : Nat) (v : α) : Table α :=
  if v = d then Table.remove t i else Table.insert (Table.remove t i) i v

/-- Every index of the table is above the bound, rising, and no entry is the default. -/
def Table.wfAbove {α : Type} [DecidableEq α] (d : α) : Option Nat → Table α → Bool
  | _, [] => true
  | b, (k, v) :: t => decide (∀ n ∈ b, n < k) && decide (v ≠ d) && Table.wfAbove d (some k) t

/-- The canonical form of a table. -/
def Table.wf {α : Type} [DecidableEq α] (d : α) (t : Table α) : Bool := Table.wfAbove d none t

/-- The sum of a table of numbers. -/
def Table.sum (t : Table Nat) : Nat := (t.map Prod.snd).sum

end Sys2Proof
end

