-- ==== Sys2Proof/Machine/Defaults.lean ====
section
/-! DEFINITION. The default of every table field, and the value every block starts with. Where the manual gives no
default the log entry is named. -/

namespace Sys2Proof.Machine

/-! ## Defaults of the tables -/

/-- R46. -/
def bellRec0 : BellRec :=
  { inUse := false, fitted := false, enabled := false, soft := 40, medium := 80, full := 120, recovery := 600,
    units := 8, swing := none, coilCheck := false }

/-- R93. -/
def swingRec0 : SwingRec :=
  { counts := 4096, target := 90, band := 5, rest := 3, settle := 60, raise := 180, lower := 300, width := 200,
    window := 150, units := 20, brake := .counter, tolerance := 8 }

/-- R109. -/
def plan0 : Plan :=
  { used := false, units := [0], startGap := 10, duration := 30, reverse := true, stopGap := 10, precedence := .wait }

/-- R74. -/
def tune0 : Tune := { used := false, first := 0, count := 1, tempo := 100 }

/-- R75. -/
def note0 : Note := { used := false, bells := [0], velocity := .medium, interval := 1000 }

/-- R115. -/
def dialRec0 : DialRec := { inUse := false, interval := 30, width := 500, catchUp := 2, hold := 360, units := 6 }

/-- R128. -/
def circuitRec0 : CircuitRec :=
  { inUse := false, kind := .dimmed, rated := 10, surge := 10, warmUp := 0, restrike := 0, fade := 10, shed := 0,
    sheddable := false, accessLight := false }

/-- R132. -/
def scene0 : Scene := { used := false, levels := List.replicate 12 none }

/-- R45 makes the entry unused. DESIGN CHOICE (log 17): its other fields. -/
def entry0 : Entry :=
  { used := false, trigger := .clock 0, days := 0, classes := 0, window := none, action := .tune 0 1, lateness := 0 }

/-- R45 makes the entry unused. DESIGN CHOICE (log 17): its other fields. -/
def special0 : Special := { used := false, month := 1, day := 1, year := none, cls := 0 }

/-- R31. -/
def sun0 : Sun := { dusk := none, dawn := none }

/-- R9, R19, R6, 1.6. DESIGN CHOICE (log 9): the seasonal rule, last Sunday of March to last Sunday of October at 2 h. -/
def timeSettings0 : TimeSettings :=
  { mode := .auto, threshold := 1000, holdLimit := 24, offset := 60,
    begins := { month := 3, week := none, weekday := 7, hour := 2 },
    ends := { month := 10, week := none, weekday := 7, hour := 2 } }

/-- R68. -/
def strikeSettings0 : StrikeSettings :=
  { quarters := false, hours := false, hourBell := 0, q1 := none, q2 := none, q3 := none, q4 := none, gap := 2500,
    velocity := .full, lateness := 120, noteWait := 300 }

/-- R155. -/
def lightSettings0 : LightSettings :=
  { margin := 30, fallback := none, interval := 10, dusk := 180, dawn := 260, confirm := 3 }

/-- R158. -/
def supplySettings0 : SupplySettings := { budget := 200, delay := 100 }

/-- R64. -/
def hammerSettings0 : HammerSettings := { opened := 100, short := 900 }

/-- R190: every class of the twelve. -/
def noticeMask0 : Nat := 4095

/-- Every table at its defaults (R172). -/
def tables0 : Tables :=
  { bell := [], swing := [], plan := [], tune := [], note := [], dial := [], circuit := [], scene := [], schedule := [],
    special := [], sun := [], time := timeSettings0, strike := strikeSettings0, light := lightSettings0,
    supply := supplySettings0, hammerCheck := hammerSettings0, notice := noticeMask0 }

/-- The stored tables in the order of R172. -/
def tableOrder : List TableId :=
  [.bell, .swing, .plan, .tune, .note, .dial, .circuit, .scene, .schedule, .special, .sun, .time, .strike, .light,
   .supply, .hammerCheck, .notice]

/-! ## Start values of the objects -/

/-- R66, for a bell to which no swing unit is bound. -/
def bell0 : Bell :=
  { claim := .free, pending := false, hammer := .idle, held := none, releasing := false, fault := .none,
    newMark := false, opens := 0, reading := none }

/-- R114, with the settle timer of the default settle time. -/
def unit0 : SwingUnit :=
  { state := .settling, fault := .none, newMark := false, referenced := false, angle := 0, lastDir := .positive,
    amplitude := none, slips := 0, turns := 0, ringEnd := none, startPending := false, lowKind := none, drive := .idle,
    owner := none, trackDir := .positive, furthest := 0, prevReversal := 0, raiseLimit := none, lowerLimit := none,
    noTurn := none, settle := some 60000, turned := false, minutes := 0 }

/-- R114. -/
def pealRun0 : PealRun :=
  { state := .idle, plan := 0, first := 0, ends := 0, steps := 0, members := [], halted := [], stops := [],
    nextStop := 0, stopGap := 0 }

/-- R127, cold start. -/
def dial0 : Dial :=
  { state := .unknown, position := none, next := none, last := none, inFlight := false, stop := false, kept := none,
    drive := .idle, spacing := none }

/-- R146, cold start, for a DIMMED circuit. -/
def circuit0 : Circuit :=
  { state := .off, demand := 0, source := .scene, sceneLevel := 0, override := none, level := 0, target := 0,
    shed := false, timer := none, fade := none }

/-! ## Start values of the blocks -/

/-- R25, cold start. -/
def timeBase0 : TimeBase :=
  { elapsed := 0, kept := none, sub := 0, state := .unset, trim := 0, slew := 0, slewArmed := false, slewHold := false,
    offset := none, flagS := false, prevConf := none, lastConf := none, holdStart := none, lastOffset := none,
    lastInterval := none, lastPhase := none, minuteSeen := none, halfSeen := none }

/-- R25. -/
def refMonitor0 : RefMonitor :=
  { record := none, lastTelegram := none, lastTelegramTime := none, pending := none, qual := .absent, count := 0,
    predecessor := none, prevMark := none, second := .absent, secondCount := 0, lastEdge := none, skew := none,
    deciding := [] }

/-- R45, cold start. -/
def dayProgramme0 : DayProgramme := { today := none, guards := [], quiet := false }

/-- R92, cold start. -/
def chime0 : Chime := { queue := [], nextId := 0, playing := none, quarterGuard := none }

/-- R127. -/
def dialDriveState0 : DialDriveState := { dials := [], half := none }

/-- R146, cold start. -/
def floods0 : Floods := { circuits := [], lastScene := none, shedSeen := false }

/-- R157. -/
def light0 : Light :=
  { state := .unknown, window := [], darkRun := 0, lightRun := 0, outRun := 0, goodRun := 0, fault := false,
    newMark := false, average := none, reading := none, sample := none }

/-- R157. -/
def converter0 : Converter := { queue := [], inFlight := none }

/-- R167. -/
def supply0 : Supply := { grants := [], waiting := [], shed := false }

/-- R174 from the lines of log 6: mains present, access clear, key OFF. -/
def power0 : Power :=
  { mains := .returning, settle := some 2000, access := .clear, accessTimer := none, key := .off, keyTimer := none,
    linePresent := true, accessShows := .clear, keyShows := .off }

/-- DESIGN CHOICE (log 6): nothing has been saved, every stored check fails. -/
def store0 : Store := { stored := tables0, bad := tableOrder, saving := none }

/-- R174, R175. DESIGN CHOICE (log 6): the first power-on, with retained memory not valid. -/
def start0 : Start :=
  { phase := .loading, cause := .powerOn, failed := tableOrder, resetHeld := false, supplied := true,
    retainedGood := false, keptAtOpening := none }

/-- R193. -/
def link0 : Link :=
  { rate := .r57600, receiver := .hunting, lastByte := none, lastError := .none, lastErrorTime := none, errorCount := 0, slotBusy := false,
    owed := [], sending := none, listing := none, notices := [], overrun := false, lostCount := 0 }

end Sys2Proof.Machine
end

