-- ==== Sys2Proof/Machine/State.lean ====
section
/-! DEFINITION. The state of the part, the reasons a command can stop, and the state right after reset. -/

namespace Sys2Proof.Machine

/-- A fault of the model. No rule of the manual stops the part, so there is none. -/
inductive Fault
deriving DecidableEq, Repr

/-- A refusal of the model. -/
inductive Refusal
  /-- Raised by `exec`'s arm of a command that has no meaning yet. Safe: nothing is claimed of it. -/
  | notModelled (mnemonic : String)
deriving DecidableEq, Repr

/-- The part. Each block owns its field (spec/00_scope.md); `pending` and `agenda` are the model's own. -/
structure State where
  /-- The tables as the blocks use them (R172). -/
  tables : Tables
  time : TimeBase
  refs : RefMonitor
  day : DayProgramme
  chime : Chime
  /-- The bells' dynamic fields (R46). -/
  bells : Table Bell
  /-- The swing units' dynamic fields (R94). -/
  units : Table SwingUnit
  run : PealRun
  dials : DialDriveState
  floods : Floods
  light : Light
  converter : Converter
  supply : Supply
  power : Power
  store : Store
  start : Start
  link : Link
  /-- The messages still to be handled inside the command in progress; empty between commands (log 3). -/
  agenda : List Msg
  /-- The commands that wait, first in first out. -/
  pending : List Instr
deriving DecidableEq, Repr

/-! ## One block's field replaced -/

def State.withTables (s : State) (v : Tables) : State := { s with tables := v }
def State.withTime (s : State) (v : TimeBase) : State := { s with time := v }
def State.withRefs (s : State) (v : RefMonitor) : State := { s with refs := v }
def State.withDay (s : State) (v : DayProgramme) : State := { s with day := v }
def State.withChime (s : State) (v : Chime) : State := { s with chime := v }
def State.withBells (s : State) (v : Table Bell) : State := { s with bells := v }
def State.withUnits (s : State) (v : Table SwingUnit) : State := { s with units := v }
def State.withRun (s : State) (v : PealRun) : State := { s with run := v }
def State.withDials (s : State) (v : DialDriveState) : State := { s with dials := v }
def State.withFloods (s : State) (v : Floods) : State := { s with floods := v }
def State.withLight (s : State) (v : Light) : State := { s with light := v }
def State.withConverter (s : State) (v : Converter) : State := { s with converter := v }
def State.withSupply (s : State) (v : Supply) : State := { s with supply := v }
def State.withPower (s : State) (v : Power) : State := { s with power := v }
def State.withStore (s : State) (v : Store) : State := { s with store := v }
def State.withStart (s : State) (v : Start) : State := { s with start := v }
def State.withLink (s : State) (v : Link) : State := { s with link := v }
def State.withAgenda (s : State) (v : List Msg) : State := { s with agenda := v }

/-- The opening of LOADING (R174) at the first power-on: log 6. -/
def State.reset : State :=
  { tables := tables0, time := timeBase0, refs := refMonitor0, day := dayProgramme0, chime := chime0, bells := [],
    units := [], run := pealRun0, dials := dialDriveState0, floods := floods0, light := light0, converter := converter0,
    supply := supply0, power := power0, store := store0, start := start0, link := link0, agenda := [], pending := [] }

end Sys2Proof.Machine
end

