-- ==== Sys2Proof/Machine/Clock.lean ====
section
/-! DEFINITION. The clocks (R1, R3): how elapsed and kept time run on, and how far they have to run to reach an instant.
Every other rule reads them. Log 8 says where in a kept second the slew falls. -/

namespace Sys2Proof.Machine

/-- Units of 10^-7 ms in a kept ms. -/
def tick : Nat := 10000000

/-- Units of kept time run in one ms of elapsed time (R3). -/
def TimeBase.pace (b : TimeBase) : Nat := ((10000000 : Int) + b.trim).toNat

/-- The trimmed ms of a kept second, for the slew remainder it begins with (R3). -/
def secondLength (slew : Int) : Nat := if 0 < slew then 999 else if slew < 0 then 1001 else 1000

/-- The trimmed units of the kept second in progress. -/
def TimeBase.secondUnits (b : TimeBase) : Nat := (if b.slewArmed then secondLength b.slew else 1000) * tick

/-- How far the kept second in progress has run, in units. -/
def TimeBase.place (b : TimeBase) (kept : Nat) : Nat :=
  kept % 1000 * tick + b.sub + (if b.slewHold then tick else 0)

/-- Kept time at a place of a kept second. The 1001st ms shows as the 1000th. -/
def TimeBase.atPlace (b : TimeBase) (second place : Nat) : TimeBase :=
  { b with kept := some (second * 1000 + min (place / tick) 999), sub := place % tick,
           slewHold := decide (1000 ≤ place / tick) }

/-- `n` kept seconds of a slew end: the remainder moves toward zero, and the correction account takes the ms (R3, R10). -/
def TimeBase.slewed (b : TimeBase) (n : Nat) : TimeBase :=
  let d : Int := if 0 < b.slew then n else -n
  { b with slew := b.slew - d, prevConf := b.prevConf.map (fun r => { r with account := r.account + d }) }

/-- The kept second in progress ends. -/
def TimeBase.endSecond (b : TimeBase) : TimeBase :=
  { b.slewed (if b.slewArmed then min 1 b.slew.natAbs else 0) with slewArmed := true, slewHold := false }

/-- Kept time runs on by an amount of trimmed time (R3). -/
def TimeBase.runTrimmed (b : TimeBase) (kept units : Nat) : TimeBase :=
  let place := b.place kept + units
  if place < b.secondUnits then b.atPlace (kept / 1000) place
  else
    let past := place - b.secondUnits
    let b1 := b.endSecond
    let n := min b1.slew.natAbs (past / b1.secondUnits)
    let b2 := b1.slewed n
    let left := past - n * b1.secondUnits
    b2.atPlace (kept / 1000 + 1 + n + left / b2.secondUnits) (left % b2.secondUnits)

/-- `n` ms of elapsed time pass while the part runs (R1, R3). -/
def TimeBase.advance (b : TimeBase) (n : Nat) : TimeBase :=
  let b' := match b.kept with
    | none => b
    | some kept => b.runTrimmed kept (n * b.pace)
  { b' with elapsed := b.elapsed + n }

/-- `n` ms pass while the part does not run: kept time runs at the trim, with no slew (R2). -/
def TimeBase.drift (b : TimeBase) (n : Nat) : TimeBase :=
  match b.kept with
  | none => b
  | some kept =>
    let units := kept * tick + b.sub + n * b.pace
    { b with kept := some (units / tick), sub := units % tick }

/-- The trimmed time from now until kept time reaches an instant. -/
def TimeBase.unitsUntil (b : TimeBase) (kept target : Nat) : Nat :=
  if target ≤ kept then 0
  else if target / 1000 = kept / 1000 then target % 1000 * tick - b.place kept
  else
    let b1 := b.endSecond
    let between := target / 1000 - kept / 1000 - 1
    let n := min b1.slew.natAbs between
    (b.secondUnits - b.place kept) + n * b1.secondUnits + (between - n) * (1000 * tick) + target % 1000 * tick

/-- The elapsed ms from now until kept time has reached an instant. -/
def TimeBase.msUntil (b : TimeBase) (target : Nat) : Nat :=
  match b.kept with
  | none => 0
  | some kept => (b.unitsUntil kept target + (b.pace - 1)) / b.pace

/-- The part runs: it has supply and its reset line is not held (R174). -/
def State.running (s : State) : Bool := s.start.supplied && !s.start.resetHeld

/-- One ms of time (log 2). -/
def State.clockTick (s : State) : State :=
  { s with time := if s.running then s.time.advance 1 else s.time.drift 1 }

/-- The clock runs to an instant of elapsed time, where it has not reached it (log 1). -/
def State.runTo (s : State) (instant : Nat) : State :=
  { s with time := s.time.advance (instant - s.time.elapsed) }

/-- The clock runs until kept time has reached an instant, where it has not (log 1). -/
def State.runToKept (s : State) (target : Nat) : State :=
  { s with time := s.time.advance (s.time.msUntil target) }

/-- Civil time, ms from 2000-01-01 00:00:00.000 (R4). -/
def TimeBase.civil (b : TimeBase) : Option Nat :=
  match b.kept, b.offset with
  | some kept, some offset => some (kept + offset * 60000)
  | _, _ => none

/-- Now, in elapsed time. -/
def State.now (s : State) : Nat := s.time.elapsed

end Sys2Proof.Machine
end

