-- ==== Sys2Proof/Machine/Encode.lean ====
section
/-! DEFINITION. The encoding of records, replies, notices and request bodies (R194), and the frame's check (R179). Log 18
names the readings of R194 the model takes. -/

namespace Sys2Proof.Machine

/-- The low byte of a number. -/
def byte (n : Nat) : Byte := BitVec.ofNat 8 n

/-- A number in a count of bytes, high byte first (R179). -/
def beBytes : Nat → Nat → List Byte
  | 0, _ => []
  | n + 1, v => byte (v / 256 ^ n) :: beBytes n v

/-- The number of bytes, high byte first. -/
def beNat (l : List Byte) : Nat := l.foldl (fun a b => a * 256 + b.toNat) 0

/-- A number in a count of bytes, low byte first: the packed marks (R194). -/
def leBytes : Nat → Nat → List Byte
  | 0, _ => []
  | n + 1, v => byte v :: leBytes n (v / 256)

/-- The number of bytes, low byte first. -/
def leNat : List Byte → Nat
  | [] => 0
  | b :: l => b.toNat + 256 * leNat l

/-- Two's complement in a count of bytes (R194). -/
def twos (bytes : Nat) (v : Int) : Nat := (v % (256 ^ bytes : Nat)).toNat

/-- The signed value of a number of a count of bytes (R194). -/
def signed (bytes v : Nat) : Int := if 2 * v < 256 ^ bytes then v else (v : Int) - (256 ^ bytes : Nat)

/-- The room of a field: a mark or enumeration in bits, or a number in bytes (R194). -/
inductive Room
  | bits (n : Nat) | bytes (n : Nat)
deriving DecidableEq, Repr

/-- A part of a record: a field, or the bytes of a list (R194). -/
inductive Item
  | field (room : Room) (value : Nat)
  | raw (bytes : List Byte)
deriving DecidableEq, Repr

/-- The room a part takes among the marks. -/
def Item.room : Item → Room
  | .field r _ => r
  | .raw _ => .bytes 0

/-- The marks of a record as one number, first field in the lowest bit. -/
def markNat : List Item → Nat
  | [] => 0
  | .field (.bits n) v :: l => v + 2 ^ n * markNat l
  | _ :: l => markNat l

/-- The bits of the marks of a record. -/
def markBits : List Room → Nat
  | [] => 0
  | .bits n :: l => n + markBits l
  | .bytes _ :: l => markBits l

/-- The bytes that hold the marks. -/
def markBytes (l : List Room) : Nat := (markBits l + 7) / 8

/-- The bytes of the numbers of a record. -/
def numberBytes : List Room → Nat
  | [] => 0
  | .bits _ :: l => numberBytes l
  | .bytes n :: l => n + numberBytes l

/-- The length of a record. -/
def roomBytes (l : List Room) : Nat := markBytes l + numberBytes l

/-- The bytes of a part after the marks. -/
def Item.bytes : Item → List Byte
  | .field (.bits _) _ => []
  | .field (.bytes n) v => beBytes n v
  | .raw l => l

/-- A record on the line: the packed marks, then the numbers and lists in order (R194). -/
def pack (l : List Item) : List Byte :=
  leBytes (markBytes (l.map Item.room)) (markNat l) ++ l.flatMap Item.bytes

/-- The values of a record's fields from its marks and its numbers. -/
def unpackFrom : List Room → Nat → List Byte → List Nat
  | [], _, _ => []
  | .bits n :: l, m, b => m % 2 ^ n :: unpackFrom l (m / 2 ^ n) b
  | .bytes n :: l, m, b => beNat (b.take n) :: unpackFrom l m (b.drop n)

/-- The values of a record's fields, in order; none where an unused bit is set (R186). The length is checked before. -/
def unpack (l : List Room) (b : List Byte) : Option (List Nat) :=
  let marks := leNat (b.take (markBytes l))
  if marks < 2 ^ markBits l then some (unpackFrom l marks (b.drop (markBytes l))) else none

/-! ## The fields of R194 -/

def num (bytes v : Nat) : List Item := [.field (.bytes bytes) v]
def int (bytes : Nat) (v : Int) : List Item := [.field (.bytes bytes) (twos bytes v)]
def mark (b : Bool) : List Item := [.field (.bits 1) b.toNat]
def enum (bits v : Nat) : List Item := [.field (.bits bits) v]

/-- An optional number: its presence mark, and its bytes, 0 where it is absent. -/
def opt (bytes : Nat) (v : Option Nat) : List Item := mark v.isSome ++ num bytes (v.getD 0)

/-- An optional signed number. -/
def optInt (bytes : Nat) (v : Option Int) : List Item := mark v.isSome ++ int bytes (v.getD 0)

/-- An optional enumeration: its presence mark, and its bits. -/
def optEnum (bits : Nat) (v : Option Nat) : List Item := mark v.isSome ++ enum bits (v.getD 0)

/-- A number or a named value, `none`: its mark, set for the named value, and its bytes (R194, Alternatives). -/
def alt (bytes : Nat) (v : Option Nat) : List Item := mark v.isNone ++ num bytes (v.getD 0)

/-- A list of varying length: a count byte and its entries (R194). -/
def listing (l : List (List Byte)) : List Item := [.raw (byte l.length :: l.flatten)]

/-! ## The check (R179) -/

/-- One bit of the CRC-16, polynomial 0x1021. -/
def crcBit (c : Nat) : Nat := if c < 0x8000 then 2 * c else (2 * c) % 0x10000 ^^^ 0x1021

/-- One byte of the CRC-16. -/
def crcByte (c : Nat) (b : Byte) : Nat :=
  crcBit (crcBit (crcBit (crcBit (crcBit (crcBit (crcBit (crcBit (c ^^^ (b.toNat * 256)))))))))

/-- The check over bytes, initial value 0xFFFF. -/
def crc (l : List Byte) : Nat := l.foldl crcByte 0xFFFF

/-- The bytes of a frame on the line: start, length, kind, body and check, the check's high byte first (R179). -/
def Frame.wire (f : Frame) : List Byte :=
  let checked := byte (f.body.length + 1) :: f.kind :: f.body
  0xC3 :: (checked ++ beBytes 2 (crc checked))

end Sys2Proof.Machine
end

