-- ==== Sys2Proof/Machine/Ops.lean ====
section
/-! DEFINITION. The operations every block uses: reading and writing one object's record or fields, handing a message to
another block, handing a notice to the link interface, and the frame a command's effect stands in. -/

namespace Sys2Proof.Machine

/-! ## Records -/

def State.bellRec (s : State) (b : Nat) : BellRec := Table.get bellRec0 s.tables.bell b
def State.swingRec (s : State) (u : Nat) : SwingRec := Table.get swingRec0 s.tables.swing u
def State.planRec (s : State) (p : Nat) : Plan := Table.get plan0 s.tables.plan p
def State.tuneRec (s : State) (t : Nat) : Tune := Table.get tune0 s.tables.tune t
def State.noteRec (s : State) (n : Nat) : Note := Table.get note0 s.tables.note n
def State.dialRec (s : State) (d : Nat) : DialRec := Table.get dialRec0 s.tables.dial d
def State.circuitRec (s : State) (c : Nat) : CircuitRec := Table.get circuitRec0 s.tables.circuit c
def State.sceneRec (s : State) (i : Nat) : Scene := Table.get scene0 s.tables.scene i
def State.entryRec (s : State) (e : Nat) : Entry := Table.get entry0 s.tables.schedule e
def State.specialRec (s : State) (e : Nat) : Special := Table.get special0 s.tables.special e
def State.sunRec (s : State) (d : Nat) : Sun := Table.get sun0 s.tables.sun d

/-! ## Dynamic fields -/

def State.bell (s : State) (b : Nat) : Bell := Table.get bell0 s.bells b
def State.setBell (s : State) (b : Nat) (v : Bell) : State := s.withBells (Table.put bell0 s.bells b v)
def State.unit (s : State) (u : Nat) : SwingUnit := Table.get unit0 s.units u
def State.setUnit (s : State) (u : Nat) (v : SwingUnit) : State := s.withUnits (Table.put unit0 s.units u v)
def State.dial (s : State) (d : Nat) : Dial := Table.get dial0 s.dials.dials d
def State.setDial (s : State) (d : Nat) (v : Dial) : State :=
  s.withDials { s.dials with dials := Table.put dial0 s.dials.dials d v }
def State.circuit (s : State) (c : Nat) : Circuit := Table.get circuit0 s.floods.circuits c
def State.setCircuit (s : State) (c : Nat) (v : Circuit) : State :=
  s.withFloods { s.floods with circuits := Table.put circuit0 s.floods.circuits c v }
def State.guard (s : State) (e : Nat) : Option Nat := Table.get none s.day.guards e
def State.setGuard (s : State) (e : Nat) (v : Option Nat) : State :=
  s.withDay { s.day with guards := Table.put none s.day.guards e v }

/-! ## Messages and notices -/

/-- A message to another block, after those already handed inside the command. -/
def State.post (s : State) (m : Msg) : State := s.withAgenda (s.agenda ++ [m])

/-- Messages in order. -/
def State.postAll (s : State) (l : List Msg) : State := s.withAgenda (s.agenda ++ l)

/-- A notice handed to the link interface in the order the blocks' rules give (R189). -/
def State.notify (s : State) (n : NoticeBody) : State := s.post (.notice n)

/-- The class number of a notice (R188). -/
def NoticeBody.cls : NoticeBody → Nat
  | .start .. => 0
  | .time .. => 1
  | .started .. | .ended .. | .dropped .. => 2
  | .unit .. | .pending .. | .run .. | .step .. => 3
  | .dial .. => 4
  | .flood .. => 5
  | .light .. => 6
  | .faultBell .. | .faultSwing .. | .faultLight .. => 7
  | .supply .. | .mains .. => 8
  | .access .. => 9
  | .saved .. => 10
  | .skipped .. | .skippedStrike .. => 11

/-- The link interface judges a notice handed to it: masked, appended, or lost (R189). -/
def State.takeNotice (s : State) (n : NoticeBody) : State :=
  if !s.tables.notice.testBit n.cls then s
  else if s.link.notices.length < Config.noticePlaces then
    s.withLink { s.link with
        notices := s.link.notices ++
          [{ lost := s.link.overrun, lostCount := if s.link.overrun then s.link.lostCount else 0, elapsed := s.now,
             body := n }],
        overrun := false,
        lostCount := if s.link.overrun then 0 else s.link.lostCount }
  else s.withLink { s.link with overrun := true, lostCount := min 255 (s.link.lostCount + 1) }

/-! ## States the rules ask for -/

/-- The part is past LOADING (R175). -/
def State.ready (s : State) : Bool := s.running && decide (s.start.phase = .ready)

/-- Mains is NORMAL. -/
def State.mainsNormal (s : State) : Bool := decide (s.power.mains = .normal)

/-- The engineer key is ON. -/
def State.keyOn (s : State) : Bool := decide (s.power.key = .on)

/-- The part takes an event of its own timers and lines only while it runs (R174, log 33). -/
def State.whenRunning (s : State) (f : State → State) : State := if s.running then f s else s

/-- The part takes an event only in READY (R175, R25). -/
def State.whenReady (s : State) (f : State → State) : State := if s.ready then f s else s

/-- A state change for each number of a list, in order. -/
def State.each (s : State) (l : List Nat) (f : Nat → State → State) : State := l.foldl (fun t i => f i t) s

/-- The numbers of the bells, units, dials and circuits. -/
def bellNumbers : List Nat := List.range 16
def unitNumbers : List Nat := List.range 6
def dialNumbers : List Nat := List.range 4
def circuitNumbers : List Nat := List.range 12

end Sys2Proof.Machine
end

