-- ==== Sys2Proof/Machine/Converter.lean ====
section
/-! DEFINITION. The converter's queue and the conversion in flight (8.1, 8.2). -/

namespace Sys2Proof.Machine

/-- The free converter begins the conversion at the head of its queue (R147). -/
def State.beginConversion (s : State) : State :=
  match s.converter.inFlight, s.converter.queue with
  | none, c :: rest =>
    s.withConverter { queue := rest, inFlight := some (c, s.now + Config.conversionTime) }
  | _, _ => s

/-- The queue's order: COIL requests as they came, then the LIGHT request (R148). -/
def joinConversions (c : Conversion) : List Conversion → List Conversion
  | [] => [c]
  | .light :: l => if c = .light then .light :: l else c :: .light :: l
  | .coil b :: l => .coil b :: joinConversions c l

/-- A conversion request (R147, R148). -/
def State.queueConversion (s : State) (c : Conversion) : State :=
  (s.withConverter { s.converter with queue := joinConversions c s.converter.queue }).beginConversion

/-- A request of the kind waits or is in flight. -/
def State.converting (s : State) (c : Conversion) : Bool :=
  s.converter.queue.contains c || decide (s.converter.inFlight.map Prod.fst = some c)

/-- A bell's pulse ends: its waiting COIL request is discarded as stale (R149). -/
def State.discardStale (s : State) (b : Nat) : State :=
  s.withConverter { s.converter with queue := s.converter.queue.filter fun c => c ≠ .coil b }

/-- Mains loss at the converter (R150). -/
def converterLoss (s : State) : State := s.withConverter converter0

end Sys2Proof.Machine
end

