-- ==== Sys2Proof/Machine/Player.lean ====
section
/-! DEFINITION. The chime player's queue and counts (4.4), and the answers its blows come to (4.6). What it asks of the
bell table is in Machine/Chime.lean. -/

namespace Sys2Proof.Machine

/-! ## The strike queue (R77-R79) -/

/-- The rank of a kind at equal due (R79). -/
def PerfKind.rank : PerfKind → Nat
  | .quarter => 0
  | .hour => 1
  | .tune | .toll => 2

/-- A performance goes before a waiting one: by due, then by rank; never before the playing one or the blocked head. -/
def Perf.before (p q : Perf) : Bool :=
  !q.playing && !q.blocked && (decide (p.due < q.due) || (decide (p.due = q.due) && decide (p.kind.rank < q.kind.rank)))

/-- The queue with a performance at its place (R79). -/
def insertPerf (p : Perf) : List Perf → List Perf
  | [] => [p]
  | q :: l => if p.before q then p :: q :: l else q :: insertPerf p l

/-- The id the next accepted performance is given (R77). -/
def Chime.freeId (c : Chime) : Nat :=
  ((List.range (Config.queuePlaces + 1)).map fun k => (c.nextId + k) % 256).find?
    (fun i => !c.queue.any fun p => p.id = i) |>.getD c.nextId

/-- What an offer is answered (R78). -/
inductive OfferAnswer
  | accepted (id : Nat) | noEntry | queueFull
deriving DecidableEq, Repr

/-- A performance as it would be made: the id is given at acceptance (R77, R78). -/
def State.makePerf (s : State) (kind : PerfKind) (args : PerfArgs) (origin : Origin) (entry : Option Nat) (due : Nat) :
    Perf :=
  { id := 0, kind := kind, args := args, origin := origin, entry := entry, due := due,
    deadline := due + s.tables.strike.lateness * 1000, playing := false, blocked := false, rep := 0, note := 0, lost := 0,
    clipped := 0 }

/-- An offer of a performance is judged (R78). -/
def State.judgeOffer (s : State) (p : Perf) : OfferAnswer :=
  match p.args with
  | .tune t _ =>
    if !(s.tuneRec t).used then .noEntry
    else if Config.queuePlaces ≤ s.chime.queue.length then .queueFull
    else .accepted s.chime.freeId
  | .strokes .. => if Config.queuePlaces ≤ s.chime.queue.length then .queueFull else .accepted s.chime.freeId

/-- An offer (R78, R79). A refused one leaves the queue as it is. -/
def State.offer (s : State) (p : Perf) : State × OfferAnswer :=
  match s.judgeOffer p with
  | .accepted id =>
    ((s.withChime { s.chime with
        queue := insertPerf { p with id := id } s.chime.queue, nextId := (id + 1) % 256 }), .accepted id)
  | a => (s, a)

/-- The notice of a refused offer (R78, R91). -/
def State.dropOffer (s : State) (p : Perf) (reason : DropReason) : State := s.notify (.dropped p false reason)

/-- The head of the queue (R79). -/
def State.head (s : State) : Option Perf := s.chime.queue.head?

/-- The playing performance's record. -/
def State.playingPerf (s : State) : Option Perf := s.chime.queue.find? fun p => p.playing

/-- A performance leaves the queue. -/
def State.leaveQueue (s : State) (id : Nat) : State :=
  s.withChime { s.chime with queue := s.chime.queue.filter fun p => p.id ≠ id }

/-- A waiting performance is dropped (R91). -/
def State.drop (s : State) (p : Perf) (reason : DropReason) : State :=
  (s.leaveQueue p.id).notify (.dropped p true reason)

/-- The playing performance's record is changed. -/
def State.onPlaying (s : State) (f : Perf → Perf) : State :=
  s.withChime { s.chime with queue := s.chime.queue.map fun p => if p.playing then f p else p }

/-- What the player holds of the playing performance is changed. -/
def State.setPlaying (s : State) (f : Playing → Playing) : State :=
  s.withChime { s.chime with playing := s.chime.playing.map f }

/-! ## Notes (R84-R86) -/

/-- The note in hand: its bells, its velocity and its scaled interval (R84, R86). -/
def State.noteInHand (s : State) (pl : Playing) (p : Perf) : List Nat × Velocity × Nat :=
  match p.args, pl.run with
  | .strokes bell _ interval velocity, _ => ([bell], velocity, interval)
  | .tune _ _, some run =>
    let n := s.noteRec (run.first + p.note)
    (n.bells, n.velocity, n.interval * 100 / run.tempo)
  | .tune _ _, none => ([], .medium, 0)

/-- The note in hand is the last of the last repeat (R87). -/
def lastNote (pl : Playing) (p : Perf) : Bool :=
  match p.args, pl.run with
  | .strokes _ count _ _, _ => decide (count ≤ p.note + 1)
  | .tune _ repeats, some run => decide (run.count ≤ p.note + 1) && decide (repeats ≤ p.rep)
  | .tune _ _, none => true

/-- The position of the note after the one in hand (R86). -/
def nextPosition (pl : Playing) (p : Perf) : Perf :=
  match p.args, pl.run with
  | .tune _ _, some run =>
    if run.count ≤ p.note + 1 then { p with rep := p.rep + 1, note := 0 } else { p with note := p.note + 1 }
  | _, _ => { p with note := p.note + 1 }

/-- The note in hand sounds now (R85): the interval or the tail runs (R86, R87). -/
def State.sound (s : State) : State :=
  match s.chime.playing, s.playingPerf with
  | some pl, some p =>
    let ends := s.now + (s.noteInHand pl p).2.2
    s.setPlaying fun pl => { pl with phase := if lastNote pl p then .tail ends else .interval ends }
  | _, _ => s

/-- The outstanding blows become a list; the note sounds where none is left and its bells are dealt with (R84, R85). -/
def State.setOutstanding (s : State) (l : List Nat) (dealing : Bool) : State :=
  match s.chime.playing with
  | some { phase := .noteWait _ deadline _, .. } =>
    let t := s.setPlaying fun pl => { pl with phase := .noteWait l deadline dealing }
    if l.isEmpty && !dealing then t.sound else t
  | _ => s

/-- A blow of the note is outstanding (R84). -/
def State.blowTaken (s : State) (b : Nat) : State :=
  match s.chime.playing with
  | some { phase := .noteWait l _ dealing, .. } => s.setOutstanding (l ++ [b]) dealing
  | _ => s

/-- A blow of the note ends without a count: struck, or REFUSED NOT_HELD, ACCESS or RESERVE (R84, R85). -/
def State.blowEnds (s : State) (b : Nat) : State :=
  match s.chime.playing with
  | some { phase := .noteWait l _ dealing, .. } => s.setOutstanding (l.filter (· ≠ b)) dealing
  | _ => s

/-- The lost-blow count rises by one (R77). -/
def Perf.lose (p : Perf) : Perf := { p with lost := min 65535 (p.lost + 1) }

/-- The clipped-blow count rises by one (R77). -/
def Perf.clip (p : Perf) : Perf := { p with clipped := min 65535 (p.clipped + 1) }

/-- A blow is REFUSED FAULT: the bell is fault-marked and the blow is lost (R84, R85). -/
def State.blowFaulted (s : State) (b : Nat) : State :=
  match s.chime.playing with
  | some { phase := .noteWait .., .. } =>
    ((s.setPlaying fun pl => { pl with marks := if pl.marks.contains b then pl.marks else pl.marks ++ [b] }).onPlaying
      Perf.lose).blowEnds b
  | _ => s

/-- A blow is WITHDRAWN at the note wait limit (R85). -/
def State.blowClipped (s : State) (b : Nat) : State := (s.onPlaying Perf.clip).blowEnds b

/-- The note's bells have been dealt with (R84), or its outstanding blows withdrawn (R85). -/
def noteDealt (s : State) : State :=
  match s.chime.playing with
  | some { phase := .noteWait l _ _, .. } => s.setOutstanding l false
  | _ => s

/-- The note in hand is requested (R84): a blow of each bell that is not fault-marked. -/
def State.requestNote (s : State) : State :=
  match s.chime.playing, s.playingPerf with
  | some pl, some p =>
    let note := s.noteInHand pl p
    let t := s.setPlaying fun pl => { pl with phase := .noteWait [] (s.now + s.tables.strike.noteWait) true }
    let t := note.1.foldl (fun t b =>
      if pl.marks.contains b then t.onPlaying Perf.lose else t.post (.blow b note.2.1 p.id)) t
    t.post .noteDealt
  | _, _ => s

end Sys2Proof.Machine
end

