-- ==== Sys2Proof/Machine/Supply.lean ====
section
/-! DEFINITION. The supply arbiter (chapter 9): requests, service, releases, withdrawals and the shed signal. -/

namespace Sys2Proof

/-- The place of a claimant among the grant records: B0-B15, D0-D3, S0-S5, C0-C11 (R159, R166). -/
def Claimant.number : Claimant → Nat
  | .hammer b => b
  | .dial d => 16 + d
  | .swing u => 20 + u
  | .flood c => 26 + c

end Sys2Proof

namespace Sys2Proof.Machine

/-- The fixed class of a claimant (R159). -/
def supplyClass : Claimant → SupplyClass
  | .hammer _ => .hammer
  | .dial _ => .dial
  | .swing _ => .swing
  | .flood _ => .flood

/-- The rank of a class, the highest 0 (R159). -/
def SupplyClass.rank : SupplyClass → Nat
  | .hammer => 0
  | .dial => 1
  | .swing => 2
  | .flood => 3

/-- The units a claimant holds (R159). -/
def Supply.held (p : Supply) (c : Claimant) : Nat := Table.get 0 p.grants c.number

/-- The total granted (R159). -/
def Supply.total (p : Supply) : Nat := Table.sum p.grants

/-- The units a claimant holds. -/
def State.held (s : State) (c : Claimant) : Nat := s.supply.held c

/-- The free units (R159). -/
def State.freeUnits (s : State) : Nat := s.tables.supply.budget - s.supply.total

/-- A request is oversize: its units and the claimant's grant exceed the budget (R160). -/
def oversize (budget : Nat) (grants : Table Nat) (r : SupplyRequest) : Bool :=
  decide (budget < r.units + Table.get 0 grants r.claimant.number)

/-- A HAMMER or DIAL request (R164). -/
def SupplyRequest.pressing (r : SupplyRequest) : Bool := decide ((supplyClass r.claimant).rank ≤ 1)

/-- What a walk of the waiting list leaves: the list, the entries granted in order, and the grant records (R161). -/
structure Service where
  waiting : List SupplyRequest
  granted : List SupplyRequest
  grants : Table Nat
deriving DecidableEq, Repr

/-- The walk of the waiting list (R161): an oversize entry is passed over, an entry that fits is granted, and the first
other entry stops the service. -/
def serviceWalk (budget : Nat) : List SupplyRequest → Table Nat → Service
  | [], g => ⟨[], [], g⟩
  | r :: l, g =>
    if oversize budget g r then
      let w := serviceWalk budget l g
      { w with waiting := r :: w.waiting }
    else if r.units + Table.sum g ≤ budget then
      let w := serviceWalk budget l
        (Table.put 0 g r.claimant.number (Table.get 0 g r.claimant.number + r.units))
      { w with granted := r :: w.granted }
    else ⟨r :: l, [], g⟩

/-- The fields of an arbiter's notice (R166). -/
def State.supplyNotice (s : State) (cause : SupplyCause) (big : Option (Claimant × Nat)) : NoticeBody :=
  .supply cause s.tables.supply.budget s.supply.total s.supply.waiting.length
    (s.supply.waiting.head?.map fun r => (r.claimant, r.units)) big

/-- A HAMMER or DIAL request has left the list: the shed signal is cleared where none that can be met remains (R164). -/
def State.shedCheck (s : State) : State :=
  if s.supply.shed && !s.supply.waiting.any
      (fun r => r.pressing && !oversize s.tables.supply.budget s.supply.grants r) then
    let t := s.withSupply { s.supply with shed := false }
    (t.notify (t.supplyNotice .shedClear none)).post .shedClear
  else s

/-- The service (R161): every claimant granted is told, in the order of granting. -/
def State.serve (s : State) : State :=
  let w := serviceWalk s.tables.supply.budget s.supply.waiting s.supply.grants
  let t := s.withSupply { s.supply with waiting := w.waiting, grants := w.grants }
  let t := t.postAll (w.granted.map fun r => .granted r.claimant r.units)
  if w.granted.any SupplyRequest.pressing then t.shedCheck else t

/-- The list with a request at the tail of its class (R160). -/
def joinList (r : SupplyRequest) : List SupplyRequest → List SupplyRequest
  | [] => [r]
  | q :: l =>
    if (supplyClass r.claimant).rank < (supplyClass q.claimant).rank then r :: q :: l else q :: joinList r l

/-- The claimant has a request waiting. -/
def State.isWaiting (s : State) (c : Claimant) : Bool := s.supply.waiting.any fun r => r.claimant = c

/-- Withdrawals made at one instant (R163): the requests leave the list together, and one service follows; with none of
them waiting nothing changes. -/
def State.withdrawAll (s : State) (l : List Claimant) : State :=
  if l.any s.isWaiting then
    let t := s.withSupply { s.supply with waiting := s.supply.waiting.filter fun r => !l.contains r.claimant }
    (if l.any fun c => decide ((supplyClass c).rank ≤ 1) then t.shedCheck else t).serve
  else s

/-- A withdrawal (R163). -/
def State.withdraw (s : State) (c : Claimant) : State := s.withdrawAll [c]

/-- A supply request (R160): it joins its class's tail, an oversize one is reported, and the service runs. A HAMMER or
DIAL request takes its shed timer with it (R164). -/
def State.request (s : State) (c : Claimant) (units : Nat) : State :=
  let s := s.withdraw c
  let r : SupplyRequest :=
    { claimant := c, units := units, joined := s.now,
      shedAt := if (supplyClass c).rank ≤ 1 then some (s.now + s.tables.supply.delay) else none }
  let t := s.withSupply { s.supply with waiting := joinList r s.supply.waiting }
  let t := if oversize t.tables.supply.budget t.supply.grants r then
      t.notify (t.supplyNotice .oversize (some (c, units))) else t
  t.serve

/-- A release (R162): no more than is held; 0 units change nothing and run no service. -/
def State.release (s : State) (c : Claimant) (units : Nat) : State :=
  if units = 0 then s
  else
    (s.withSupply { s.supply with grants := Table.put 0 s.supply.grants c.number (s.held c - units) }).serve

/-- A release of all a claimant holds. -/
def State.releaseAll (s : State) (c : Claimant) : State := s.release c (s.held c)

/-- Mains loss at the arbiter (R165). -/
def supplyLoss (s : State) : State :=
  let t := s.withSupply { grants := [], waiting := [], shed := false }
  if s.supply.shed then (t.notify (t.supplyNotice .shedClear none)).post .shedClear else t

/-- SHED_TIMER_EXPIRY (R164). -/
def shedTimerExpiry (c : Claimant) (s : State) : State :=
  match s.supply.waiting.find? (fun r => r.claimant = c) with
  | none => s
  | some r =>
    match r.shedAt with
    | none => s
    | some instant =>
      let t := s.runTo instant
      let t := t.withSupply { t.supply with
        waiting := t.supply.waiting.map fun q => if q.claimant = c then { q with shedAt := none } else q }
      if t.supply.shed || oversize t.tables.supply.budget t.supply.grants r then t
      else
        let t := t.withSupply { t.supply with shed := true }
        (t.notify (t.supplyNotice .shedSet none)).post .shedSet

/-- Where the claimant, class and units of an entry stand on the line: its number, its class and its units (R166, log 18). -/
def claimantFields (c : Claimant) (units : Nat) : List Item :=
  enum 2 (supplyClass c).rank ++ num 1 c.number ++ num 2 units

/-- One entry of SUPPLYINFO's waiting list (R166). -/
def supplyEntry (s : State) (r : SupplyRequest) : List Byte :=
  pack (claimantFields r.claimant r.units ++ num 2 (min 65535 (s.now - r.joined)) ++
    mark (oversize s.tables.supply.budget s.supply.grants r))

/-- The fields of SUPPLYINFO (R166). -/
def supplyReport (s : State) : List Byte :=
  pack (num 2 s.tables.supply.budget ++ num 2 s.tables.supply.delay ++ num 2 s.supply.total ++ num 2 s.freeUnits ++
    mark s.supply.shed ++ num 1 s.supply.waiting.length ++ listing ((s.supply.waiting.take 16).map (supplyEntry s)) ++
    (List.range 38).flatMap fun n => num 2 (Table.get 0 s.supply.grants n))

end Sys2Proof.Machine
end

