-- ==== Sys2Proof/Machine/Bells.lean ====
section
/-! DEFINITION. The bell table (chapter 3): claims, releases and swing claims, the hammers, and the coil checks. -/

namespace Sys2Proof.Machine

/-! ## Binding and the strikeable condition -/

/-- The unit bound to a bell (R46). -/
def State.unitOfBell (s : State) (b : Nat) : Option Nat := if (s.bellRec b).inUse then (s.bellRec b).swing else none

/-- The bell bound to a unit (R46). -/
def State.bellOfUnit (s : State) (u : Nat) : Option Nat := bellNumbers.find? fun b => s.unitOfBell b = some u

/-- Access is CLEAR. -/
def State.accessClear (s : State) : Bool := decide (s.power.access = .clear)

/-- The strikeable condition (R48). -/
def State.strikeable (s : State) (b : Nat) : Bool :=
  let r := s.bellRec b
  r.inUse && r.fitted && r.enabled && decide ((s.bell b).fault = .none) && decide ((s.bell b).claim = .free) &&
    s.mainsNormal && s.accessClear

/-! ## Claims of the chime player (R49, R50) -/

/-- A claim request (R49): granted whole, or refused whole. -/
def State.claimBells (s : State) (id : Nat) (bells : List Nat) : Option State :=
  if bells.all s.strikeable then some (s.each bells fun b t => t.setBell b { t.bell b with claim := .struck id })
  else none

/-- A bell's release is completed (R50 step 3): handed to the unit its pending start names (R52), or FREE. -/
def completeRelease (b : Nat) (s : State) : State :=
  let w := { s.bell b with releasing := false, pending := false }
  let t := match (s.bell b).pending, s.unitOfBell b with
    | true, some u =>
      if !s.accessClear then (s.setBell b { w with claim := .free }).post (.failed u .access)
      else if !s.mainsNormal then (s.setBell b { w with claim := .free }).post (.failed u .reserve)
      else (s.setBell b { w with claim := .swung u }).post (.handed u)
    | _, _ => s.setBell b { w with claim := .free }
  t.post (.report b)

/-- A bell's blows of an id end unanswered (R50 step 1). -/
def Bell.endBlows (w : Bell) (id : Nat) : Bell :=
  { w with
    held := w.held.filter fun h => h.2 ≠ id
    hammer := match w.hammer with
      | .waiting v i => if i = id then .idle else .waiting v i
      | h => h }

/-- The hammer is in PULSE (R58). -/
def Hammer.pulses : Hammer → Bool
  | .pulse .. => true
  | _ => false

/-- The hammer waits with a blow of an id. -/
def Hammer.waitsFor (h : Hammer) (id : Nat) : Bool :=
  match h with
  | .waiting _ i => decide (i = id)
  | _ => false

/-- A bell's release is deferred to the end of its pulse, or completed (R50 steps 2 and 3). -/
def releaseBell (b : Nat) (s : State) : State :=
  if (s.bell b).hammer.pulses then s.setBell b { s.bell b with releasing := true } else completeRelease b s

/-- A release request (R50), for its bells STRUCK with its id: every held and WAITING blow of the id ends before any service
can grant another (DEDUCED, log 50: the rule's "at once" holds for all its bells together), then each bell is released.
DESIGN CHOICE (log 63): bells with pending starts are handed over in the request's order of bells. -/
def releaseBells (bells : List Nat) (id : Nat) (s : State) : State :=
  let l := bells.filter fun b => decide ((s.bell b).claim = .struck id)
  let waiting := l.filter fun b => (s.bell b).hammer.waitsFor id
  let t := s.each l fun b t => t.setBell b ((t.bell b).endBlows id)
  (t.withdrawAll (waiting.map Claimant.hammer)).each l releaseBell

/-! ## Swing claims (R51-R55) -/

/-- The answers to a swing claim request (R51). -/
inductive SwingAnswer
  | granted | pending | noBell | access | reserve | inUse
deriving DecidableEq, Repr

/-- A swing claim request (R51). -/
def State.claimSwing (s : State) (u : Nat) : State × SwingAnswer :=
  match s.bellOfUnit u with
  | none => (s, .noBell)
  | some b =>
    if !s.accessClear then (s, .access)
    else if !s.mainsNormal then (s, .reserve)
    else
      let w := s.bell b
      match w.claim with
      | .free => ((s.setBell b { w with claim := .swung u }).post (.report b), .granted)
      | .settling v =>
        if v = u then ((s.setBell b { w with claim := .swung u }).post (.report b), .granted) else (s, .inUse)
      | .struck _ => (s.setBell b { w with pending := true }, .pending)
      | .swung _ => (s, .inUse)

/-- What a preempt request asks of the chime player (R54): the abort of the performance that holds the unit's bell. In all
else the request is a swing claim request (R51), which sets the pending mark of a STRUCK bell and answers PENDING. -/
def State.preempt (s : State) (u : Nat) : State :=
  match s.bellOfUnit u with
  | some b =>
    match (s.bell b).claim with
    | .struck id => s.post (.abort .preempted (some id))
    | _ => s
  | none => s

/-- A pending cancel request (R53): the answer is whether a pending start was cancelled. -/
def State.cancelPending (s : State) (u : Nat) : State × Bool :=
  match s.bellOfUnit u with
  | some b =>
    if (s.bell b).pending then (s.setBell b { s.bell b with pending := false }, true) else (s, false)
  | none => (s, false)

/-- The bound bell's claim follows its unit's state (R55). -/
def State.moveClaim (s : State) (u : Nat) (c : Claim) : State :=
  match s.bellOfUnit u with
  | some b => (s.setBell b { s.bell b with claim := c }).post (.report b)
  | none => s

/-! ## Hammers (R56-R61) -/

/-- Why a blow is refused (R56). -/
inductive Refused
  | notHeld | fault | access | reserve
deriving DecidableEq, Repr

/-- The first four rows of R56: the reason a blow is refused for, if any. -/
def State.refusal (s : State) (b id : Nat) : Option Refused :=
  let w := s.bell b
  if w.claim ≠ .struck id ∨ w.releasing = true then some .notHeld
  else if w.fault ≠ .none then some .fault
  else if !s.accessClear then some .access
  else if !s.mainsNormal then some .reserve
  else none

/-- A refusal told to the chime player (R84, R85). -/
def State.answerRefused (s : State) (b : Nat) : Refused → State
  | .fault => s.blowFaulted b
  | _ => s.blowEnds b

/-- The width of a pulse at a velocity (R46). -/
def BellRec.width (r : BellRec) : Velocity → Nat
  | .soft => r.soft
  | .medium => r.medium
  | .full => r.full

/-- A blow is taken: the hammer asks for its units (R57). -/
def State.takeBlow (s : State) (b : Nat) (v : Velocity) (id : Nat) : State :=
  (s.setBell b { s.bell b with hammer := .waiting v id }).request (.hammer b) (s.bellRec b).units

/-- A blow request (R56). -/
def blowRequest (b : Nat) (v : Velocity) (id : Nat) (s : State) : State :=
  match s.refusal b id with
  | some r => s.answerRefused b r
  | none =>
    match (s.bell b).hammer with
    | .idle => (s.blowTaken b).takeBlow b v id
    | _ => (s.setBell b { s.bell b with held := some (v, id) }).blowTaken b

/-- The arbiter grants a hammer's units (R57). -/
def hammerGranted (b units : Nat) (s : State) : State :=
  match (s.bell b).hammer with
  | .waiting v id =>
    match s.refusal b id with
    | some r => ((s.setBell b { s.bell b with hammer := .idle }).release (.hammer b) units).answerRefused b r
    | none =>
      let width := (s.bellRec b).width v
      (s.setBell b { s.bell b with
        hammer := .pulse (s.now + width)
          (if (s.bellRec b).coilCheck then some (s.now + width / 2) else none) }).blowEnds b
  | _ => s.release (.hammer b) units

/-- A pulse ends: recovery begins, the converter is told, and a deferred release is completed (R58). The output is off; the
units are the caller's. -/
def State.pulseOver (s : State) (b : Nat) : State :=
  let t := (s.setBell b { s.bell b with hammer := .recovery (s.now + (s.bellRec b).recovery) }).discardStale b
  if (s.bell b).releasing then (t.post (.completeRelease b)).post .releaseCheck else t

/-- A pulse ends and gives its units back (R58). -/
def State.pulseEnds (s : State) (b : Nat) : State := (s.releaseAll (.hammer b)).pulseOver b

/-- PULSE_END (R58). -/
def pulseEnd (b : Nat) (s : State) : State :=
  match (s.bell b).hammer with
  | .pulse ends _ => (s.runTo ends).pulseEnds b
  | _ => s

/-- The held blow is discarded and answered (R60, R61, R63). -/
def State.refuseHeld (s : State) (b : Nat) (r : Refused) : State :=
  match (s.bell b).held with
  | some _ => (s.setBell b { s.bell b with held := none }).answerRefused b r
  | none => s

/-- RECOVERY_END (R58): the hammer is IDLE, and a held blow is judged again and taken (R56). -/
def recoveryEnd (b : Nat) (s : State) : State :=
  match (s.bell b).hammer with
  | .recovery ends =>
    let s := s.runTo ends
    let w := s.bell b
    let t := s.setBell b { w with hammer := .idle, held := none }
    match w.held with
    | none => t
    | some (v, id) =>
      match t.refusal b id with
      | some r => t.answerRefused b r
      | none => t.takeBlow b v id
  | _ => s

/-- The chime player withdraws a blow (R59). DESIGN CHOICE (log 62): at the note wait limit the blows are withdrawn one by
one, each with its own service. -/
def withdrawBlow (b id : Nat) (s : State) : State :=
  let w := s.bell b
  if w.held.map Prod.snd = some id then (s.setBell b { w with held := none }).blowClipped b
  else
    match w.hammer with
    | .waiting _ i =>
      if i = id then ((s.setBell b { w with hammer := .idle }).withdraw (.hammer b)).blowClipped b else s.blowEnds b
    | _ => s.blowEnds b

/-- One hammer at access ACTIVE (R60). DESIGN CHOICE (log 61): the hammers act in bell order, each withdrawal with its own
service; a grant that comes of one goes back when it is told. -/
def accessHammer (b : Nat) (s : State) : State :=
  let t := s.refuseHeld b .access
  match (t.bell b).hammer with
  | .waiting .. => ((t.setBell b { t.bell b with hammer := .idle }).withdraw (.hammer b)).answerRefused b .access
  | _ => t

/-- An access change at the bell table (R60, R48). -/
def accessBells (s : State) : State :=
  let t := match s.power.access with
    | .active => s.each bellNumbers accessHammer
    | .clear => s
  t.postAll (bellNumbers.map .report)

/-- One hammer at mains loss (R61): no units are released. -/
def lossHammer (b : Nat) (s : State) : State :=
  let t := s.refuseHeld b .reserve
  match (t.bell b).hammer with
  | .pulse .. => t.pulseOver b
  | .waiting .. => (t.setBell b { t.bell b with hammer := .idle }).answerRefused b .reserve
  | _ => t

/-- Mains loss at the bell table (R61, R48). -/
def lossBells (s : State) : State := (s.each bellNumbers lossHammer).postAll (bellNumbers.map .report)

/-! ## Coil checks (R62-R65) -/

/-- SENSE_INSTANT (R62). -/
def senseInstant (b : Nat) (s : State) : State :=
  match (s.bell b).hammer with
  | .pulse ends (some instant) =>
    let s := s.runTo instant
    (s.setBell b { s.bell b with hammer := .pulse ends none }).queueConversion (.coil b)
  | _ => s

/-- A hammer fault is set (R63). -/
def State.setHammerFault (s : State) (b : Nat) (f : HammerFault) (reading : Nat) : State :=
  let t := s.setBell b { s.bell b with fault := f, newMark := true }
  ((t.notify (.faultBell b f reading (t.bell b).claim)).post (.report b)).refuseHeld b .fault

/-- A COIL result (R63). -/
def coilResult (b reading : Nat) (s : State) : State :=
  let s := s.setBell b { s.bell b with reading := some reading }
  let w := s.bell b
  if w.fault ≠ .none then s
  else if reading < s.tables.hammerCheck.opened then
    let t := s.setBell b { w with opens := w.opens + 1 }
    if w.opens + 1 = 3 then t.setHammerFault b .opened reading else t
  else if s.tables.hammerCheck.short < reading then
    let t := s.setHammerFault b .short reading
    match w.hammer with
    | .pulse .. => t.pulseEnds b
    | _ => t
  else s.setBell b { w with opens := 0 }

/-- CLEARFAULT of a bell (R65). -/
def State.clearBellFault (s : State) (b : Nat) : State :=
  (s.setBell b { s.bell b with fault := .none, opens := 0, newMark := false }).post (.report b)

/-! ## Start values (R66, R67) -/

/-- A bell at the opening of LOADING: what retained memory holds is kept for the judgement at LOADING's end. -/
def openBell (bound : Option Nat) (w : Bell) : Bell :=
  { bell0 with
    claim := match bound with | some u => .settling u | none => .free
    fault := w.fault
    newMark := w.newMark
    opens := w.opens }

/-- The retained fields of a bell cleared: a cold start, or a BELL table that started with defaults (R66). -/
def clearedBell (w : Bell) : Bell := { w with fault := .none, newMark := false, opens := 0 }

end Sys2Proof.Machine
end

