-- ==== Sys2Proof/Machine/Chime.lean ====
section
/-! DEFINITION. The chime player's starts, ends and requests (4.4-4.8), and the strike generator (4.2). -/

namespace Sys2Proof.Machine

/-! ## Starting (R81-R83) -/

/-- The numbers of a run's notes in the note store (R74). -/
def runNotes (first count : Nat) : List Nat := (List.range count).map (first + ·)

/-- The bells a performance needs, each once: those its run's notes name, or its one bell (R81). -/
def State.bellSet (s : State) (p : Perf) : List Nat :=
  match p.args with
  | .strokes bell .. => [bell]
  | .tune t _ =>
    let r := s.tuneRec t
    let named := (runNotes r.first r.count).flatMap fun n => (s.noteRec n).bells
    bellNumbers.filter named.contains

/-- A bell is in use with hammer fitted (R81). -/
def State.hammered (s : State) (b : Nat) : Bool := (s.bellRec b).inUse && (s.bellRec b).fitted

/-- The first check of a start (R81 step 1): the reason it drops the performance for, if any. -/
def State.unusable (s : State) (p : Perf) : Option DropReason :=
  match p.args with
  | .strokes bell .. => if s.hammered bell then none else some .badBell
  | .tune t _ =>
    let r := s.tuneRec t
    if r.used && ((runNotes r.first r.count).all fun n => (s.noteRec n).used) && (s.bellSet p).all s.hammered then none
    else some .badTune

/-- The run the player keeps of a tune (R81). -/
def State.readRun (s : State) (p : Perf) : Option Run × Option Nat :=
  match p.args with
  | .tune t _ => let r := s.tuneRec t; (some ⟨r.first, r.count, r.tempo⟩, some t)
  | .strokes .. => (none, none)

/-- The head's start is tried (R81). -/
def State.tryHead (s : State) (p : Perf) : State :=
  match s.unusable p with
  | some reason => s.drop p reason
  | none =>
    match s.claimBells p.id (s.bellSet p) with
    | none =>
      s.withChime { s.chime with
          queue := s.chime.queue.map fun (q : Perf) => if q.id = p.id then { q with blocked := true } else q }
    | some t =>
      let p' := { p with playing := true, blocked := false, rep := 1, note := 0 }
      let t := t.withChime { t.chime with
        queue := t.chime.queue.map fun (q : Perf) => if q.id = p.id then p' else q
        playing := some
          { id := p.id, run := (s.readRun p).1, tune := (s.readRun p).2, bells := s.bellSet p, started := s.now,
            marks := [], phase := .noteWait [] s.now true } }
      (t.notify (.started p')).requestNote

/-- The head that is to be tried now: the player is idle, and the head is due and not blocked (R81). -/
def State.dueHead (s : State) : Option Perf :=
  match s.chime.playing, s.head with
  | none, some p => if !p.blocked && decide (p.due ≤ s.now) then some p else none
  | _, _ => none

/-- A strikeable report (R82): the blocked head is tried again where the bell is one of its set. DESIGN CHOICE (log 51): the
set is read anew from the tune and the notes at each report, as they may have been edited since the last claim. -/
def strikeableReport (b : Nat) (s : State) : State :=
  match s.chime.playing, s.head with
  | none, some p => if p.blocked && s.strikeable b && (s.bellSet p).contains b then s.tryHead p else s
  | _, _ => s

/-- HEAD_DUE (R81): time reaches the head's due. The start is tried when the command's messages are done (log 4). -/
def headDue (s : State) : State :=
  match s.chime.playing, s.head with
  | none, some p => if p.blocked then s else s.runTo p.due
  | _, _ => s

/-- START_DEADLINE (R83). -/
def startDeadline (id : Nat) (s : State) : State :=
  match s.chime.queue.find? fun p => p.id = id with
  | some p => if p.playing then s else (s.runTo p.deadline).drop p .late
  | none => s

/-! ## Playing (R84-R89) -/

/-- NOTE_DUE (R84, R86). -/
def noteDue (s : State) : State :=
  match s.chime.playing with
  | some { phase := .interval due, .. } =>
    let s := s.runTo due
    match s.chime.playing with
    | some pl => (s.onPlaying (nextPosition pl)).requestNote
    | none => s
  | _ => s

/-- NOTE_WAIT_EXPIRY (R85): every outstanding blow is withdrawn. DESIGN CHOICE (log 62): one by one, so that a withdrawal can
let the next blow enter PULSE, which is then TOO_LATE. -/
def noteWaitExpiry (s : State) : State :=
  match s.chime.playing with
  | some { phase := .noteWait l deadline _, id, .. } =>
    let t := (s.runTo deadline).setPlaying fun pl => { pl with phase := .noteWait l deadline true }
    (t.postAll (l.map fun b => .withdraw b id)).post .noteDealt
  | _ => s

/-- The release request of the playing performance (R87 step 1). -/
def State.endPlaying (s : State) (reason : EndReason) : State :=
  match s.chime.playing with
  | some pl =>
    ((s.setPlaying fun pl => { pl with phase := .ending reason }).post (.release pl.bells pl.id)).post .releaseCheck
  | none => s

/-- TAIL_END (R87). -/
def tailEnd (s : State) : State :=
  match s.chime.playing with
  | some { phase := .tail ends, .. } => (s.runTo ends).endPlaying .complete
  | _ => s

/-- The release request is answered when every bell's release is complete (R50, R87 step 2). -/
def releaseCheck (s : State) : State :=
  match s.chime.playing, s.playingPerf with
  | some { phase := .ending reason, id, bells, started, .. }, some p =>
    if bells.any fun b => (s.bell b).claim = .struck id then s
    else
      let t := s.leaveQueue id
      (t.withChime { t.chime with playing := none }).notify (.ended p reason started)
  | _, _ => s

/-- The playing performance has sent its release request. -/
def Playing.ended (pl : Playing) : Bool := match pl.phase with | .ending _ => true | _ => false

/-- An abort (R89). -/
def abortPlaying (reason : EndReason) (id : Option Nat) (s : State) : State :=
  match s.chime.playing with
  | some pl => if pl.ended || id.any (· ≠ pl.id) then s else s.endPlaying reason
  | none => s

/-- The CANCEL request (R88). -/
def cancelPerf (id : Nat) (s : State) : State × Status :=
  match s.chime.queue.find? fun p => p.id = id with
  | none => (s, .noEntry)
  | some p =>
    if p.playing then
      (match s.chime.playing with | some pl => if pl.ended then s else s.endPlaying .cancelled | none => s, .ok)
    else (s.drop p .cancelled, .ok)

/-! ## The PLAY request (R80) -/

/-- The ms from now until civil time next reads a time of day, given in ms of the day (R80). -/
def untilTimeOfDay (civil target : Nat) : Nat :=
  let present := msOfDay civil
  if present ≤ target then target - present else target + Config.dayMs - present

/-- The PLAY request with its kind, arguments and due: `none` for NOW, else ms of the day (R80). -/
def playRequest (kind : PerfKind) (args : PerfArgs) (due : Option Nat) (s : State) : State × Status × Option Nat :=
  match due, s.time.civil with
  | some _, none => (s, .notSet, none)
  | _, civil =>
    let wait := match due, civil with
      | some target, some c => untilTimeOfDay c target
      | _, _ => 0
    match s.offer (s.makePerf kind args .request none (s.now + wait)) with
    | (t, .accepted id) => (t, .ok, some id)
    | (t, .noEntry) => (t, .noEntry, none)
    | (t, .queueFull) => (t, .queueFull, none)

/-! ## The strike generator (R69-R73) -/

/-- The quarter tune of a quarter hour (R69). -/
def quarterTune (t : StrikeSettings) (quarter : Nat) : Option Nat :=
  match quarter % 4 with
  | 0 => t.q4
  | 1 => t.q1
  | 2 => t.q2
  | _ => t.q3

/-- The civil hour of an instant read on a 12-hour dial (R69). -/
def strikeCount (quarter : Nat) : Nat := if quarter / 4 % 12 = 0 then 12 else quarter / 4 % 12

/-- The performances of a quarter instant, quarters counted from 2000-01-01 00:00 (R69). -/
def quarterPerfs (t : StrikeSettings) (quarter : Nat) : List (PerfKind × PerfArgs) :=
  (match t.quarters, quarterTune t quarter with
    | true, some tune => [(.quarter, .tune tune 1)]
    | _, _ => []) ++
  (if quarter % 4 = 0 ∧ t.hours = true then
    [(.hour, .strokes t.hourBell (strikeCount quarter) t.gap t.velocity)] else [])

/-- One performance of the generator: offered, or skipped while the quiet flag is set (R69, R73, R78). -/
def State.generate (s : State) (quarter civil : Nat) (k : PerfKind × PerfArgs) : State :=
  if s.day.quiet then s.notify (.skippedStrike k.1 quarter civil .quiet)
  else
    let p := s.makePerf k.1 k.2 .generator none s.now
    match s.offer p with
    | (t, .accepted _) => t
    | (t, .noEntry) => t.dropOffer p .badTune
    | (t, .queueFull) => t.dropOffer p .queueFull

/-- A quarter instant judged against the guard and taken (R70), its performances offered or skipped as late (R69, R71). -/
def takeQuarter (quarter civil : Nat) (s : State) : State :=
  if s.chime.quarterGuard.any (quarter ≤ ·) then s
  else
    let t := s.withChime { s.chime with quarterGuard := some quarter }
    let made := quarterPerfs t.tables.strike quarter
    if civil - quarter * 900000 ≤ t.tables.strike.lateness * 1000 then
      made.foldl (fun t k => t.generate quarter civil k) t
    else made.foldl (fun t k => t.notify (.skippedStrike k.1 quarter civil .late)) t

/-- A civil minute boundary at the strike generator (R69). -/
def minuteStrike (minute : Nat) (s : State) : State :=
  if minute % 15 = 0 then takeQuarter (minute / 15) (minute * 60000) s else s

/-- A civil step at the strike generator (R71, R72): the latest quarter instant in (old, new]. -/
def stepStrike (old new : Nat) (s : State) : State :=
  if old < new / 900000 * 900000 then takeQuarter (new / 900000) new s else s

/-- The time-set event at the strike generator (R71). -/
def timeSetStrike (civil : Nat) (s : State) : State := takeQuarter (civil / 900000) civil s

/-- READY at the strike generator (R71, R92). -/
def readyStrike (s : State) : State :=
  match s.time.civil with
  | some civil => timeSetStrike civil s
  | none => s

end Sys2Proof.Machine
end

