-- ==== Sys2Proof/Machine/Floods.lean ====
section
/-! DEFINITION. The floodlight controller (chapter 7): demand, scenes and overrides, SWITCHED and DIMMED circuits, shedding. -/

namespace Sys2Proof.Machine

/-! ## Units, demand and notices (R128, R131, R144) -/

/-- U(L): the units of a DIMMED circuit at a level (R128). -/
def CircuitRec.unitsAt (r : CircuitRec) (level : Nat) : Nat := (r.rated * level + 99) / 100

/-- The time of a fade step, ms (R138). -/
def CircuitRec.stepTime (r : CircuitRec) : Nat := 1000 / r.fade

/-- The demand of a circuit and its source (R131). -/
def State.demandOf (s : State) (c : Nat) : Nat × DemandSource :=
  let r := s.circuitRec c
  let w := s.circuit c
  let d : Nat × DemandSource :=
    if r.accessLight ∧ s.power.access = .active then (100, .access)
    else match w.override with
      | some o => (o.level, .override)
      | none => (w.sceneLevel, .scene)
  (if r.inUse then d.1 else 0, d.2)

/-- The output level of a circuit (R130). -/
def Circuit.output (w : Circuit) (kind : CircuitKind) : Nat :=
  match kind with
  | .dimmed => w.level
  | .switched => if w.state = .warming ∨ w.state = .on then 100 else 0

/-- The FLOOD notice (R144), with the units held given. -/
def State.floodNotice (s : State) (c : Nat) (old : CircuitState) (cause : FloodCause) (units : Nat) : State :=
  let w := s.circuit c
  s.notify (.flood c old w.state cause w.demand w.source (w.output (s.circuitRec c).kind) units)

/-- A circuit's fields change its state, with the FLOOD notice (R144), which carries the units given. Where units go back at
the change, the notice is handed over before the release, so that it goes before the notices of the grants that follow. -/
def State.changeCircuit (s : State) (c : Nat) (w : Circuit) (cause : FloodCause) (units : Nat) : State :=
  let t := s.setCircuit c w
  if (s.circuit c).state = w.state then t else t.floodNotice c (s.circuit c).state cause units

/-- A circuit's fields change its state, its units as they are (R144). -/
def State.moveCircuit (s : State) (c : Nat) (w : Circuit) (cause : FloodCause) : State :=
  s.changeCircuit c w cause (s.held (.flood c))

/-- A message that is a notice. -/
def Msg.isNotice : Msg → Bool
  | .notice _ => true
  | _ => false

/-- A circuit's waiting request and every unit it holds are given up. -/
def State.giveUp (s : State) (c : Nat) : State := (s.withdraw (.flood c)).releaseAll (.flood c)

/-! ## SWITCHED circuits (R136, R137) -/

/-- A SWITCHED circuit asks for its surge units (R136). -/
def State.strike (s : State) (c : Nat) (cause : FloodCause) : State :=
  (s.moveCircuit c { s.circuit c with state := .waiting, timer := none } cause).request (.flood c) (s.circuitRec c).surge

/-- A struck lamp is switched off and cools (R137). -/
def State.cool (s : State) (c : Nat) (cause : FloodCause) : State :=
  (s.changeCircuit c
    { s.circuit c with state := .cooling, timer := some (s.now + (s.circuitRec c).restrike * 1000) } cause 0).releaseAll
      (.flood c)

/-- A SWITCHED circuit acts on its demand, mains being NORMAL (R136, R137). -/
def State.actSwitched (s : State) (c : Nat) (cause : FloodCause) : State :=
  let w := s.circuit c
  match w.state, decide (1 ≤ w.demand) with
  | .off, true => s.strike c cause
  | .waiting, false => (s.changeCircuit c { w with state := .off } cause 0).withdraw (.flood c)
  | .warming, false | .on, false => s.cool c cause
  | _, _ => s

/-- The end of warm-up: ON, the surge less the rated units released (R137). -/
def State.warmed (s : State) (c : Nat) : State :=
  let surplus := (s.circuitRec c).surge - (s.circuitRec c).rated
  (s.changeCircuit c { s.circuit c with state := .on, timer := none } .warmed (s.held (.flood c) - surplus)).release
    (.flood c) surplus

/-- WARM_UP_END (R137). -/
def warmUpEnd (c : Nat) (s : State) : State :=
  match (s.circuit c).state, (s.circuit c).timer with
  | .warming, some instant => (s.runTo instant).warmed c
  | _, _ => s

/-- RESTRIKE_END (R137, R142, R146). -/
def restrikeEnd (c : Nat) (s : State) : State :=
  match (s.circuit c).state, (s.circuit c).timer with
  | .cooling, some instant =>
    let s := s.runTo instant
    let w := s.circuit c
    if !s.ready then s.setCircuit c { w with state := .off, timer := none }
    else if 1 ≤ w.demand ∧ s.mainsNormal = true then s.strike c .restrikeEnd
    else s.moveCircuit c { w with state := .off, timer := none } .restrikeEnd
  | _, _ => s

/-! ## DIMMED circuits (R138, R139) -/

/-- The fade runs toward the target, its timer kept where it already runs (R138, log 24). -/
def State.runFade (s : State) (c : Nat) : State :=
  let w := s.circuit c
  s.setCircuit c { w with
    fade := if w.level = w.target then none else some (w.fade.getD (s.now + (s.circuitRec c).stepTime)) }

/-- A DIMMED circuit goes dark: OFF, with nothing requested and nothing held (R138, R139). -/
def State.darken (s : State) (c : Nat) (cause : FloodCause) : State :=
  (s.changeCircuit c { s.circuit c with state := .off, level := 0, target := 0, fade := none } cause 0).giveUp c

/-- The units of a circuit's waiting request, if it has one (R130). -/
def State.requested (s : State) (c : Nat) : Option Nat :=
  (s.supply.waiting.find? fun r => r.claimant = .flood c).map SupplyRequest.units

/-- A rise waits for units: a request for them waits already, or is made in place of one for others (R139). -/
def State.seek (s : State) (c units : Nat) : State :=
  if s.requested c = some units then s else s.request (.flood c) units

/-- The fade target of a DIMMED circuit (R139). -/
def State.retarget (s : State) (c target : Nat) (cause : FloodCause) : State :=
  let need := (s.circuitRec c).unitsAt target
  let held := s.held (.flood c)
  let w := s.circuit c
  if held < need then
    (s.moveCircuit c { w with
      target := target, fade := none, state := if w.state = .off then .waiting else w.state } cause).seek c (need - held)
  else if target = 0 ∧ (w.state ≠ .on ∨ w.level = 0) then s.darken c cause
  else
    let t := ((s.setCircuit c { w with target := target }).withdraw (.flood c)).runFade c
    if w.level ≤ target then t.release (.flood c) (held - need) else t

/-- FADE_STEP (R138). -/
def fadeStep (c : Nat) (s : State) : State :=
  match (s.circuitRec c).kind, (s.circuit c).state, (s.circuit c).fade with
  | .dimmed, .on, some instant =>
    let s := s.runTo instant
    let w := s.circuit c
    let level := if w.level < w.target then w.level + 1 else w.level - 1
    let s := s.setCircuit c { w with level := level, fade := none }
    if level = 0 ∧ w.target = 0 then s.darken c .fadedOut
    else if level < w.level then
      (s.runFade c).release (.flood c) (s.held (.flood c) - (s.circuitRec c).unitsAt level)
    else s.runFade c
  | _, _, _ => s

/-! ## Shedding (R140, R141) -/

/-- A circuit the shed signal reaches (R140). -/
def State.sheds (s : State) (c : Nat) : Bool :=
  let r := s.circuitRec c
  decide (r.kind = .dimmed) && r.sheddable && decide (r.shed < (s.circuit c).demand)

/-- A circuit is marked SHED: its level drops to the shed level at once, and the notice is sent (R140). DESIGN CHOICE (log 64):
the notice carries the level after the drop and the units after the release. -/
def State.markShed (s : State) (c : Nat) : State :=
  let r := s.circuitRec c
  let w := s.circuit c
  let drops := decide (r.shed < w.level)
  (s.setCircuit c { w with
      shed := true, level := if drops then r.shed else w.level, fade := if drops then none else w.fade }).floodNotice c
    w.state .shed (if drops then min (s.held (.flood c)) (r.unitsAt r.shed) else s.held (.flood c))

/-- A circuit's level drops to its shed level: it is marked, and the units above the shed level's are released (R140). -/
def State.dropToShed (s : State) (c : Nat) : State :=
  (s.markShed c).release (.flood c) (s.held (.flood c) - (s.circuitRec c).unitsAt (s.circuitRec c).shed)

/-- A DIMMED circuit is capped (R140): marked where it is not, with its level's drop and the release first, and then the shed
level is its target by R139, which withdraws a waiting rise. `cause` is that of a change of state. DESIGN CHOICE (log 64): an ON
circuit whose shed level is 0 goes OFF with the cause SHED. -/
def State.cap (s : State) (c : Nat) (cause : FloodCause) : State :=
  let r := s.circuitRec c
  let w := s.circuit c
  (if w.shed then s else if r.shed < w.level then s.dropToShed c else s.markShed c).retarget c r.shed cause

/-- A circuit's SHED mark is cleared, with the notice (R140, R141). -/
def State.unmarkShed (s : State) (c : Nat) : State :=
  (s.setCircuit c { s.circuit c with shed := false }).floodNotice c (s.circuit c).state .restored (s.held (.flood c))

/-- One marked circuit at the signal's clearing (R141). Without mains the mark goes and no request is made (R142). -/
def State.uncap (s : State) (c : Nat) : State :=
  let t := s.unmarkShed c
  if t.mainsNormal && decide ((t.circuitRec c).kind = .dimmed) then t.retarget c (t.circuit c).demand .restored else t

/-- A DIMMED circuit acts on its demand, mains being NORMAL (R139, R140). -/
def State.actDimmed (s : State) (c : Nat) (cause : FloodCause) : State :=
  let w := s.circuit c
  if s.floods.shedSeen && s.sheds c then s.cap c cause
  else (if w.shed then s.unmarkShed c else s).retarget c w.demand cause

/-! ## Demand judged, and grants (R131, R136, R139) -/

/-- The demand of a circuit taken afresh (R131). -/
def State.takeDemand (s : State) (c : Nat) : State :=
  s.setCircuit c { s.circuit c with demand := (s.demandOf c).1, source := (s.demandOf c).2 }

/-- A circuit acts on its demand, mains being NORMAL (R131). A circuit that has become SWITCHED is not shed (R140, log 38). -/
def State.actCircuit (s : State) (c : Nat) (cause : FloodCause) : State :=
  match (s.circuitRec c).kind with
  | .switched => (if (s.circuit c).shed then s.unmarkShed c else s).actSwitched c cause
  | .dimmed => s.actDimmed c cause

/-- The arbiter grants a circuit's units (R136, R139). -/
def floodGranted (c units : Nat) (s : State) : State :=
  let w := s.circuit c
  let r := s.circuitRec c
  match r.kind, w.state with
  | .switched, .waiting =>
    if s.mainsNormal && decide (1 ≤ w.demand) then
      let t := s.moveCircuit c { w with state := .warming, timer := some (s.now + r.warmUp * 1000) } .grant
      if r.warmUp = 0 then t.warmed c else t
    else (s.changeCircuit c { w with state := .off } .grant (s.held (.flood c) - units)).release (.flood c) units
  | .dimmed, .waiting =>
    if s.mainsNormal then (s.moveCircuit c { w with state := .on } .grant).retarget c w.target .grant
    else (s.changeCircuit c { w with state := .off } .grant (s.held (.flood c) - units)).release (.flood c) units
  | .dimmed, .on => if s.mainsNormal then s.retarget c w.target .grant else s.release (.flood c) units
  | _, _ => s.release (.flood c) units

/-! ## One event for several circuits (R131, R140, R141, R144) -/

/-- The units a message grants a circuit. -/
def Msg.grantOf (c : Nat) : Msg → Option Nat
  | .granted (.flood d) units => if d = c then some units else none
  | _ => none

/-- A circuit is told the grants that its own act drew, before the next circuit acts (chapter 7's example, log 59). -/
def State.takeOwnGrants (s : State) (c : Nat) : State :=
  (s.agenda.filterMap (Msg.grantOf c)).foldl (fun t units => floodGranted c units t)
    (s.withAgenda (s.agenda.filter fun m => (m.grantOf c).isNone))

/-- What one event does to several circuits, in their order: each acts and is told its own grants. Their notices go first,
C0's first (R144); what their releases and requests bring others is told when every circuit has acted (log 59). -/
def State.eachCircuit (s : State) (l : List Nat) (f : Nat → State → State) : State :=
  let t := (s.withAgenda []).each l fun c t => (f c t).takeOwnGrants c
  t.withAgenda (s.agenda ++ t.agenda.filter Msg.isNotice ++ t.agenda.filter fun m => !m.isNotice)

/-- SET handed to the floodlight controller (R140): the circuits in their order (R144). -/
def shedSet (s : State) : State :=
  let s := s.withFloods { s.floods with shedSeen := true }
  s.eachCircuit (circuitNumbers.filter fun c => s.sheds c && !(s.circuit c).shed) fun c t => t.cap c .shed

/-- CLEAR handed to the floodlight controller (R141): the circuits in their order (R144). -/
def shedClear (s : State) : State :=
  let s := s.withFloods { s.floods with shedSeen := false }
  s.eachCircuit (circuitNumbers.filter fun c => (s.circuit c).shed) fun c t => t.uncap c

/-- The demands of circuits are judged afresh at one instant (R131, R133): every demand is taken, then, mains being NORMAL
(R142), each circuit acts on its own, in circuit order (R144). -/
def judgeCircuits (l : List Nat) (cause : FloodCause) (s : State) : State :=
  let t := s.each l fun c t => t.takeDemand c
  if t.mainsNormal then t.eachCircuit l fun c t => t.actCircuit c cause else t

/-! ## Scenes and overrides (R133-R135) -/

/-- Scene levels are written; the circuits whose level changed are judged afresh (R133). -/
def State.writeLevels (s : State) (levels : List (Option Nat)) (last : Option Nat) : State :=
  let changed := circuitNumbers.filter fun c => (levels.getD c none).any fun l => l ≠ (s.circuit c).sceneLevel
  let t := s.each changed fun c t => t.setCircuit c { t.circuit c with sceneLevel := (levels.getD c none).getD 0 }
  (t.withFloods { t.floods with lastScene := last }).post (.judgeCircuits changed .demand)

/-- A scene is activated (R133). -/
def activateScene (scene : Nat) (s : State) : State × Status :=
  let r := s.sceneRec scene
  if r.used then (s.writeLevels r.levels (some scene), .ok) else (s, .noEntry)

/-- Every scene level becomes 0 and the last scene none (R134). -/
def State.clearLevels (s : State) : State := s.writeLevels (List.replicate 12 (some 0)) none

/-- The fallback scene is activated where it is set and used (R134). -/
def State.fallBack (s : State) : State :=
  match s.tables.light.fallback with
  | some scene => (activateScene scene s).1
  | none => s

/-- A transition of the light state at the floodlights (R134). -/
def transitionFloods (state : LightState) (s : State) : State :=
  if s.time.state ≠ .unset then s
  else match state with
    | .dark => s.fallBack
    | .light => s.clearLevels
    | .unknown => s

/-- The time state becomes UNSET (R134). -/
def unsetFloods (s : State) : State := if s.light.state = .dark then s.fallBack else s.clearLevels

/-- OVERRIDE (R135), its fields being in range: a level of `none` is RELEASE, the duration is in minutes. -/
def overrideRequest (c : Nat) (level : Option Nat) (duration : Nat) (s : State) : State × Status :=
  if !(s.circuitRec c).inUse then (s, .noEntry)
  else
    let o : Option Override := level.map fun l =>
      { level := l, expiry := if duration = 0 then none else some (s.now + duration * 60000) }
    ((s.setCircuit c { s.circuit c with override := o }).post (.judgeCircuits [c] .demand), .ok)

/-- OVERRIDE_EXPIRY (R135). -/
def overrideExpiry (c : Nat) (s : State) : State :=
  match (s.circuit c).override with
  | some { expiry := some instant, .. } =>
    let s := s.runTo instant
    (s.setCircuit c { s.circuit c with override := none }).post (.judgeCircuits [c] .demand)
  | _ => s

/-! ## Access, mains and start (R142, R143, R146) -/

/-- An access change at the floodlights (R143). -/
def accessFloods (s : State) : State :=
  judgeCircuits (circuitNumbers.filter fun c => (s.circuitRec c).accessLight) .demand s

/-- One circuit at mains loss (R142): the arbiter drops the units itself. A SHED mark's clearing is reported (log 37).
DESIGN CHOICE (log 53): a DIMMED circuit's fade target, which R142 does not name, is 0 until the mains return. -/
def lossCircuit (c : Nat) (s : State) : State :=
  let w := s.circuit c
  let r := s.circuitRec c
  let go (s : State) (w : Circuit) : State := (s.setCircuit c w).floodNotice c (s.circuit c).state .mainsLoss 0
  match r.kind, w.state with
  | .switched, .warming | .switched, .on =>
    go s { w with state := .cooling, timer := some (s.now + r.restrike * 1000) }
  | .switched, .waiting => go s { w with state := .off }
  | .dimmed, .waiting | .dimmed, .warming | .dimmed, .on =>
    let s := if w.shed then s.unmarkShed c else s
    go s { s.circuit c with state := .off, level := 0, target := 0, fade := none }
  | _, _ => s

/-- Mains loss at the floodlights (R142). -/
def lossFloods (s : State) : State := s.each circuitNumbers lossCircuit

/-- Mains return, and READY, at the floodlights (R142, R146): every circuit is judged against its demand. -/
def returnFloods (cause : FloodCause) (s : State) : State := judgeCircuits circuitNumbers cause s

/-- A circuit at the opening of LOADING (R146). -/
def openCircuit (r : CircuitRec) (w : Circuit) : Circuit :=
  match r.kind with
  | .switched => { circuit0 with sceneLevel := w.sceneLevel, state := .cooling, timer := some (r.restrike * 1000) }
  | .dimmed => { circuit0 with sceneLevel := w.sceneLevel }

end Sys2Proof.Machine
end

