-- ==== Sys2Proof/Machine/Light.lean ====
section
/-! DEFINITION. The light monitor: sampling, the window, the sensor fault and the light states (8.3-8.6), and the end of a
conversion (8.1). -/

namespace Sys2Proof.Machine

/-! ## Sampling (R151) -/

/-- A sample instant: a LIGHT request, unless one waits or is in flight; the timer restarts. -/
def State.sampleNow (s : State) : State :=
  let t := if s.converting .light then s else s.queueConversion .light
  t.withLight { t.light with sample := some (s.now + s.tables.light.interval * 1000) }

/-- SAMPLE_INSTANT (R151). -/
def sampleInstant (s : State) : State :=
  match s.light.sample with
  | some instant => (s.runTo instant).sampleNow
  | none => s

/-- Mains loss at the light monitor (R151). -/
def lightLoss (s : State) : State := s.withLight { s.light with sample := none }

/-! ## The window and the states (R152, R153) -/

/-- A reading is good (R151). -/
def goodReading (r : Nat) : Bool := 5 ≤ r && r ≤ 1018

/-- The window with a good reading as its newest entry (R152). -/
def enterWindow (w : List Nat) (r : Nat) : List Nat :=
  (if Config.windowPlaces ≤ w.length then w.drop 1 else w) ++ [r]

/-- What an average makes of the light state and the two runs (R153). -/
def decideLight (t : LightSettings) (l : Light) (avg : Nat) : LightState × Nat × Nat :=
  match l.state with
  | .unknown => (if avg ≤ (t.dusk + t.dawn) / 2 then .dark else .light, 0, 0)
  | .light =>
    if avg ≤ t.dusk then
      if t.confirm ≤ l.darkRun + 1 then (.dark, 0, 0) else (.light, l.darkRun + 1, l.lightRun)
    else (.light, 0, l.lightRun)
  | .dark =>
    if t.dawn ≤ avg then
      if t.confirm ≤ l.lightRun + 1 then (.light, 0, 0) else (.dark, l.darkRun, l.lightRun + 1)
    else (.dark, l.darkRun, 0)

/-- A change of the light state handed to the day programme and the floodlights (R154). -/
def State.lightTransition (s : State) (old new : LightState) : State :=
  if old = new then s else s.postAll [.transitionDay new, .transitionFloods new]

/-- A good reading (R152, R153, R154). -/
def goodLight (r : Nat) (s : State) : State :=
  let l := s.light
  let window := enterWindow l.window r
  let goodRun := min 6 (l.goodRun + 1)
  let restored := l.fault && decide (goodRun = 6)
  let l1 := { l with reading := some r, outRun := 0, goodRun := goodRun, window := window, fault := l.fault && !restored }
  if window.length ≠ Config.windowPlaces then s.withLight l1
  else
    let avg := window.sum / 6
    let d := decideLight s.tables.light l1 avg
    let l2 := { l1 with average := some avg, state := d.1, darkRun := d.2.1, lightRun := d.2.2 }
    let t := (s.withLight l2).lightTransition l.state d.1
    if l.state = d.1 && !restored then t
    else
      t.notify (.light l.state d.1
        (if restored then .sensorRestored else if l.state = .unknown then .decided else .confirmed) (some avg) l2.fault)

/-- An out-of-range reading (R152, R154). -/
def outLight (r : Nat) (s : State) : State :=
  let l := { s.light with reading := some r, goodRun := 0 }
  if l.fault then s.withLight { l with window := [], average := none }
  else if l.outRun + 1 < 3 then s.withLight { l with outRun := l.outRun + 1 }
  else
    let t := s.withLight { l with
      fault := true, newMark := true, window := [], average := none, state := .unknown, darkRun := 0, lightRun := 0,
      outRun := 0 }
    ((t.lightTransition s.light.state .unknown).notify (.light s.light.state .unknown .sensorFault none true)).notify
      (.faultLight r s.light.state)

/-- A LIGHT result (R151). -/
def lightResult (r : Nat) (s : State) : State := if goodReading r then goodLight r s else outLight r s

/-- CONVERSION_END (R147): the reading goes to its requester, and the converter begins its new head. -/
def conversionEnd (reading : Nat) (s : State) : State :=
  match s.converter.inFlight with
  | none => s
  | some (c, ends) =>
    let s := s.runTo ends
    let t := (s.withConverter { s.converter with inFlight := none }).beginConversion
    match c with
    | .coil b => coilResult b reading t
    | .light => lightResult reading t

/-- CLEARFAULT of the light sensor (R152). -/
def State.clearLightMark (s : State) : State := s.withLight { s.light with newMark := false }

/-- The light settings change: a new threshold or confirm count clears the runs (R155). -/
def State.newLightSettings (s : State) (new : LightSettings) : State :=
  let old := s.tables.light
  let t := s.withTables { s.tables with light := new }
  if old.dusk = new.dusk ∧ old.dawn = new.dawn ∧ old.confirm = new.confirm then t
  else t.withLight { t.light with darkRun := 0, lightRun := 0 }

/-- A conversion on the line: its kind, and the bell of a COIL (R156). -/
def conversionFields : Conversion → List Item
  | .coil b => enum 1 0 ++ num 1 b
  | .light => enum 1 1 ++ num 1 0

/-- The fields of LIGHTINFO (R156). DEDUCED (log 18): the conversion in flight, "COIL with its bell, LIGHT, or none", is a
presence mark, a kind of one bit and the bell. -/
def lightReport (s : State) : List Byte :=
  let l := s.light
  pack (enum 2 l.state.ctorIdx ++ mark l.fault ++ mark l.newMark ++ listing (l.window.map (beBytes 2)) ++
    opt 2 l.average ++ opt 2 l.reading ++ mark (l.reading.any fun r => !goodReading r) ++ num 1 l.darkRun ++
    num 1 l.lightRun ++ num 1 l.outRun ++ num 1 l.goodRun ++ opt 6 l.sample ++
    listing (s.converter.queue.map fun c => pack (conversionFields c)) ++
    match s.converter.inFlight with
    | none => mark false ++ enum 1 0 ++ num 1 0
    | some (c, _) => mark true ++ conversionFields c)

end Sys2Proof.Machine
end

