-- ==== Sys2Proof/Machine/Swing.lean ====
section
/-! DEFINITION. The swing controller (5.2-5.8): the encoder, the swing states, the drive, faults, RING and HALT. -/

namespace Sys2Proof

/-- The sign of a direction (R94). -/
def Dir.sign : Dir → Int
  | .positive => 1
  | .negative => -1

/-- The opposite direction. -/
def Dir.other : Dir → Dir
  | .positive => .negative
  | .negative => .positive

end Sys2Proof

namespace Sys2Proof.Machine

/-! ## Settings in counts -/

/-- A setting of degrees in counts (spec/00_scope.md, Angles). -/
def SwingRec.inCounts (r : SwingRec) (degrees : Nat) : Nat := r.counts * degrees / 360

/-- The mark a turn is judged against: the target less the band, in counts (R100). -/
def SwingRec.mark (r : SwingRec) : Nat := r.inCounts r.target - r.inCounts r.band

/-- The rest threshold in counts. -/
def SwingRec.restCounts (r : SwingRec) : Nat := r.inCounts r.rest

/-! ## Notices (R113) -/

/-- The UNIT notice of a change of state (R113). -/
def State.unitNotice (s : State) (u : Nat) (old : UnitState) (cause : UnitCause) : State :=
  let w := s.unit u
  s.notify (.unit u (s.bellOfUnit u) old w.state cause w.owner w.amplitude w.lowKind w.fault)

/-- The PENDING notice (R113). -/
def State.pendingNotice (s : State) (u : Nat) (failed : Option FailReason) : State :=
  s.notify (.pending u (s.bellOfUnit u) failed)

/-! ## The drive (R101) -/

/-- A drive impulse is asked for where the drive is IDLE; a kick has no window (R101, R99). -/
def State.askImpulse (s : State) (u : Nat) (dir : Dir) (kick braking : Bool) : State :=
  let w := s.unit u
  match w.drive with
  | .idle =>
    (s.setUnit u { w with
      drive := .waiting dir (if kick then none else some (s.now + (s.swingRec u).window)) braking }).request (.swing u)
      (s.swingRec u).units
  | _ => s

/-- The state a granted impulse needs (R101). -/
def SwingUnit.wants (w : SwingUnit) (r : SwingRec) (braking : Bool) : Bool :=
  if braking then decide (w.state = .lowering) && decide (w.lowKind = some .normal) && decide (r.brake = .counter)
  else decide (w.state = .raising) || decide (w.state = .swinging)

/-- The arbiter grants a unit's drive units (R101). -/
def swingGranted (u units : Nat) (s : State) : State :=
  let w := s.unit u
  match w.drive with
  | .waiting dir _ braking =>
    if s.accessClear && s.mainsNormal && w.wants (s.swingRec u) braking then
      s.setUnit u { w with drive := .impulse dir (s.now + (s.swingRec u).width) }
    else (s.setUnit u { w with drive := .idle }).release (.swing u) units
  | _ => s.release (.swing u) units

/-- A waiting request is withdrawn, and an impulse cut with its units released (R101, Cuts). -/
def State.cutDrive (s : State) (u : Nat) : State :=
  let w := s.unit u
  match w.drive with
  | .idle => s
  | .waiting .. => (s.setUnit u { w with drive := .idle }).withdraw (.swing u)
  | .impulse .. => (s.setUnit u { w with drive := .idle }).releaseAll (.swing u)

/-- DRIVE_WINDOW_EXPIRY (R101). -/
def driveWindowExpiry (u : Nat) (s : State) : State :=
  match (s.unit u).drive with
  | .waiting _ (some instant) _ => (s.runTo instant).cutDrive u
  | _ => s

/-- DRIVE_IMPULSE_END (R101). -/
def driveImpulseEnd (u : Nat) (s : State) : State :=
  match (s.unit u).drive with
  | .impulse _ ends => (s.runTo ends).cutDrive u
  | _ => s

/-! ## Changes of state (R99, R100, R102-R104) -/

/-- A unit enters RAISING (R99). -/
def State.enterRaising (s : State) (u : Nat) (owner : Owner) (minutes : Nat) (cause : UnitCause) : State :=
  let w := s.unit u
  let r := s.swingRec u
  let t := s.setUnit u { w with
    state := .raising, startPending := false, owner := some owner, minutes := 0,
    ringEnd := if owner = .ring then some (s.now + minutes * 60000) else none,
    raiseLimit := some (s.now + r.raise * 1000), settle := none }
  let t := if w.state = .rest ∨ w.turned = false then t.askImpulse u .positive true false else t
  t.unitNotice u w.state cause

/-- A unit enters SWINGING (R100); a kick still waiting is withdrawn (R99). -/
def State.enterSwinging (s : State) (u : Nat) : State :=
  let s := match (s.unit u).drive with
    | .waiting _ none _ => s.cutDrive u
    | _ => s
  (s.setUnit u { s.unit u with state := .swinging, raiseLimit := none }).unitNotice u .raising .target

/-- A unit enters LOWERING (R102), its drive stopped before. -/
def State.lowerUnit (s : State) (u : Nat) (kind : LowKind) (cause : UnitCause) : State :=
  let w := s.unit u
  (s.setUnit u { w with
    state := .lowering, lowKind := some kind, ringEnd := none, raiseLimit := none,
    lowerLimit := if kind = .reserve then none else some (s.now + (s.swingRec u).lower * 1000),
    noTurn := some (s.now + Config.noTurnLimit) }).unitNotice u w.state cause

/-- A unit in RAISING or SWINGING. -/
def SwingUnit.rings (w : SwingUnit) : Bool := decide (w.state = .raising) || decide (w.state = .swinging)

/-- A unit in RAISING or SWINGING is lowered with its impulse cut (R102). -/
def State.stopUnit (s : State) (u : Nat) (kind : LowKind) (cause : UnitCause) : State :=
  if (s.unit u).rings then (s.cutDrive u).lowerUnit u kind cause else s

/-- A unit enters SETTLING (R103). -/
def State.enterSettling (s : State) (u : Nat) (cause : UnitCause) : State :=
  let old := (s.unit u).state
  let s := s.cutDrive u
  ((s.setUnit u { s.unit u with
    state := .settling, lowKind := none, lowerLimit := none, noTurn := none, turned := false,
    settle := some (s.now + (s.swingRec u).settle * 1000) }).moveClaim u (.settling u)).unitNotice u old cause

/-- The cause of a UNIT notice for a fault (R113). -/
def UnitFault.cause : UnitFault → UnitCause
  | .encoderSlip => .encoderSlip
  | .encoderLost => .encoderLost
  | .raiseTimeout => .raiseTimeout
  | _ => .lowerTimeout

/-- A unit enters FAULT (R104). -/
def State.enterFault (s : State) (u : Nat) (f : UnitFault) : State :=
  let old := (s.unit u).state
  let s := s.cutDrive u
  let t := (s.setUnit u { s.unit u with
    state := .fault, fault := f, newMark := true, ringEnd := none, raiseLimit := none, lowerLimit := none,
    noTurn := none, settle := none, lowKind := none }).moveClaim u (.swung u)
  (t.notify (.faultSwing u (t.bellOfUnit u) f (t.unit u).amplitude)).unitNotice u old f.cause

/-- RAISE_LIMIT_EXPIRY (R100). -/
def raiseLimitExpiry (u : Nat) (s : State) : State :=
  match (s.unit u).state, (s.unit u).raiseLimit with
  | .raising, some instant => (s.runTo instant).enterFault u .raiseTimeout
  | _, _ => s

/-- LOWER_LIMIT_EXPIRY (R102). -/
def lowerLimitExpiry (u : Nat) (s : State) : State :=
  match (s.unit u).state, (s.unit u).lowerLimit with
  | .lowering, some instant => (s.runTo instant).enterFault u .lowerTimeout
  | _, _ => s

/-- NO_TURN_TIMEOUT (R102). -/
def noTurnTimeout (u : Nat) (s : State) : State :=
  match (s.unit u).state, (s.unit u).noTurn with
  | .lowering, some instant => (s.runTo instant).enterSettling u .noTurn
  | _, _ => s

/-- RING_END (R102, R107). -/
def ringEnd (u : Nat) (s : State) : State :=
  match (s.unit u).ringEnd with
  | some instant => if (s.unit u).rings then (s.runTo instant).stopUnit u .normal .ringEnd else s
  | none => s

/-- The angle set to 0 where the bell is, the tracker's angles moved with it (R96, R103, log 20). -/
def SwingUnit.rezero (w : SwingUnit) : SwingUnit :=
  { w with angle := 0, furthest := w.furthest - w.angle, prevReversal := w.prevReversal - w.angle }

/-- SETTLE_TIMER_EXPIRY (R103). -/
def settleTimerExpiry (u : Nat) (s : State) : State :=
  match (s.unit u).state, (s.unit u).settle with
  | .settling, some instant =>
    let s := s.runTo instant
    let w := s.unit u
    let w := if w.referenced then w else { w.rezero with referenced := true }
    ((s.setUnit u { w with state := .rest, turns := 0, owner := none, settle := none }).moveClaim u .free).unitNotice u
      .settling .settled
  | _, _ => s

/-- CLEARFAULT of a unit (R104). -/
def State.clearUnitFault (s : State) (u : Nat) : State :=
  let w := s.unit u
  if w.state = .fault then
    (s.setUnit u { w with
      fault := .none, newMark := false, slips := 0, turns := 0, owner := none,
      referenced := w.referenced && decide (w.fault ≠ .encoderSlip ∧ w.fault ≠ .encoderLost) }).enterSettling u
      .clearfault
  else s.setUnit u { w with newMark := false }

/-! ## The encoder (R95-R97) -/

/-- ENCODER_EDGE (R95): the angle, the last direction and the tracker's furthest point. DEDUCED (log 20): the last direction is
the sign of the last count, and the direction a reversal is judged by, which changes at the reversal, is the tracker's. -/
def encoderEdge (u : Nat) (dir : Dir) (s : State) : State :=
  let w := s.unit u
  let angle := w.angle + dir.sign
  let beyond := match w.trackDir with
    | .positive => decide (w.furthest < angle)
    | .negative => decide (angle < w.furthest)
  s.setUnit u { w with angle := angle, lastDir := dir, furthest := if beyond then angle else w.furthest }

/-- How far the angle has moved back from the furthest point (R95). -/
def SwingUnit.movedBack (w : SwingUnit) : Int := (w.furthest - w.angle) * w.trackDir.sign

/-- A reversal is a turn (R95). -/
def SwingUnit.isTurn (w : SwingUnit) (r : SwingRec) : Bool :=
  if w.referenced then decide (r.restCounts < w.furthest.natAbs)
  else decide (2 * r.restCounts < (w.furthest - w.prevReversal).natAbs)

/-- The tracker after a reversal (R95). -/
def SwingUnit.reversed (w : SwingUnit) : SwingUnit :=
  { w with trackDir := w.trackDir.other, lastDir := w.trackDir.other, furthest := w.angle, prevReversal := w.furthest }

/-- A turn of an amplitude acts by the unit's state (R97, R100, R102, R103); `dir` is the new direction of travel. -/
def State.actOnTurn (s : State) (u : Nat) (amplitude : Option Nat) (dir : Dir) : State :=
  let w := s.unit u
  let r := s.swingRec u
  match w.state with
  | .rest | .fault => s
  | .raising =>
    match amplitude with
    | some a => if a < r.mark then s.askImpulse u dir false false else s.enterSwinging u
    | none => s
  | .swinging =>
    match amplitude with
    | some a => if a < r.mark then s.askImpulse u dir false false else s
    | none => s
  | .lowering =>
    let t := s.setUnit u { w with noTurn := some (s.now + Config.noTurnLimit) }
    if w.lowKind = some .normal ∧ r.brake = .counter then t.askImpulse u dir.other false true else t
  | .settling => s.setUnit u { w with settle := some (s.now + r.settle * 1000), turned := true }

/-- A turn (R95, R97): it is counted in every state but REST, and the fourth without a crossing is a fault. -/
def State.takeTurn (s : State) (u : Nat) (amplitude : Option Nat) (dir : Dir) : State :=
  let w := s.unit u
  let w := { w with amplitude := match amplitude with | some a => some a | none => w.amplitude }
  if w.state = .rest then s.setUnit u w
  else
    let turns := min 4 (w.turns + 1)
    let t := s.setUnit u { w with turns := turns }
    if w.state ≠ .fault ∧ turns = 4 then t.enterFault u .encoderLost else t.actOnTurn u amplitude dir

/-- REVERSAL (R95): taken where the angle has moved back by 4 counts. -/
def reversal (u : Nat) (s : State) : State :=
  let w := s.unit u
  let r := s.swingRec u
  if w.movedBack < Config.reversalCounts then s
  else
    let t := s.setUnit u w.reversed
    if w.isTurn r then t.takeTurn u (if w.referenced then some w.furthest.natAbs else none) w.trackDir.other
    else if w.state = .lowering then t.enterSettling u .smallReversal
    else t

/-- INDEX_CROSSING (R96). -/
def indexCrossing (u : Nat) (s : State) : State :=
  let w := s.unit u
  let z := { w.rezero with turns := 0 }
  if !w.referenced then s.setUnit u { z with referenced := true }
  else if w.state = .rest ∨ w.angle.natAbs ≤ (s.swingRec u).tolerance then s.setUnit u { z with slips := 0 }
  else
    let slips := min 3 (w.slips + 1)
    let t := s.setUnit u { z with slips := slips }
    if slips = 3 ∧ w.state ≠ .fault then t.enterFault u .encoderSlip else t

/-! ## Starts (R98) -/

/-- The outcome of a start (R98). -/
inductive StartAnswer
  | started | pending | refused (r : StartRefusal)
deriving DecidableEq, Repr

/-- A start of a unit (R98): a swing claim request, and under PREEMPT the abort of R54 after it, so that the PENDING notice
goes before what the abort brings about. The reason FAULT is a peal step's word for a unit in FAULT (R110, log 25). -/
def State.startUnit (s : State) (u : Nat) (owner : Owner) (p : Precedence) (minutes : Nat) : State × StartAnswer :=
  let w := s.unit u
  if s.bellOfUnit u = none then (s, .refused .noBell)
  else if !s.accessClear then (s, .refused .access)
  else if !s.mainsNormal then (s, .refused .reserve)
  else if w.state = .fault then (s, .refused .fault)
  else if w.rings = true ∨ w.state = .lowering ∨ w.startPending = true then (s, .refused .inUse)
  else if !w.referenced then (s, .refused .notReady)
  else
    match s.claimSwing u with
    | (t, .granted) => (t.enterRaising u owner minutes .start, .started)
    | (t, .pending) =>
      let t := t.setUnit u { t.unit u with startPending := true, owner := some owner, minutes := minutes }
      let t := t.pendingNotice u none
      (match p with | .wait => t | .preempt => t.preempt u, .pending)
    | (t, .noBell) => (t, .refused .noBell)
    | (t, .access) => (t, .refused .access)
    | (t, .reserve) => (t, .refused .reserve)
    | (t, .inUse) => (t, .refused .inUse)

/-- HANDED (R98, R99). -/
def unitHanded (u : Nat) (s : State) : State :=
  let w := s.unit u
  if w.startPending then s.enterRaising u (w.owner.getD .ring) w.minutes .handed else s

/-- A pending start is over without the bell (R98, R105). -/
def State.failStart (s : State) (u : Nat) (reason : FailReason) : State :=
  (s.setUnit u { s.unit u with startPending := false, owner := none, minutes := 0 }).pendingNotice u (some reason)

/-- FAILED (R98). -/
def unitFailed (u : Nat) (reason : FailReason) (s : State) : State :=
  if (s.unit u).startPending then s.failStart u reason else s

/-- A pending start is cancelled (R53, R105, R108, R111). On NONE_PENDING the hand-over's own answer is acted on. -/
def State.cancelStart (s : State) (u : Nat) (reason : FailReason) : State :=
  if (s.unit u).startPending then
    match s.cancelPending u with
    | (t, true) => t.failStart u reason
    | (t, false) => t
  else s

/-- HALT of a unit, and its stop step in a peal run (R108, R111). -/
def State.haltUnit (s : State) (u : Nat) (cause : UnitCause) (reason : FailReason) : State :=
  (s.stopUnit u .normal cause).cancelStart u reason

/-- The reply of a RING (R107). -/
def StartAnswer.status : StartAnswer → Status
  | .started | .pending => .ok
  | .refused .noBell => .noEntry
  | .refused .access => .access
  | .refused .reserve => .reserve
  | .refused .notReady => .busy
  | .refused _ => .inUse

/-! ## Access and mains (R105, R106) -/

/-- One unit at access ACTIVE (R105). A braking impulse in progress is cut as R101 says (log 36). -/
def accessUnit (u : Nat) (s : State) : State :=
  let s := s.cutDrive u
  (s.stopUnit u .access .access).cancelStart u .access

/-- One unit at access CLEAR: a waiting request is withdrawn (R101, log 44). -/
def clearUnit (u : Nat) (s : State) : State :=
  match (s.unit u).drive with
  | .waiting .. => s.cutDrive u
  | _ => s

/-- An access change at the swing controller (R101, R105). -/
def accessSwing (s : State) : State :=
  match s.power.access with
  | .active => s.each unitNumbers accessUnit
  | .clear => s.each unitNumbers clearUnit

/-- One unit at mains loss (R106): no units are released. -/
def lossUnit (u : Nat) (s : State) : State :=
  let s := s.setUnit u { s.unit u with drive := .idle }
  if (s.unit u).state = .lowering then
    s.setUnit u { s.unit u with lowKind := some .reserve, lowerLimit := none }
  else (s.stopUnit u .reserve .reserve).cancelStart u .reserve

/-- Mains loss at the swing controller (R106). -/
def lossSwing (s : State) : State := s.each unitNumbers lossUnit

/-- A unit at the opening of LOADING (R114), with its settle time as loaded. -/
def openUnit (r : SwingRec) : SwingUnit := { unit0 with settle := some (r.settle * 1000) }

end Sys2Proof.Machine
end

