-- ==== Sys2Proof/Machine/Peal.lean ====
section
/-! DEFINITION. The ring sequencer: the peal run of a plan (5.9). -/

namespace Sys2Proof.Machine

/-- The run changes its state, with the RUN notice (R113). -/
def State.moveRun (s : State) (r : PealRun) (cause : RunCause) : State :=
  (s.withRun r).notify (.run s.run.plan s.run.state r.state cause)

/-- A unit of a plan being run (R107). -/
def State.inRun (s : State) (u : Nat) : Bool :=
  decide (s.run.state ≠ .idle) && (s.planRec s.run.plan).units.contains u

/-- Why a PEAL is refused, if it is (R110). -/
def State.pealRefusal (s : State) (plan : Nat) : Option Status :=
  let p := s.planRec plan
  if !p.used then some .noEntry
  else if s.run.state ≠ .idle then some .busy
  else if !s.accessClear then some .access
  else if !s.mainsNormal then some .reserve
  else if p.units.any fun u => (s.unit u).rings || decide ((s.unit u).state = .lowering) || (s.unit u).startPending then
    some .inUse
  else none

/-- PEAL (R110): the run enters STARTING, and step 0 is taken at once. DESIGN CHOICE (log 47): the RUN notice goes before the
notices of step 0. -/
def startPeal (plan : Nat) (s : State) : State × Status :=
  match s.pealRefusal plan with
  | some status => (s, status)
  | none =>
    let r : PealRun :=
      { pealRun0 with state := .starting, plan := plan, first := s.now, ends := s.now + (s.planRec plan).duration * 60000 }
    (((s.withRun r).notify (.run plan .idle .starting .accepted)).post .startStep, .ok)

/-- Every member is in REST without a start pending, in SETTLING or in FAULT (R111). -/
def State.membersDone (s : State) : Bool :=
  s.run.members.all fun u =>
    let w := s.unit u
    match w.state with
    | .rest => !w.startPending
    | .settling | .fault => true
    | _ => false

/-- The run returns to IDLE where its rule is met (R111). DESIGN CHOICE (log 46): "every stop step has been taken" governs, so
a stop step that is not the last leaves the run in STOPPING although every member is done. -/
def State.finishRun (s : State) : Option State :=
  match s.run.state with
  | .stopping => if s.run.stops.isEmpty && s.membersDone then some (s.moveRun pealRun0 .membersDone) else none
  | .running =>
    if s.membersDone then
      some ((s.moveRun { s.run with state := .stopping } .membersDone).moveRun pealRun0 .membersDone)
    else none
  | _ => none

/-- The run is IDLE at once where a start or stop step leaves it done (R111). -/
def State.settleRun (s : State) : State := s.finishRun.getD s

/-- The unit of a start step is started, or its step skipped with a STEP notice (R110). -/
def State.stepUnit (s : State) (step u : Nat) : State :=
  if s.run.halted.contains u then s.notify (.step s.run.plan step u .halted)
  else match s.startUnit u .peal (s.planRec s.run.plan).precedence 0 with
    | (t, .refused reason) => t.notify (.step s.run.plan step u reason)
    | (t, _) => t.withRun { t.run with members := t.run.members ++ [u] }

/-- A start step is taken (R110); after the last the run is RUNNING, and IDLE at once where its members are done (R111). -/
def takeStartStep (s : State) : State :=
  let units := (s.planRec s.run.plan).units
  let step := s.run.steps
  match s.run.state, units[step]? with
  | .starting, some u =>
    let t := (s.withRun { s.run with steps := step + 1 }).stepUnit step u
    if step + 1 = units.length then (t.moveRun { t.run with state := .running } .lastStep).settleRun else t
  | _, _ => s

/-- START_STEP (R110). -/
def startStep (s : State) : State :=
  if s.run.state = .starting then
    takeStartStep (s.runTo (s.run.first + s.run.steps * (s.planRec s.run.plan).startGap * 1000))
  else s

/-- One stop step (R111). -/
def takeStopStep (s : State) : State :=
  match s.run.stops with
  | u :: rest =>
    (s.withRun { s.run with stops := rest, nextStop := s.run.nextStop + s.run.stopGap }).haltUnit u .pealStop .pealStop
  | [] => s

/-- Every stop step still to come is taken at one instant (R111, R112), in unit order, S0 first (R113). -/
def State.takeStopSteps (s : State) : State :=
  (s.withRun { s.run with stops := [] }).each (unitNumbers.filter s.run.stops.contains) fun u t =>
    t.haltUnit u .pealStop .pealStop

/-- The run enters STOPPING (R111, R112) with a stagger in ms. With a stagger of 0 all stop steps are taken at once, their
UNIT notices before the RUN notice (R113). DESIGN CHOICE (log 47): with another, stop step 0 follows the RUN notice. -/
def State.stopRun (s : State) (cause : RunCause) (gap : Nat) : State :=
  let stops := if (s.planRec s.run.plan).reverse then s.run.members.reverse else s.run.members
  let t := s.withRun { s.run with state := .stopping, stops := stops, nextStop := s.now, stopGap := gap }
  let notice : NoticeBody := .run s.run.plan s.run.state .stopping cause
  (if gap = 0 then t.takeStopSteps.notify notice else takeStopStep (t.notify notice)).settleRun

/-- The plan's own stop stagger, in ms (R111). -/
def State.planGap (s : State) : Nat := (s.planRec s.run.plan).stopGap * 1000

/-- PEAL_END_INSTANT (R111). -/
def pealEndInstant (s : State) : State :=
  if s.run.state = .starting ∨ s.run.state = .running then
    let s := s.runTo s.run.ends
    s.stopRun .duration s.planGap
  else s

/-- STOP_STEP (R111). -/
def stopStep (s : State) : State :=
  if s.run.state = .stopping ∧ s.run.stops ≠ [] then (takeStopStep (s.runTo s.run.nextStop)).settleRun else s

/-- ENDPEAL (R112). -/
def endPeal (s : State) : State × Status :=
  match s.run.state with
  | .idle => (s, .noEntry)
  | .stopping => (s, .ok)
  | _ => (s.stopRun .endpeal s.planGap, .ok)

/-- Access ACTIVE or a mains loss at the run (R112): every stop step is taken at once. -/
def State.hurryRun (s : State) (cause : RunCause) : State :=
  match s.run.state with
  | .idle => s
  | .stopping => s.takeStopSteps.settleRun
  | _ => s.stopRun cause 0

/-- An access change at the run (R112). -/
def accessRun (s : State) : State :=
  match s.power.access with
  | .active => s.hurryRun .access
  | .clear => s

/-- Mains loss at the run (R112). -/
def lossRun (s : State) : State := s.hurryRun .reserve

/-- HALT (R108): the unit, and the run's mark where its start step is still to come. -/
def haltRequest (u : Nat) (s : State) : State :=
  let t := s.haltUnit u .halt .halt
  if t.run.state = .starting ∧ ((t.planRec t.run.plan).units.drop t.run.steps).contains u = true then
    t.withRun { t.run with halted := t.run.halted ++ [u] }
  else t

/-- RING (R107). -/
def ringRequest (u minutes : Nat) (s : State) : State × Status × Bool :=
  if s.inRun u then (s, .inUse, false)
  else
    let r := s.startUnit u .ring .wait minutes
    (r.1, r.2.status, decide (r.2 = .pending))

end Sys2Proof.Machine
end

