-- ==== Sys2Proof/Machine/Day.lean ====
section
/-! DEFINITION. The day programme (chapter 2): day classes, sun instants, the today record, evaluation and the hand-off of
actions. Minutes called absolute are counted from 2000-01-01 00:00 civil. -/

namespace Sys2Proof.Machine

/-! ## Day class and sun (R30, R31) -/

/-- A special-day entry matches a date (R30). -/
def Special.fits (e : Special) (d : Date) : Bool :=
  e.used && decide (e.month = d.month) && decide (e.day = d.day) && e.year.all (· = d.year)

/-- The day class of a date, and the entry that gave it: one with the year before one without (R30). -/
def State.dayClass (s : State) (day : Nat) : DayClass × Option Nat :=
  let d := dateOf day
  let found := s.tables.special.filter fun e => e.2.fits d
  match (found.find? fun e => e.2.year.isSome).or found.head? with
  | some (i, e) => (.special e.cls, some i)
  | none => (.weekday (weekdayOf day), none)

/-- A sun minute converted to civil time; one on the next date is unset (R31). -/
def State.civilSun (s : State) (minute : Option Nat) : Option Nat :=
  minute.bind fun m =>
    let c := m + s.time.offset.getD 0
    if c ≤ 1439 then some c else none

/-- The table dusk or dawn of a sun minute: converted, plus the sun margin (R31). -/
def State.tableSun (s : State) (minute : Option Nat) : Option Nat :=
  (s.civilSun minute).bind fun c =>
    let t := c + s.tables.light.margin
    if t ≤ 1439 then some t else none

/-- The sun table's entry of a day. -/
def State.sunOf (s : State) (day : Nat) : Sun := s.sunRec (sunIndex day)

/-! ## The today record (R32-R34) -/

/-- The today record is rebuilt for a day (R34). -/
def State.rebuild (s : State) (day : Nat) : Today :=
  let c := s.dayClass day
  { day := day, cls := c.1, special := c.2, dusk := none, dawn := none, last := none }

/-- The today record replaced. -/
def State.setToday (s : State) (t : Today) : State := s.withDay { s.day with today := some t }

/-- An absent instant is fixed at a table value not later than the minute evaluated (R32, R33). -/
def fixInstant (now : Nat) (table : Option Nat) (held : Option (Nat × SunSource)) : Option (Nat × SunSource) :=
  match held, table with
  | none, some t => if t ≤ now then some (t, .table) else none
  | h, _ => h

/-- The record with its instants fixed from the table (R35 step 1); `now` is a minute of the day. -/
def State.fixInstants (s : State) (t : Today) (now : Nat) : Today :=
  let sun := s.sunOf t.day
  { t with
    dusk := fixInstant now (s.tableSun sun.dusk) t.dusk
    dawn := fixInstant now (s.tableSun sun.dawn) t.dawn }

/-- The minute a transition fixes: the first whole minute at or after it and later than the last evaluated (R32, R33). -/
def firstMinute (msOfDay : Nat) (last : Option Nat) : Nat :=
  max ((msOfDay + 59999) / 60000) (match last with | some l => l + 1 | none => 0)

/-- A transition of the light state at the day programme (R32, R33, R40). DESIGN CHOICE (log 55): R33 has no next-date clause,
so a LIGHT transition at exactly 00:00:00.000 taken before that boundary fixes minute 1440 in the old date's record, which
the boundary's rebuild drops. -/
def transitionDay (state : LightState) (s : State) : State :=
  match s.day.today, s.time.civil with
  | some t, some civil =>
    let ms := msOfDay civil
    let m := firstMinute ms t.last
    match state with
    | .dark =>
      if t.dusk = none ∧ 12 * 3600000 ≤ ms ∧ m ≤ 1439 then s.setToday { t with dusk := some (m, .light) } else s
    | .light =>
      if t.dawn = none ∧ ms < 12 * 3600000 then s.setToday { t with dawn := some (m, .light) } else s
    | .unknown => s
  | _, _ => s

/-! ## Triggers and application (R27, R28) -/

/-- A minute of the day, where it is one. -/
def minuteOfDay (m : Int) : Option Nat := if 0 ≤ m ∧ m ≤ 1439 then some m.toNat else none

/-- The trigger minute of a sun entry (R27): from the instant for an offset of 0 or more, else from the table alone. -/
def State.sunTrigger (s : State) (instant : Option (Nat × SunSource)) (sun : Option Nat) (offset : Int) : Option Nat :=
  if 0 ≤ offset then instant.bind fun i => minuteOfDay (i.1 + offset)
  else (s.civilSun sun).bind fun c => minuteOfDay (c + offset)

/-- The trigger minute of an entry on the date of a record (R27). -/
def State.trigger (s : State) (t : Today) (e : Entry) : Option Nat :=
  let sun := s.sunOf t.day
  match e.trigger with
  | .clock m => some m
  | .dusk offset => s.sunTrigger t.dusk sun.dusk offset
  | .dawn offset => s.sunTrigger t.dawn sun.dawn offset

/-- A month and day as one number, in calendar order. -/
def monthDayCode (month day : Nat) : Nat := month * 32 + day

/-- The date lies in the window, the year left out (R28). -/
def Window.holds (w : Window) (d : Date) : Bool :=
  let a := monthDayCode w.fromMonth w.fromDay
  let b := monthDayCode w.toMonth w.toDay
  let x := monthDayCode d.month d.day
  if a ≤ b then decide (a ≤ x) && decide (x ≤ b) else decide (a ≤ x) || decide (x ≤ b)

/-- An entry applies on the date of a record (R28). -/
def Entry.applies (e : Entry) (t : Today) : Bool :=
  e.used &&
  (match t.cls with
    | .special c => e.classes.testBit c
    | .weekday w => e.days.testBit (w - 1)) &&
  e.window.all fun w => w.holds (dateOf t.day)

/-! ## Evaluation (R35) -/

/-- The candidates of an evaluation with their trigger minutes, lowest index first (R35 step 2). -/
def State.candidates (s : State) (t : Today) (now : Nat) : List (Nat × Nat) :=
  s.tables.schedule.filterMap fun e =>
    if e.2.applies t then
      (s.trigger t e.2).bind fun m =>
        if t.last.all (· < m) && decide (m ≤ now) then some (e.1, m) else none
    else none

/-- An evaluation to an absolute minute over a record (R35): the instants are fixed, the candidates judged one after the
other, and the minute is the last evaluated. -/
def State.evaluate (s : State) (t : Today) (minute : Nat) : State :=
  let now := minute % 1440
  let t := s.fixInstants t now
  let l := s.candidates t now
  (s.setToday { t with last := some now }).postAll
    (l.map fun c => .judgeEntry c.1 (t.day * 1440 + c.2) minute)

/-- The SKIPPED notice of an entry (R43): absolute minutes in. -/
def State.skip (s : State) (e minute now : Nat) (reason : SkipReason) (status : Status) : State :=
  s.notify (.skipped e (now / 1440) (minute % 1440) (now % 1440) (s.entryRec e).action reason status)

/-- A performance handed to the chime player (R41, R42). -/
def State.handPerf (s : State) (e minute now : Nat) (kind : PerfKind) (args : PerfArgs) : State :=
  if s.day.quiet then s.skip e minute now .quiet .ok
  else
    let p := s.makePerf kind args .schedule (some e) s.now
    match s.offer p with
    | (t, .accepted _) => t
    | (t, .noEntry) => t.skip e minute now .refused .noEntry
    | (t, .queueFull) => t.dropOffer p .queueFull

/-- A refusal of a target other than the chime player (R42). -/
def State.reportRefusal (r : State × Status) (e minute now : Nat) : State :=
  if r.2 = .ok then r.1 else r.1.skip e minute now .refused r.2

/-- An entry fires: its action goes to its target (R41, R42). -/
def fireEntry (e minute now : Nat) (s : State) : State :=
  match (s.entryRec e).action with
  | .tune tune repeats => s.handPerf e minute now .tune (.tune tune repeats)
  | .toll bell count interval =>
    s.handPerf e minute now .toll (.strokes bell count (interval * 1000) s.tables.strike.velocity)
  | .peal plan => State.reportRefusal (startPeal plan s) e minute now
  | .scene scene => State.reportRefusal (activateScene scene s) e minute now
  | .quietBegin => s.withDay { s.day with quiet := true }
  | .quietEnd => s.withDay { s.day with quiet := false }

/-- A candidate is judged (R35 steps 3 and 4, R36). -/
def judgeEntry (e minute now : Nat) (s : State) : State :=
  if (s.guard e).any (minute ≤ ·) then s
  else
    let t := s.setGuard e (some minute)
    if now - minute ≤ (t.entryRec e).lateness then fireEntry e minute now t else t.skip e minute now .late .ok

/-! ## The events of civil time (R35, R37-R40, R45) -/

/-- A civil minute boundary at the day programme (R35, R39). -/
def minuteDay (minute : Nat) (s : State) : State :=
  match s.day.today with
  | some t => s.evaluate (if t.day = minute / 1440 then t else s.rebuild (minute / 1440)) minute
  | none => s

/-- Civil time comes to a minute from a record's date by a step, or at READY (R37-R39, R45). -/
def State.comeTo (s : State) (t : Today) (minute : Nat) (forward : Bool) : State :=
  let day := minute / 1440
  if t.day = day then
    if forward then s.evaluate t minute else s.setToday { t with last := some (minute % 1440) }
  else if t.day < day then s.evaluate (s.rebuild day) minute
  else s.setToday { s.rebuild day with last := some (minute % 1440) }

/-- A civil step at the day programme (R37, R38, R39). -/
def stepDay (old new : Nat) (s : State) : State :=
  match s.day.today with
  | some t => s.comeTo t (new / 60000) (decide (old < new))
  | none => s

/-- The time-set event at the day programme (R40). -/
def timeSetDay (civil : Nat) (s : State) : State := s.evaluate (s.rebuild (dayOfMs civil)) (civil / 60000)

/-- READY at the day programme (R45). -/
def readyDay (s : State) : State :=
  match s.time.civil, s.day.today with
  | none, _ => s.withDay { s.day with today := none }
  | some civil, some t => s.comeTo t (civil / 60000) true
  | some civil, none => timeSetDay civil s

/-- A SPECIAL entry is written: the day class of the record is found again (R29). -/
def State.reclass (s : State) : State :=
  match s.day.today with
  | some t => let c := s.dayClass t.day; s.setToday { t with cls := c.1, special := c.2 }
  | none => s

/-! ## DAYINFO (R44) -/

def dateFields (day : Nat) : List Item := let d := dateOf day; num 2 d.year ++ num 1 d.month ++ num 1 d.day

/-- An absent date. -/
def noDate : List Item := num 2 0 ++ num 1 0 ++ num 1 0

/-- An instant with its source (R34): a minute of the day in two bytes (DEDUCED, log 18). -/
def instantFields : Option (Nat × SunSource) → List Item
  | some (m, src) => mark true ++ num 2 m ++ enum 1 (match src with | .light => 0 | .table => 1)
  | none => mark false ++ num 2 0 ++ enum 1 0

/-- A day class, a weekday or one of A-D (R44): a form of one bit and a number, 0-3 for A-D (DEDUCED, log 18). -/
def classFields : DayClass → List Item
  | .special c => enum 1 0 ++ num 1 c
  | .weekday w => enum 1 1 ++ num 1 w

/-- The fields of DAYINFO (R44). Civil minutes are minutes of the day in two bytes (DEDUCED, log 18). DESIGN CHOICE (log 56):
with the record absent the last-evaluated minute, which has no absent value, is reported as START_OF_DAY. -/
def dayReport (s : State) : List Byte :=
  let active := decide (s.time.state ≠ .unset)
  let head := match s.day.today with
    | some t =>
      mark true ++ dateFields t.day ++ mark true ++ classFields t.cls ++ opt 1 t.special ++ instantFields t.dusk ++
        instantFields t.dawn ++ opt 2 (s.tableSun (s.sunOf t.day).dusk) ++ opt 2 (s.tableSun (s.sunOf t.day).dawn) ++
        alt 2 t.last
    | none =>
      mark false ++ noDate ++ mark false ++ enum 1 0 ++ num 1 0 ++ opt 1 none ++ instantFields none ++
        instantFields none ++ opt 2 none ++ opt 2 none ++ alt 2 none
  pack (mark active ++ head ++ mark s.day.quiet)

end Sys2Proof.Machine
end

