-- ==== Sys2Proof/Machine/Time.lean ====
section
/-! DEFINITION. The time base (1.1, 1.2, 1.6, 1.7): civil events, time states, SETTIME, confirmations, the seasonal offset. -/

namespace Sys2Proof.Machine

/-! ## Civil steps and notices (R4, R5) -/

/-- Civil time is reached otherwise than by running: no boundary at or before it is issued (R4, log 35). -/
def TimeBase.seenAt (b : TimeBase) (civil : Nat) : TimeBase :=
  { b with minuteSeen := some (civil / 60000), halfSeen := some (civil / 30000) }

/-- The time base changes otherwise than by running (R5): a civil step or the time-set event is delivered, and the TIME
notice is sent, where civil time changes or the rule wants a notice in any case. -/
def State.retime (s : State) (b : TimeBase) (cause : TimeCause) (always : Bool) : State :=
  match s.time.civil, b.civil with
  | some old, some new =>
    if old = new then
      let t := s.withTime b
      if always then t.notify (.time cause s.time.state b.state 0 (some new)) else t
    else
      ((s.withTime (b.seenAt new)).postAll [.stepDay old new, .stepStrike old new, .stepDials new]).notify
        (.time cause s.time.state b.state ((new : Int) - (old : Int)) (some new))
  | none, some new =>
    ((s.withTime (b.seenAt new)).postAll [.timeSetDay new, .timeSetStrike new, .timeSetDials new]).notify
      (.time cause s.time.state b.state 0 (some new))
  | _, none => s.withTime b

/-- The offset the rule gives now, while kept time is held (R21). -/
def TimeBase.byRule (b : TimeBase) (t : TimeSettings) : TimeBase :=
  { b with offset := b.kept.map (ruleOffset t) }

/-- The offset a seasonal flag gives (R22). -/
def flagOffset (t : TimeSettings) (flag : Bool) : Nat := if flag then t.offset else 0

/-! ## Running events (R2, R3, R4, R6, R21) -/

/-- CIVIL_MINUTE_BOUNDARY (R4): the next whole minute not yet issued; the clock runs to it where it lies ahead. -/
def civilMinuteBoundary (s : State) : State :=
  match s.time.minuteSeen, s.time.offset with
  | some seen, some offset =>
    let minute := seen + 1
    let t := s.runToKept (minute * 60000 - offset * 60000)
    (t.withTime { t.time with minuteSeen := some minute }).postAll [.minuteDay minute, .minuteStrike minute]
  | _, _ => s

/-- The clock part of CIVIL_HALF_MINUTE_BOUNDARY (R4): the half-minute issued, counted from 2000-01-01 00:00. -/
def passHalfMinute (s : State) : Option (State × Nat) :=
  match s.time.halfSeen, s.time.offset with
  | some seen, some offset =>
    let half := seen + 1
    let t := s.runToKept (half * 30000 - offset * 60000)
    some (t.withTime { t.time with halfSeen := some half }, half)
  | _, _ => none

/-- KEPT_SECOND_END (R3): the clock runs to the end of the slewed kept second, which moves the remainder and the account. -/
def keptSecondEnd (s : State) : State :=
  match s.time.kept with
  | some kept =>
    if s.time.slew = 0 then s
    else s.runToKept ((kept / 1000 + (if s.time.slewArmed then 1 else 2)) * 1000)
  | none => s

/-- Kept time has run past 2099 (R2): the time state is UNSET. -/
def TimeBase.lost (b : TimeBase) : TimeBase :=
  { b with kept := none, sub := 0, state := .unset, slew := 0, slewArmed := false, slewHold := false, offset := none,
           prevConf := none, lastConf := none, minuteSeen := none, halfSeen := none }

/-- The blocks that depend on civil time lose it (R2): the day programme's record goes (R34), the others are told. DESIGN
CHOICE (log 16): the dials and the floodlights, with their notices, go before the TIME notice. -/
def State.loseTime (s : State) : State :=
  (((s.withTime s.time.lost).withDay { s.day with today := none }).postAll [.unsetDials, .unsetFloods]).notify
    (.time .rangeEnd s.time.state .unset 0 none)

/-- RANGE_END (R2). -/
def rangeEnd (s : State) : State :=
  match s.time.kept with
  | some _ => (s.runToKept Config.rangeEnd).loseTime
  | none => s

/-- SEASONAL_INSTANT (R21): outside LOCKED the offset follows the rule at the instant. DESIGN CHOICE (log 60): where New Year
itself changes what the rule gives, no instant is timed for it, and the next event that judges the offset takes it. -/
def seasonalInstant (s : State) : State :=
  if s.time.state = .free ∨ s.time.state = .holdover then
    match s.time.kept with
    | some kept =>
      let t :=
        if s.time.offset ≠ some (ruleOffset s.tables.time kept) then s
        else match nextEdge s.tables.time kept with
          | some instant => s.runToKept instant
          | none => s
      t.retime (t.time.byRule t.tables.time) .seasonal false
    | none => s
  else s

/-- The state leaves LOCKED for HOLDOVER now (R6, R20, R21). -/
def State.holdOver (s : State) (cause : TimeCause) : State :=
  s.retime ({ s.time with state := .holdover, holdStart := s.time.kept, prevConf := none, lastConf := none }.byRule
    s.tables.time) cause true

/-- LOSS_OF_LOCK (R6). -/
def lossOfLock (s : State) : State :=
  match s.time.state, s.time.lastConf with
  | .locked, some last => (s.runTo (last + Config.lockLimit)).holdOver .holdover
  | _, _ => s

/-- The kept time at which HOLDOVER ends (R6). -/
def State.holdEnd (s : State) : Option Nat :=
  if s.time.state = .holdover then s.time.holdStart.map (· + s.tables.time.holdLimit * 3600000) else none

/-- HOLDOVER becomes FREE (R6). -/
def State.freeRun (s : State) : State :=
  s.retime ({ s.time with state := .free }.byRule s.tables.time) .freeRun true

/-- HOLDOVER_LIMIT (R6). -/
def holdoverLimit (s : State) : State :=
  match s.holdEnd with
  | some instant => (s.runToKept instant).freeRun
  | none => s

/-! ## SETTIME (R7) -/

/-- The reference monitor's latched kept times no longer stand (R8). -/
def RefMonitor.supersede (r : RefMonitor) : RefMonitor :=
  let edge (e : SecEdge) : SecEdge := { e with latch := { e.latch with superseded := true } }
  { r with
    lastEdge := r.lastEdge.map edge
    deciding := r.deciding.map fun d =>
      { d with mark := { d.mark with superseded := true }, before := d.before.map edge } }

/-- An accepted SETTIME (R7). -/
def State.setTime (s : State) (kept : Nat) : State :=
  (s.withRefs s.refs.supersede).retime
    ({ s.time with kept := some kept, sub := 0, slew := 0, slewArmed := false, slewHold := false, prevConf := none,
                   lastConf := none, state := .free }.byRule s.tables.time) .set true

/-! ## Confirmations (R8-R10, R22) -/

/-- The trim after a drift measured over an interval (R10). An interval of 0 s is log 11's. -/
def movedTrim (trim drift : Int) (interval : Nat) : Int :=
  let moved := if interval = 0 then Config.driftOverZero drift else Int.tdiv (drift * 2500) interval
  max (-2000) (min 2000 (trim + moved))

/-- The trim moved by a confirmation in LOCKED, and the interval it was measured over (R10). -/
def TimeBase.discipline (b : TimeBase) (threshold : Nat) (phase : Nat) (offset : Int) : TimeBase :=
  match b.prevConf with
  | some r =>
    if offset.natAbs < threshold then
      let interval := (phase - r.phase) / 1000
      { b with trim := movedTrim b.trim (offset - (r.offset - r.account)) interval, lastInterval := some interval }
    else { b with lastInterval := none }
  | none => { b with lastInterval := none }

/-- The offset corrected by a step or by the slew (R9). DESIGN CHOICE (log 8): a step leaves the fraction of kept time, `sub`,
as it stands. -/
def TimeBase.correct (b : TimeBase) (threshold : Nat) (offset : Int) : TimeBase :=
  if threshold ≤ offset.natAbs then
    { b with kept := b.kept.map fun k : Nat => ((k : Int) + offset).toNat, slew := 0, slewArmed := false, slewHold := false }
  else { b with slew := offset, slewArmed := b.kept.any fun k => k % 1000 = 0 }

/-- What every confirmation leaves (R8, R10, R22): LOCKED, the flag's offset, the timer, and what TIMEINFO reports. -/
def TimeBase.confirmed (b : TimeBase) (t : TimeSettings) (tel : Telegram) (phase : Nat) (offset : Int)
    (source : PhaseSource) (now : Nat) : TimeBase :=
  { b with state := .locked, offset := some (flagOffset t tel.seasonal), flagS := tel.seasonal, lastConf := some now,
           prevConf := some { phase := phase, offset := offset, account := 0 }, lastOffset := some offset,
           lastPhase := some source }

/-- The kept time latched at the phase instant; where a SETTIME has superseded it, the kept time now less the time since
(R8). -/
def State.latchedKept (s : State) (phase : Latch) : Int :=
  if phase.superseded then ((s.time.kept.getD 0 : Nat) : Int) - ((s.now - phase.elapsed : Nat) : Int)
  else ((phase.kept.getD 0 : Nat) : Int)

/-- A confirmation (R8). From UNSET the offset recorded is 0 (log 12). -/
def confirmation (tel : Telegram) (phase : Latch) (source : PhaseSource) (s : State) : State :=
  let t := s.tables.time
  match s.time.state with
  | .unset =>
    let b := { s.time with kept := some (tel.label + (s.now - phase.elapsed)), sub := 0, slew := 0, slewArmed := false,
                           slewHold := false, lastInterval := none }
    s.retime (b.confirmed t tel phase.elapsed 0 source s.now) .confirm true
  | old =>
    let offset : Int := tel.label - s.latchedKept phase
    let b := if old = .locked then s.time.discipline t.threshold phase.elapsed offset
      else { s.time with lastInterval := none }
    let b := (b.correct t.threshold offset).confirmed t tel phase.elapsed offset source s.now
    s.retime b (if s.time.offset = b.offset then .confirm else .seasonal) (decide (old ≠ .locked))

/-! ## Settings and start (R23, R25) -/

/-- What a PUT of the TIME group does to the time base besides the mode (R23). DESIGN CHOICE (log 65): where the PUT ends HOLDOVER
and changes the offset in force too, the one step carries the cause FREE_RUN. -/
def State.applyTimeSettings (s : State) : State :=
  let s := match s.holdEnd, s.time.kept with
    | some limit, some kept => if limit ≤ kept then s.freeRun else s
    | _, _ => s
  match s.time.state with
  | .unset => s
  | .locked => s.retime { s.time with offset := some (flagOffset s.tables.time s.time.flagS) } .seasonal false
  | _ => s.retime (s.time.byRule s.tables.time) .seasonal false

/-- The time base at the opening of LOADING (R25): the retained values wait for the judgement at LOADING's end. -/
def openTime (b : TimeBase) : TimeBase :=
  { b with elapsed := 0, slew := 0, slewArmed := false, slewHold := false, prevConf := none, lastConf := none,
           lastOffset := none, lastInterval := none, lastPhase := none, minuteSeen := none, halfSeen := none }

/-- The time base of a cold start (R25). -/
def coldTime (b : TimeBase) : TimeBase := { timeBase0 with elapsed := b.elapsed }

/-- READY at the time base after a warm start (R25): the offset by the rule without a step, LOCKED into HOLDOVER, the
limit (R6), then UNSET past 2099 (R2). After a cold start there is nothing to do. DEDUCED (log 45): each of R25's three
sentences holds by itself, in its order, so a LOCKED part that finds kept time past 2099 sends HOLDOVER before RANGE_END. -/
def readyTime (s : State) : State :=
  match s.time.kept with
  | none => s
  | some kept =>
    let s := s.withTime (s.time.byRule s.tables.time)
    let s :=
      if s.time.state = .locked then
        (s.withTime { s.time with state := .holdover, holdStart := s.start.keptAtOpening }).notify
          (.time .holdover .locked .holdover 0 s.time.civil)
      else s
    let s := match s.holdEnd with
      | some limit => if limit ≤ kept then s.freeRun else s
      | none => s
    if Config.rangeEnd ≤ kept then s.loseTime
    else match s.time.civil with
      | some civil => s.withTime (s.time.seenAt civil)
      | none => s

end Sys2Proof.Machine
end

