-- ==== Sys2Proof/Machine/Dials.lean ====
section
/-! DEFINITION. The dial drive (chapter 6): targets, classification, impulses and repeats, DIALSET and DIALSTOP. -/

namespace Sys2Proof.Machine

/-! ## Position, target and difference (R115, R117) -/

/-- The steps of a face: N (R115). -/
def DialRec.steps (r : DialRec) : Nat := 43200 / r.interval

/-- The target of a dial (R117). -/
def State.target (s : State) (r : DialRec) : Option Nat := s.dials.half.map fun h => h * 30 / r.interval

/-- The steps the hands must move forward from a position (R117). -/
def DialRec.ahead (r : DialRec) (target position : Nat) : Nat := (target + r.steps - position % r.steps) % r.steps

/-- The difference (R117). -/
def State.difference (s : State) (d : Nat) : Option Nat :=
  match s.target (s.dialRec d), (s.dial d).position with
  | some t, some p => some ((s.dialRec d).ahead t p)
  | _, _ => none

/-- A dial in IN_STEP, ADVANCING or HOLDING. -/
def DialState.moves : DialState → Bool
  | .inStep | .advancing | .holding => true
  | .unknown | .stopped => false

/-- A dial takes a state; where it changes, the DIAL notice is sent (R126). -/
def State.moveDial (s : State) (d : Nat) (new : DialState) (cause : DialCause) : State :=
  let w := s.dial d
  if w.state = new then s
  else
    (s.setDial d { w with state := new }).notify
      (.dial d w.state new cause w.position (s.target (s.dialRec d)) (s.difference d) w.next)

/-! ## Impulses (R119, R120) -/

/-- An impulse is requested (R120). -/
def State.requestDial (s : State) (d : Nat) (again : Bool) : State :=
  (s.setDial d { s.dial d with drive := .waiting again }).request (.dial d) (s.dialRec d).units

/-- An impulse is asked for where R119 wants one. -/
def State.askDial (s : State) (d : Nat) : State :=
  let w := s.dial d
  if (w.state = .inStep ∨ w.state = .advancing) ∧ w.drive = .idle ∧ w.spacing = none ∧ (s.difference d).any (1 ≤ ·) = true
  then s.requestDial d false else s

/-- A dial at a rise of its target (R119): an ADVANCING one keeps its state, also where the rise wraps its difference to 0. -/
def State.riseDial (s : State) (d : Nat) : State :=
  match (s.dial d).state, s.difference d with
  | .inStep, some n => if 2 ≤ n then (s.moveDial d .advancing .fellBehind).askDial d else s.askDial d
  | .advancing, some _ => s.askDial d
  | .holding, some n => if n = 0 then s.moveDial d .inStep .targetReached else s
  | _, _ => s

/-- A dial at the completion of an impulse (R119, R120 step 3). DESIGN CHOICE (log 52): where the completion itself leaves an
IN_STEP dial 2 or more behind, or brings a HOLDING one to its target, it acts as a rise of the target does. -/
def State.judgeDial (s : State) (d : Nat) : State :=
  match (s.dial d).state, s.difference d with
  | .advancing, some n => if n = 0 then s.moveDial d .inStep .caughtUp else s.askDial d
  | _, _ => s.riseDial d

/-- The arbiter grants a dial's units (R120). -/
def dialGranted (d units : Nat) (s : State) : State :=
  let w := s.dial d
  let r := s.dialRec d
  match w.drive with
  | .waiting again =>
    if s.mainsNormal && r.inUse then
      s.setDial d { w with
        inFlight := true, last := w.next, drive := .impulse again (s.now + r.width),
        spacing := some (s.now + r.catchUp * 1000) }
    else (s.setDial d { w with drive := .idle }).release (.dial d) units
  | _ => s.release (.dial d) units

/-- A WAITING request is withdrawn (R118, R123-R125); a waiting repeat is kept (log 22). -/
def State.withdrawDial (s : State) (d : Nat) : State :=
  match (s.dial d).drive with
  | .waiting false => (s.setDial d { s.dial d with drive := .idle }).withdraw (.dial d)
  | _ => s

/-- DIAL_SPACING_EXPIRY (R119). -/
def dialSpacingExpiry (d : Nat) (s : State) : State :=
  match (s.dial d).spacing with
  | some instant =>
    let s := s.runTo instant
    (s.setDial d { s.dial d with spacing := none }).askDial d
  | none => s

/-! ## Classification (R118) -/

/-- An impulse that is not a repeat runs. -/
def DialDrive.steps : DialDrive → Bool
  | .impulse false _ => true
  | _ => false

/-- An impulse runs. -/
def DialDrive.impulsing : DialDrive → Bool
  | .impulse .. => true
  | _ => false

/-- The state a difference gives (R118). -/
def DialRec.classFor (r : DialRec) (n : Nat) : DialState :=
  if n = 0 then .inStep else if n * r.interval ≤ r.hold * 60 then .advancing else .holding

/-- The class of a dial and the difference it is judged by (R118). -/
def State.dialClass (s : State) (d : Nat) : DialState × Nat :=
  let w := s.dial d
  let r := s.dialRec d
  if !r.inUse || !s.mainsNormal || w.stop || (w.inFlight && !w.drive.steps) then (.stopped, 0)
  else
    match s.target r, w.position with
    | some t, some p =>
      let n := r.ahead t (if w.drive.impulsing then p + 1 else p)
      (r.classFor n, n)
    | _, _ => (.stopped, 0)

/-- A dial is classified (R118); an UNKNOWN dial is not. -/
def State.classify (s : State) (d : Nat) (cause : DialCause) : State :=
  if (s.dial d).state = .unknown then s
  else
    let c := s.dialClass d
    let t := if c.1 = .advancing then s else s.withdrawDial d
    (t.moveDial d c.1 cause).askDial d

/-- DIAL_IMPULSE_END (R120 step 3, R122, R125). -/
def dialImpulseEnd (d : Nat) (s : State) : State :=
  match (s.dial d).drive with
  | .impulse again ends =>
    let s := (s.runTo ends).releaseAll (.dial d)
    let w := s.dial d
    let s := s.setDial d { w with
      position := w.position.map fun p => (p + 1) % (s.dialRec d).steps, next := w.next.map Dir.other, inFlight := false,
      drive := .idle }
    if again then s.classify d .mainsReturn
    else if w.stop = true ∧ w.state.moves = true then s.moveDial d .stopped .dialstop
    else s.judgeDial d
  | _ => s

/-! ## Mains (R121, R122) -/

/-- One dial at mains loss (R121). -/
def lossDial (d : Nat) (s : State) : State :=
  let t := s.setDial d { s.dial d with drive := .idle }
  if (t.dial d).state.moves then t.moveDial d .stopped .mainsLoss else t

/-- Mains loss at the dials (R121). -/
def lossDials (s : State) : State := s.each dialNumbers lossDial

/-- A dial in use whose in-flight mark is set is given a repeat impulse (R122); else it is classified. -/
def repeatOrClassify (cause : DialCause) (d : Nat) (s : State) : State :=
  let w := s.dial d
  if s.mainsNormal && (s.dialRec d).inUse && w.inFlight && decide (w.drive = .idle) then s.requestDial d true
  else s.classify d cause

/-- Mains return at the dials (R122). -/
def returnDials (cause : DialCause) (s : State) : State := s.each dialNumbers (repeatOrClassify cause)

/-! ## Civil time (R123) -/

/-- The targets are computed for a civil time, in ms (R117). -/
def State.setTargets (s : State) (half : Option Nat) : State := s.withDials { s.dials with half := half }

/-- The half-minute of the twelve-hour face at a civil time in ms (R117). -/
def faceHalf (civil : Nat) : Nat := civil / 30000 % 1440

/-- CIVIL_HALF_MINUTE_BOUNDARY (R4, R123): every dial whose target rises acts by R119. -/
def civilHalfMinuteBoundary (s : State) : State :=
  match passHalfMinute s with
  | some (t, half) =>
    (t.setTargets (some (half % 1440))).each dialNumbers fun d u =>
      if u.target (u.dialRec d) = t.target (u.dialRec d) then u else u.riseDial d
  | none => s

/-- A civil step at the dials (R123). DESIGN CHOICE (log 66): dial by dial, each withdrawal with its own service. -/
def stepDials (civil : Nat) (s : State) : State :=
  (s.setTargets (some (faceHalf civil))).each dialNumbers fun d t =>
    if (t.dial d).state.moves then t.classify d .step else t

/-- The time-set event at the dials (R123). -/
def timeSetDials (civil : Nat) (s : State) : State :=
  (s.setTargets (some (faceHalf civil))).each dialNumbers fun d t =>
    if (t.dial d).state = .stopped then t.classify d .timeSet else t

/-- The time state becomes UNSET (R123): the targets have no value from then on (R117). DESIGN CHOICE (log 66): dial by dial, each
withdrawal with its own service. -/
def unsetDials (s : State) : State :=
  (s.setTargets none).each dialNumbers fun d t =>
    if (t.dial d).state.moves then (t.withdrawDial d).moveDial d .stopped .timeUnset else t

/-! ## DIALSET and DIALSTOP (R124, R125) -/

/-- Why a DIALSET is refused, if it is, its fields being in range (R124). -/
def State.dialsetRefusal (s : State) (d : Nat) (next : Dir) : Option Status :=
  let w := s.dial d
  if w.last = some next ∧ w.inFlight = false then some .range
  else if !s.keyOn then some .locked
  else if !(s.dialRec d).inUse then some .noEntry
  else if w.drive.impulsing then some .busy
  else none

/-- DIALSET (R124): `face` is the face time in s, the hour taken modulo 12. -/
def dialsetRequest (d face : Nat) (next : Dir) (s : State) : State × Status :=
  match s.dialsetRefusal d next with
  | some status => (s, status)
  | none =>
    let r := s.dialRec d
    let waits := decide ((s.dial d).drive ≠ .idle)
    let s := s.setDial d { s.dial d with
      drive := .idle, position := some (face / r.interval), next := some next, inFlight := false, kept := some r.interval }
    let s := if waits then s.withdraw (.dial d) else s
    let c := s.dialClass d
    ((s.moveDial d c.1 .dialset).askDial d, .ok)

/-- DIALSTOP (R125), its fields being in range. -/
def dialstopRequest (d : Nat) (stop : Bool) (s : State) : State × Status :=
  if !s.keyOn then (s, .locked)
  else if stop then
    let t := (s.setDial d { s.dial d with stop := true }).withdrawDial d
    (if (t.dial d).state.moves && decide ((t.dial d).drive = .idle) then t.moveDial d .stopped .dialstop else t, .ok)
  else
    let t := s.setDial d { s.dial d with stop := false }
    (if (t.dial d).state = .stopped then t.classify d .dialstop else t, .ok)

/-! ## Records and start (R116, R127) -/

/-- A dial whose interval no longer stands becomes UNKNOWN (R116, R127). -/
def State.forgetDial (s : State) (d : Nat) (cause : DialCause) : State :=
  (s.setDial d { s.dial d with position := none, next := none, last := none, inFlight := false }).moveDial d .unknown cause

/-- What an accepted PUT of a DIAL record does to the dial (R116, R122), the record being replaced already. -/
def State.newDialRecord (s : State) (d : Nat) (old new : DialRec) : State :=
  if old.interval ≠ new.interval then s.forgetDial d .table
  else if !old.inUse && new.inUse then repeatOrClassify .table d s
  else s

/-- A dial at the opening of LOADING (R127). -/
def openDial (w : Dial) : Dial :=
  { w with state := if w.state = .unknown then .unknown else .stopped, drive := .idle, spacing := none }

/-- READY at one dial after a warm start (R127). -/
def readyDial (d : Nat) (s : State) : State :=
  let w := s.dial d
  if w.state = .unknown then s
  else if w.kept ≠ some (s.dialRec d).interval then s.forgetDial d .start
  else repeatOrClassify .start d s

/-- READY at the dials (R127). -/
def readyDials (s : State) : State := (s.setTargets (s.time.civil.map faceHalf)).each dialNumbers readyDial

end Sys2Proof.Machine
end

