-- ==== Sys2Proof/Machine/Flags.lean ====
section
/-! DEFINITION. The new marks of the bells, the swing units and the light sensor: what STATUS and FAULTS read of them, and
what FAULTS clears (R191, R192). -/

namespace Sys2Proof.Machine

/-- STATUS's "new faults" (R191). -/
def State.newFaults (s : State) : Bool :=
  (bellNumbers.any fun b => (s.bell b).newMark) || (unitNumbers.any fun u => (s.unit u).newMark) || s.light.newMark

/-- The objects FAULTS reports, in its order (R192): type, number, fault kind, new mark. -/
def State.faultObjects (s : State) : List (Nat × Nat × Nat × Bool) :=
  (bellNumbers.map fun b => (0, b, (s.bell b).fault.ctorIdx, (s.bell b).newMark)) ++
  (unitNumbers.map fun u => (1, u, (s.unit u).fault.ctorIdx, (s.unit u).newMark)) ++
  [(2, 0, s.light.fault.toNat, s.light.newMark)] |>.filter fun o => decide (o.2.2.1 ≠ 0) || o.2.2.2

/-- Every new mark reported is cleared (R192). -/
def State.clearNewMarks (s : State) : State :=
  let t := s.each bellNumbers fun b t => t.setBell b { t.bell b with newMark := false }
  let t := t.each unitNumbers fun u t => t.setUnit u { t.unit u with newMark := false }
  t.withLight { t.light with newMark := false }

end Sys2Proof.Machine
end

