-- ==== Sys2Proof/Machine/Operands.lean ====
section
/-! DEFINITION. The table records on the line (R194): for each table the room of its fields, the reading of a PUT with its
range check, and the writing of a GET. `none` of a reading is RANGE. The rules of the ranges are the tables' own. Log 18
names the readings of R194 the model takes, log 19 the slots past a list's count. -/

namespace Sys2Proof.Machine

/-! ## Parts of a reading -/

/-- A value in a range, both ends included. -/
def within (lo hi v : Nat) : Bool := decide (lo ≤ v) && decide (v ≤ hi)

/-- An optional number: absent with its bytes 0, or present and good. -/
def readOpt (present v : Nat) (good : Bool) : Option (Option Nat) :=
  if present = 0 then (if v = 0 then some none else none) else if good then some (some v) else none

/-- A number or a named value, whose mark is set for the named value. -/
def readAlt (named v : Nat) (good : Bool) : Option (Option Nat) :=
  if named ≠ 0 then (if v = 0 then some none else none) else if good then some (some v) else none

/-- The value of an enumeration, in the order its values are listed. -/
def readEnum {α : Type} (values : List α) (code : Nat) : Option α := values[code]?

/-- A list of varying length with room for its longest: a count and slots, those past the count not read. -/
def readList (lo hi bound count : Nat) (slots : List Nat) : Option (List Nat) :=
  let l := slots.take count
  if within lo hi count && l.all (· < bound) && decide l.Nodup then some l else none

/-- A value kept where a condition holds. -/
def keepIf {α : Type} (good : Bool) (v : α) : Option α := if good then some v else none

/-! ## BELL (R46) -/

def bellRooms : List Room :=
  [.bits 1, .bits 1, .bits 1, .bytes 1, .bytes 1, .bytes 1, .bytes 2, .bytes 1, .bits 1, .bytes 1, .bits 1]

def readBell : List Nat → Option BellRec
  | [inUse, fitted, enabled, soft, medium, full, recovery, units, bound, swing, coil] => do
    let swing ← readOpt bound swing (swing < 6)
    keepIf (within 10 250 soft && within 10 250 medium && within 10 250 full && within 100 2000 recovery &&
        within 1 40 units)
      { inUse := inUse ≠ 0, fitted := fitted ≠ 0, enabled := enabled ≠ 0, soft := soft, medium := medium, full := full,
        recovery := recovery, units := units, swing := swing, coilCheck := coil ≠ 0 }
  | _ => none

def bellItems (r : BellRec) : List Item :=
  mark r.inUse ++ mark r.fitted ++ mark r.enabled ++ num 1 r.soft ++ num 1 r.medium ++ num 1 r.full ++ num 2 r.recovery ++
    num 1 r.units ++ opt 1 r.swing ++ mark r.coilCheck

/-! ## SWING (R93) -/

def swingRooms : List Room :=
  [.bytes 2, .bytes 1, .bytes 1, .bytes 1, .bytes 2, .bytes 2, .bytes 2, .bytes 2, .bytes 2, .bytes 1, .bits 1, .bytes 1]

def readSwing : List Nat → Option SwingRec
  | [counts, target, band, rest, settle, raise, lower, width, window, units, brake, tolerance] => do
    let brake ← readEnum [Brake.coast, .counter] brake
    keepIf (within 400 16384 counts && decide (counts % 4 = 0) && within 20 150 target && within 2 20 band &&
        within 1 10 rest && within 10 300 settle && within 10 600 raise && within 10 900 lower && within 50 1000 width &&
        within 20 500 window && within 5 100 units && within 2 64 tolerance &&
        decide (counts * rest / 360 < counts * target / 360 - counts * band / 360))
      { counts := counts, target := target, band := band, rest := rest, settle := settle, raise := raise, lower := lower,
        width := width, window := window, units := units, brake := brake, tolerance := tolerance }
  | _ => none

def swingItems (r : SwingRec) : List Item :=
  num 2 r.counts ++ num 1 r.target ++ num 1 r.band ++ num 1 r.rest ++ num 2 r.settle ++ num 2 r.raise ++ num 2 r.lower ++
    num 2 r.width ++ num 2 r.window ++ num 1 r.units ++ enum 1 r.brake.ctorIdx ++ num 1 r.tolerance

/-! ## PLAN (R109) -/

def planRooms : List Room :=
  .bits 1 :: List.replicate 9 (.bytes 1) ++ [.bits 1, .bytes 1, .bits 1]

def readPlan : List Nat → Option Plan
  | [used, count, a, b, c, d, e, f, startGap, duration, order, stopGap, precedence] => do
    let units ← readList 1 6 6 count [a, b, c, d, e, f]
    let precedence ← readEnum [Precedence.wait, .preempt] precedence
    keepIf (within 2 60 startGap && within 1 240 duration && within 0 60 stopGap)
      { used := used ≠ 0, units := units, startGap := startGap, duration := duration, reverse := order ≠ 0,
        stopGap := stopGap, precedence := precedence }
  | _ => none

/-- A list in the room of its longest length. -/
def slots (longest : Nat) (l : List Nat) : List Item :=
  num 1 l.length ++ ((l ++ List.replicate longest 0).take longest).flatMap (num 1)

def planItems (r : Plan) : List Item :=
  mark r.used ++ slots 6 r.units ++ num 1 r.startGap ++ num 1 r.duration ++ mark r.reverse ++ num 1 r.stopGap ++
    enum 1 r.precedence.ctorIdx

/-! ## TUNE and NOTE (R74, R75) -/

def tuneRooms : List Room := [.bits 1, .bytes 2, .bytes 2, .bytes 2]

def readTune : List Nat → Option Tune
  | [used, first, count, tempo] =>
    keepIf (within 0 4095 first && within 1 512 count && within 25 400 tempo && decide (first + count - 1 ≤ 4095))
      { used := used ≠ 0, first := first, count := count, tempo := tempo }
  | _ => none

def tuneItems (r : Tune) : List Item := mark r.used ++ num 2 r.first ++ num 2 r.count ++ num 2 r.tempo

/-- The note record's layout is given whole: no marks are packed (R194). -/
def noteRooms : List Room := [.bytes 1, .bytes 1, .bytes 1, .bytes 1, .bytes 1, .bytes 1, .bytes 1, .bytes 2]

def readNote : List Nat → Option Note
  | [used, count, a, b, c, d, velocity, interval] => do
    let bells ← readList 1 4 16 count [a, b, c, d]
    let velocity ← readEnum [Velocity.soft, .medium, .full] velocity
    keepIf (within 0 1 used && within 100 10000 interval)
      { used := used ≠ 0, bells := bells, velocity := velocity, interval := interval }
  | _ => none

def noteItems (r : Note) : List Item :=
  num 1 r.used.toNat ++ slots 4 r.bells ++ num 1 r.velocity.ctorIdx ++ num 2 r.interval

/-! ## DIAL (R115) -/

def dialRooms : List Room := [.bits 1, .bytes 1, .bytes 2, .bytes 1, .bytes 2, .bytes 1]

def readDial : List Nat → Option DialRec
  | [inUse, interval, width, catchUp, hold, units] =>
    keepIf ((decide (interval = 30) || decide (interval = 60)) && within 100 2000 width && within 1 10 catchUp &&
        within 1 719 hold && within 1 50 units && decide (width + 500 ≤ catchUp * 1000))
      { inUse := inUse ≠ 0, interval := interval, width := width, catchUp := catchUp, hold := hold, units := units }
  | _ => none

def dialItems (r : DialRec) : List Item :=
  mark r.inUse ++ num 1 r.interval ++ num 2 r.width ++ num 1 r.catchUp ++ num 2 r.hold ++ num 1 r.units

/-! ## CIRCUIT and SCENE (R128, R132) -/

def circuitRooms : List Room :=
  [.bits 1, .bits 1, .bytes 1, .bytes 1, .bytes 2, .bytes 2, .bytes 1, .bytes 1, .bits 1, .bits 1]

def readCircuit : List Nat → Option CircuitRec
  | [inUse, kind, rated, surge, warmUp, restrike, fade, shed, sheddable, access] => do
    let kind ← readEnum [CircuitKind.switched, .dimmed] kind
    keepIf (within 1 100 rated && within rated 200 surge && within 0 600 warmUp && within 0 1200 restrike &&
        within 1 100 fade && within 0 100 shed)
      { inUse := inUse ≠ 0, kind := kind, rated := rated, surge := surge, warmUp := warmUp, restrike := restrike,
        fade := fade, shed := shed, sheddable := sheddable ≠ 0, accessLight := access ≠ 0 }
  | _ => none

def circuitItems (r : CircuitRec) : List Item :=
  mark r.inUse ++ enum 1 r.kind.ctorIdx ++ num 1 r.rated ++ num 1 r.surge ++ num 2 r.warmUp ++ num 2 r.restrike ++
    num 1 r.fade ++ num 1 r.shed ++ mark r.sheddable ++ mark r.accessLight

def sceneRooms : List Room := .bits 1 :: (List.replicate 12 [Room.bits 1, .bytes 1]).flatten

/-- The levels of a scene: a mark for UNCHANGED and a level, twelve times. -/
def readLevels : List Nat → Option (List (Option Nat))
  | [] => some []
  | unchanged :: level :: rest => do
    let l ← readAlt unchanged level (level ≤ 100)
    let ls ← readLevels rest
    some (l :: ls)
  | _ => none

def readScene : List Nat → Option Scene
  | used :: rest => (readLevels rest).map fun l => { used := used ≠ 0, levels := l }
  | _ => none

def sceneItems (r : Scene) : List Item := mark r.used ++ r.levels.flatMap (alt 1)

/-! ## SCHEDULE (R26), the layout given whole (R194) -/

def entryRooms : List Room := [.bytes 1, .bytes 1, .bytes 2] ++ List.replicate 12 (.bytes 1)

def readTrigger (kind v : Nat) : Option Trigger :=
  let offset := signed 2 v
  match kind with
  | 0 => keepIf (v / 256 < 24 && v % 256 < 60) (.clock (v / 256 * 60 + v % 256))
  | 1 => keepIf (decide (-180 ≤ offset) && decide (offset ≤ 180)) (.dusk offset)
  | 2 => keepIf (decide (-180 ≤ offset) && decide (offset ≤ 180)) (.dawn offset)
  | _ => none

def readWindow (present fm fd tm td : Nat) : Option (Option Window) :=
  match present with
  | 0 => keepIf (decide (fm = 0 ∧ fd = 0 ∧ tm = 0 ∧ td = 0)) none
  | 1 => keepIf (validMonthDay fm fd && validMonthDay tm td)
      (some { fromMonth := fm, fromDay := fd, toMonth := tm, toDay := td })
  | _ => none

def readAction (kind a b c : Nat) : Option Action :=
  match kind with
  | 0 => keepIf (a < 64 && within 1 9 b && c = 0) (.tune a b)
  | 1 => keepIf (a < 16 && within 1 240 b && within 2 60 c) (.toll a b c)
  | 2 => keepIf (a < 8 && b = 0 && c = 0) (.peal a)
  | 3 => keepIf (a < 16 && b = 0 && c = 0) (.scene a)
  | 4 => keepIf (a = 0 && b = 0 && c = 0) .quietBegin
  | 5 => keepIf (a = 0 && b = 0 && c = 0) .quietEnd
  | _ => none

def readEntry : List Nat → Option Entry
  | [used, kind, moment, days, classes, present, fm, fd, tm, td, action, a, b, c, lateness] => do
    let trigger ← readTrigger kind moment
    let window ← readWindow present fm fd tm td
    let action ← readAction action a b c
    keepIf (within 0 1 used && days < 128 && classes < 16 && within 0 240 lateness)
      { used := used ≠ 0, trigger := trigger, days := days, classes := classes, window := window, action := action,
        lateness := lateness }
  | _ => none

def triggerItems : Trigger → List Item
  | .clock m => num 1 0 ++ num 1 (m / 60) ++ num 1 (m % 60)
  | .dusk o => num 1 1 ++ int 2 o
  | .dawn o => num 1 2 ++ int 2 o

def windowItems : Option Window → List Item
  | none => num 1 0 ++ num 4 0
  | some w => num 1 1 ++ num 1 w.fromMonth ++ num 1 w.fromDay ++ num 1 w.toMonth ++ num 1 w.toDay

/-- The code of an action (R194). -/
def Action.code : Action → Nat
  | .tune .. => 0
  | .toll .. => 1
  | .peal _ => 2
  | .scene _ => 3
  | .quietBegin => 4
  | .quietEnd => 5

def actionItems (action : Action) : List Item :=
  num 1 action.code ++
  match action with
  | .tune t r => num 1 t ++ num 1 r ++ num 1 0
  | .toll b c i => num 1 b ++ num 1 c ++ num 1 i
  | .peal p => num 1 p ++ num 2 0
  | .scene i => num 1 i ++ num 2 0
  | .quietBegin | .quietEnd => num 3 0

def entryItems (r : Entry) : List Item :=
  num 1 r.used.toNat ++ triggerItems r.trigger ++ num 1 r.days ++ num 1 r.classes ++ windowItems r.window ++
    actionItems r.action ++ num 1 r.lateness

/-! ## SPECIAL and SUN (R29, R31) -/

def specialRooms : List Room := [.bits 1, .bytes 1, .bytes 1, .bits 1, .bytes 2, .bits 2]

def readSpecial : List Nat → Option Special
  | [used, month, day, dated, year, cls] => do
    let year ← readOpt dated year (within 2000 2099 year && (isLeap year || !(month = 2 && day = 29)))
    keepIf (validMonthDay month day) { used := used ≠ 0, month := month, day := day, year := year, cls := cls }
  | _ => none

def specialItems (r : Special) : List Item :=
  mark r.used ++ num 1 r.month ++ num 1 r.day ++ opt 2 r.year ++ enum 2 r.cls

def sunRooms : List Room := [.bits 1, .bytes 2, .bits 1, .bytes 2]

def readSun : List Nat → Option Sun
  | [hasDusk, dusk, hasDawn, dawn] => do
    let dusk ← readOpt hasDusk dusk (dusk ≤ 1439)
    let dawn ← readOpt hasDawn dawn (dawn ≤ 1439)
    some { dusk := dusk, dawn := dawn }
  | _ => none

def sunItems (r : Sun) : List Item := opt 2 r.dusk ++ opt 2 r.dawn

/-! ## SETTINGS (R23, R68, R155, R158, R64, R190) -/

def timeRooms : List Room :=
  [.bits 2, .bytes 2, .bytes 1, .bytes 1, .bytes 1, .bits 1, .bytes 1, .bytes 1, .bytes 1, .bytes 1, .bits 1, .bytes 1,
   .bytes 1, .bytes 1]

def readEdge (month last week weekday hour : Nat) : Option SeasonEdge := do
  let week ← readAlt last week (within 1 4 week)
  keepIf (within 1 12 month && within 1 7 weekday && hour < 24)
    { month := month, week := week, weekday := weekday, hour := hour }

def readTime : List Nat → Option TimeSettings
  | [mode, threshold, limit, offset, bm, bl, bw, bd, bh, em, el, ew, ed, eh] => do
    let mode ← readEnum [RefMode.auto, .telegram, .off] mode
    let begins ← readEdge bm bl bw bd bh
    let ends ← readEdge em el ew ed eh
    keepIf (within 100 60000 threshold && within 1 168 limit && within 0 120 offset &&
        !(decide (begins = ends) && decide (offset ≠ 0)))
      { mode := mode, threshold := threshold, holdLimit := limit, offset := offset, begins := begins, ends := ends }
  | _ => none

def edgeItems (e : SeasonEdge) : List Item := num 1 e.month ++ alt 1 e.week ++ num 1 e.weekday ++ num 1 e.hour

def timeItems (r : TimeSettings) : List Item :=
  enum 2 r.mode.ctorIdx ++ num 2 r.threshold ++ num 1 r.holdLimit ++ num 1 r.offset ++ edgeItems r.begins ++
    edgeItems r.ends

def strikeRooms : List Room :=
  [.bits 1, .bits 1, .bytes 1, .bits 1, .bytes 1, .bits 1, .bytes 1, .bits 1, .bytes 1, .bits 1, .bytes 1, .bytes 2,
   .bits 2, .bytes 2, .bytes 2]

def readStrike : List Nat → Option StrikeSettings
  | [quarters, hours, bell, p1, t1, p2, t2, p3, t3, p4, t4, gap, velocity, lateness, noteWait] => do
    let q1 ← readOpt p1 t1 (t1 < 64)
    let q2 ← readOpt p2 t2 (t2 < 64)
    let q3 ← readOpt p3 t3 (t3 < 64)
    let q4 ← readOpt p4 t4 (t4 < 64)
    let velocity ← readEnum [Velocity.soft, .medium, .full] velocity
    keepIf (bell < 16 && within 1500 6000 gap && within 0 900 lateness && within 50 2000 noteWait)
      { quarters := quarters ≠ 0, hours := hours ≠ 0, hourBell := bell, q1 := q1, q2 := q2, q3 := q3, q4 := q4, gap := gap,
        velocity := velocity, lateness := lateness, noteWait := noteWait }
  | _ => none

def strikeItems (r : StrikeSettings) : List Item :=
  mark r.quarters ++ mark r.hours ++ num 1 r.hourBell ++ opt 1 r.q1 ++ opt 1 r.q2 ++ opt 1 r.q3 ++ opt 1 r.q4 ++
    num 2 r.gap ++ enum 2 r.velocity.ctorIdx ++ num 2 r.lateness ++ num 2 r.noteWait

def lightRooms : List Room := [.bytes 1, .bits 1, .bytes 1, .bytes 1, .bytes 2, .bytes 2, .bytes 1]

def readLight : List Nat → Option LightSettings
  | [margin, set, fallback, interval, dusk, dawn, confirm] => do
    let fallback ← readOpt set fallback (fallback < 16)
    keepIf (within 0 120 margin && within 2 60 interval && within 5 1018 dusk && within 5 1018 dawn && within 1 30 confirm &&
        decide (dusk < dawn))
      { margin := margin, fallback := fallback, interval := interval, dusk := dusk, dawn := dawn, confirm := confirm }
  | _ => none

def lightItems (r : LightSettings) : List Item :=
  num 1 r.margin ++ opt 1 r.fallback ++ num 1 r.interval ++ num 2 r.dusk ++ num 2 r.dawn ++ num 1 r.confirm

def supplyRooms : List Room := [.bytes 2, .bytes 2]

def readSupply : List Nat → Option SupplySettings
  | [budget, delay] => keepIf (within 20 1000 budget && within 20 2000 delay) { budget := budget, delay := delay }
  | _ => none

def supplyItems (r : SupplySettings) : List Item := num 2 r.budget ++ num 2 r.delay

def hammerRooms : List Room := [.bytes 2, .bytes 2]

def readHammer : List Nat → Option HammerSettings
  | [opened, short] =>
    keepIf (within 0 1022 opened && within 1 1023 short && decide (opened < short)) { opened := opened, short := short }
  | _ => none

def hammerItems (r : HammerSettings) : List Item := num 2 r.opened ++ num 2 r.short

/-- One mark per class, in class-number order (R190). -/
def noticeRooms : List Room := [.bits 12]

def readNotice : List Nat → Option Nat
  | [mask] => some mask
  | _ => none

def noticeItems (mask : Nat) : List Item := enum 12 mask

end Sys2Proof.Machine
end

