-- ==== Sys2Proof/Machine/Refs.lean ====
section
/-! DEFINITION. The reference monitor (1.3-1.5): the telegram record, its mark and its qualification; the second marks, the
skew and the phase of a confirmation; the reference modes. -/

namespace Sys2Proof.Machine

/-- The reference mode (R19). -/
def State.mode (s : State) : RefMode := s.tables.time.mode

/-- The monitor reads its lines: from READY, in every mode but NONE (R20, R25). -/
def State.whenReading (s : State) (f : State → State) : State :=
  s.whenReady fun s => if s.mode = .off then s else f s

/-- The elapsed and kept time now (R14, R17). -/
def State.latch (s : State) : Latch := { elapsed := s.now, kept := s.time.kept, superseded := false }

/-! ## Failed telegrams (R15) -/

/-- A failed telegram: CHECKING, count 0, no predecessor (R15). -/
def RefMonitor.failed (r : RefMonitor) : RefMonitor := { r with qual := .checking, count := 0, predecessor := none }

/-- A record completes or fails now: the silence interval restarts (R12, R16). -/
def State.recordOver (s : State) : State := s.withRefs { s.refs with lastTelegramTime := some s.now }

/-- A record fails (R12, R13, R15), reported as the last telegram (R24, log 14). -/
def State.failRecord (s : State) (chars : List Byte) : State :=
  let t := s.recordOver
  t.withRefs { t.refs.failed with record := none, lastTelegram := some (chars, false) }

/-- The pending telegram fails (R13, R14). -/
def State.failPending (s : State) : State :=
  match s.refs.pending with
  | some p => s.withRefs { s.refs.failed with pending := none, lastTelegram := some (p.chars, false) }
  | none => s

/-! ## The record (R11-R13) -/

def charHash : Byte := 0x23
def charReturn : Byte := 0x0D
def charS : Byte := 0x53
def charW : Byte := 0x57
def charA : Byte := 0x41
def charDash : Byte := 0x2D

/-- A decimal digit's character. -/
def isDigit (c : Byte) : Bool := 0x30 ≤ c.toNat && c.toNat ≤ 0x39

/-- An upper-case hexadecimal digit's character. -/
def isHex (c : Byte) : Bool := isDigit c || (0x41 ≤ c.toNat && c.toNat ≤ 0x46)

/-- The characters allowed at a position of the record (R12). -/
def allowedAt (position : Nat) (c : Byte) : Bool :=
  if position ≤ 11 then isDigit c
  else if position = 12 then c = charS || c = charW
  else if position = 13 then c = charA || c = charDash
  else isHex c

/-- The value of a hexadecimal digit's character. -/
def hexValue (c : Byte) : Nat := if isDigit c then c.toNat - 0x30 else c.toNat - 0x41 + 10

/-- The value of one decimal digit of a record. -/
def digitAt (chars : List Byte) (i : Nat) : Nat := (chars.getD i 0x30).toNat - 0x30

/-- The value of two decimal digits of a record. -/
def pairAt (chars : List Byte) (i : Nat) : Nat := 10 * digitAt chars i + digitAt chars (i + 1)

/-- The check of a record agrees with the sum of its first 14 characters (R11). -/
def checkGood (chars : List Byte) : Bool :=
  ((chars.take 14).map BitVec.toNat).sum % 256 = 16 * hexValue (chars.getD 14 0) + hexValue (chars.getD 15 0)

/-- The valid telegram of a completed record, its label taken back to standard time (R13). -/
def readTelegram (t : TimeSettings) (chars : List Byte) : Option Telegram :=
  let date : Date := ⟨2000 + pairAt chars 1, pairAt chars 3, pairAt chars 5⟩
  let hour := pairAt chars 8
  let minute := pairAt chars 10
  let seasonal : Bool := chars.getD 12 0 = charS
  let civil := dateMs date + timeMs hour minute 0 0
  let back := flagOffset t seasonal * 60000
  if checkGood chars && date.valid && decide (hour < 24) && decide (minute < 60) &&
      decide (weekdayOf (dayOf date) = digitAt chars 7) && decide (back ≤ civil) && decide (civil - back < Config.rangeEnd)
  then some { label := civil - back, seasonal := seasonal, announce := chars.getD 13 0 = charA }
  else none

/-- The previous mark, where it lies within the last 180 000 ms (R14). -/
def State.recentMark (s : State) : Option Nat :=
  s.refs.prevMark.filter fun m => s.now - m ≤ Config.telegramMemory

/-- A valid telegram becomes pending; one still pending fails (R13). Its mark's deadline is fixed (R14). -/
def State.makePending (s : State) (tel : Telegram) (chars : List Byte) : State :=
  let t := s.failPending
  t.withRefs { t.refs with
      pending := some { telegram := tel, chars := chars, deadline := (t.recentMark.getD t.now) + Config.markLimit } }

/-- One character of the telegram line (R12). -/
def takeChar (s : State) (c : Byte) : State :=
  match s.refs.record with
  | none => if c = charHash then s.withRefs { s.refs with record := some (s.now, [c]) } else s
  | some (start, chars) =>
    if c = charHash then
      let t := s.failRecord chars
      t.withRefs { t.refs with record := some (t.now, [c]) }
    else if chars.length < 16 then
      if allowedAt chars.length c then s.withRefs { s.refs with record := some (start, chars ++ [c]) }
      else s.failRecord chars
    else if c = charReturn then
      match readTelegram s.tables.time chars with
      | none => s.failRecord chars
      | some tel =>
        let t := s.recordOver
        (t.withRefs { t.refs with record := none }).makePending tel chars
    else s.failRecord chars

/-- TELEGRAM_RECORD (R12, R13): the characters as they come. -/
def telegramRecord (chars : List Byte) (s : State) : State := s.whenReading fun s => chars.foldl takeChar s

/-- TELEGRAM_RECORD_TIMEOUT (R12). -/
def telegramRecordTimeout (s : State) : State :=
  s.whenReading fun s =>
    match s.refs.record with
    | some (start, chars) => (s.runTo (start + Config.recordLimit)).failRecord chars
    | none => s

/-- TELEGRAM_SILENCE (R16). -/
def telegramSilence (s : State) : State :=
  s.whenReading fun s =>
    match s.refs.lastTelegramTime with
    | some last =>
      let t := s.runTo (last + Config.telegramMemory)
      t.withRefs { t.refs with qual := .absent, count := 0, predecessor := none, pending := none }
    | none => s

/-! ## Qualification (R15) -/

/-- A telegram is consistent with its predecessor (R15). -/
def Telegram.consistent (t p : Telegram) : Bool :=
  decide (t.label = p.label + 60000) && (decide (t.seasonal = p.seasonal) || p.announce)

/-- A telegram passes its mark (R15): the monitor after it, and whether a confirmation is made. -/
def RefMonitor.qualify (r : RefMonitor) (tel : Telegram) : RefMonitor × Bool :=
  let consistent := r.predecessor.any tel.consistent
  match r.qual, consistent with
  | .absent, _ | .checking, false | .confirmed, false =>
    ({ r with qual := .checking, count := 1, predecessor := some tel }, false)
  | .checking, true =>
    if r.count + 1 = 2 then ({ r with qual := .confirmed, count := 2, predecessor := some tel }, true)
    else ({ r with qual := .checking, count := 1, predecessor := some tel }, false)
  | .confirmed, true => ({ r with count := min 255 (r.count + 1), predecessor := some tel }, true)

/-! ## The phase of a confirmation (R18, R19) -/

/-- The nearest second mark of a telegram mark, from the one before and the one after; the earlier at equal distances (R18). -/
def nearestMark (mark : Nat) (before after : Option SecEdge) : Option SecEdge :=
  match before, after with
  | some b, some a => if a.latch.elapsed - mark < mark - b.latch.elapsed then some a else some b
  | some b, none => some b
  | none, a => a

/-- A decision is made (R18, R19): the skew recorded, and the confirmation owed delivered with its phase. -/
def decideMark (d : Decision) (after : Option SecEdge) (s : State) : State :=
  let chosen := nearestMark d.mark.elapsed d.before after
  let skew : Option Int := chosen.map fun e => (e.latch.elapsed : Int) - d.mark.elapsed
  let t := s.withRefs { s.refs with skew := skew }
  match d.confirms with
  | none => t
  | some tel =>
    match chosen, skew with
    | some e, some k =>
      if e.stable && decide (k.natAbs ≤ Config.skewBound) then confirmation tel e.latch .second t
      else confirmation tel d.mark .telegram t
    | _, _ => confirmation tel d.mark .telegram t

/-- The last second mark, where it lies within 1000 ms (R18). -/
def State.markBefore (s : State) : Option SecEdge :=
  s.refs.lastEdge.filter fun e => s.now - e.latch.elapsed ≤ Config.skewReach

/-- A mark with a pending telegram in AUTO is decided, at once or at a later second mark (R18); in TELEGRAM the phase is the
mark (R19). -/
def State.phaseOf (s : State) (mark : Latch) (confirms : Option Telegram) : State :=
  if s.mode = .auto then
    if s.refs.second = .absent then decideMark { mark := mark, before := none, confirms := confirms } none s
    else
      s.withRefs { s.refs with
          deciding := s.refs.deciding ++ [{ mark := mark, before := s.markBefore, confirms := confirms }] }
  else
    match confirms with
    | some tel => confirmation tel mark .telegram s
    | none => s

/-- The interval from the previous mark lies in its band, or is not checked (R14). -/
def State.markInBand (s : State) : Bool :=
  match s.recentMark with
  | some m => decide (59000 ≤ s.now - m) && decide (s.now - m ≤ 61000)
  | none => true

/-- TELEGRAM_MARK (R14). -/
def telegramMark (s : State) : State :=
  s.whenReading fun s =>
    let mark := s.latch
    match s.refs.pending with
    | none => s.withRefs { s.refs with prevMark := some mark.elapsed }
    | some p =>
      if s.markInBand then
        let q := s.refs.qualify p.telegram
        let r := { q.1 with pending := none, prevMark := some mark.elapsed, lastTelegram := some (p.chars, true) }
        (s.withRefs r).phaseOf mark (if q.2 then some p.telegram else none)
      else
        let t := s.failPending
        (t.withRefs { t.refs with prevMark := some mark.elapsed }).phaseOf mark none

/-- TELEGRAM_MARK_DEADLINE (R14). -/
def telegramMarkDeadline (s : State) : State :=
  s.whenReading fun s =>
    match s.refs.pending with
    | some p => (s.runTo p.deadline).failPending
    | none => s

/-! ## Second marks (R17) -/

/-- The second-mark state and count after an interval (R17). -/
def secondAfter (state : SecState) (count : Nat) (interval : Option Nat) : SecState × Nat :=
  let good := interval.any fun i => 998 ≤ i && i ≤ 1002
  match state, good with
  | .absent, _ => (.unstable, 0)
  | .unstable, true => if count + 1 = 10 then (.stable, 10) else (.unstable, count + 1)
  | .unstable, false => (.unstable, 0)
  | .stable, true => (.stable, 10)
  | .stable, false => (.unstable, 0)

/-- The decisions waiting are made with a later second mark where it lies within 1000 ms, or without one (R18). -/
def State.decideAll (s : State) (after : Option SecEdge) : State :=
  s.refs.deciding.foldl
    (fun t d => decideMark d (after.filter fun e => e.latch.elapsed - d.mark.elapsed ≤ Config.skewReach) t)
    (s.withRefs { s.refs with deciding := [] })

/-- SECOND_MARK_EDGE (R17, R18), in AUTO mode alone (R17). -/
def secondMarkEdge (s : State) : State :=
  s.whenReady fun s =>
    if s.mode ≠ .auto then s
    else
      let n := secondAfter s.refs.second s.refs.secondCount (s.refs.lastEdge.map fun e => s.now - e.latch.elapsed)
      let e : SecEdge := { latch := s.latch, stable := decide (n.1 = .stable) }
      (s.withRefs { s.refs with second := n.1, secondCount := n.2, lastEdge := some e }).decideAll (some e)

/-- SECOND_MARK_TIMEOUT (R17). -/
def secondMarkTimeout (s : State) : State :=
  s.whenReady fun s =>
    match s.refs.lastEdge with
    | some e =>
      let t := s.runTo (e.latch.elapsed + Config.secondLimit)
      t.withRefs { t.refs with second := .absent, secondCount := 0, lastEdge := none }
    | none => s

/-- SKEW_DECISION_TIMEOUT (R18): the decisions whose 1000 ms have run are made without a later second mark. -/
def skewDecisionTimeout (s : State) : State :=
  s.whenReady fun s =>
    match s.refs.deciding with
    | d :: _ =>
      let t := s.runTo (d.mark.elapsed + Config.skewReach)
      let ended (d : Decision) : Bool := decide (d.mark.elapsed + Config.skewReach ≤ t.now)
      (t.refs.deciding.filter ended).foldl (fun t d => decideMark d none t)
        (t.withRefs { t.refs with deciding := t.refs.deciding.filter fun d => !ended d })
    | [] => s

/-! ## Modes (R20) -/

/-- The second-mark tracker begins from ABSENT (R20). -/
def RefMonitor.noSeconds (r : RefMonitor) : RefMonitor :=
  { r with second := .absent, secondCount := 0, lastEdge := none, skew := none }

/-- A change of the reference mode (R20), made in the settings already. -/
def State.changeMode (s : State) (new : RefMode) : State :=
  let waiting := s.refs.deciding
  let s := s.withRefs { s.refs.noSeconds with deciding := [] }
  match new with
  | .off =>
    let s := s.withRefs { s.refs with
      qual := .absent, count := 0, predecessor := none, pending := none, record := none, prevMark := none }
    if s.time.state = .locked then s.holdOver .mode else s
  | .telegram =>
    waiting.foldl (fun t d => match d.confirms with | some tel => confirmation tel d.mark .telegram t | none => t) s
  | .auto => s

/-- A PUT of the TIME group (R23). DESIGN CHOICE (log 58): a confirmation that the PUT itself delivers (R20) is handled with
the new step threshold and offset setting, and before the new holdover limit is judged. -/
def State.newTimeSettings (s : State) (new : TimeSettings) : State :=
  let old := s.tables.time.mode
  let s := s.withTables { s.tables with time := new }
  (if old = new.mode then s else s.changeMode new.mode).applyTimeSettings

end Sys2Proof.Machine
end

