-- ==== Sys2Proof/Machine/Report.lean ====
section
/-! DEFINITION. What the part tells the host: the dynamic fields of a record, the fields of a reply and of a notice, on the
line (R194). Log 18 names the readings of R194 the model takes. -/

namespace Sys2Proof.Machine

/-! ## Common fields -/

/-- A date and time to the ms (R194). -/
def timeFields (ms : Nat) : List Item :=
  let t := msOfDay ms
  dateFields (dayOfMs ms) ++ num 1 (t / 3600000) ++ num 1 (t / 60000 % 60) ++ num 1 (t / 1000 % 60) ++ num 2 (t % 1000)

/-- An optional date and time. -/
def optTime : Option Nat → List Item
  | some ms => mark true ++ timeFields ms
  | none => mark false ++ num 9 0

/-- The enumerations' codes are their places (R194). -/
def optDir (d : Option Dir) : List Item := optEnum 1 (d.map Dir.ctorIdx)
def optOwner (o : Option Owner) : List Item := optEnum 1 (o.map Owner.ctorIdx)

/-! ## Performance records (R77, R194) -/

/-- The velocity's bits: 0 but for HOUR and TOLL. -/
def Perf.velocityCode (p : Perf) : Nat :=
  match p.args with
  | .strokes _ _ _ v => v.ctorIdx
  | .tune .. => 0

/-- The performance record, read at an elapsed time: 14 bytes, 21 for a PLAYING one. -/
def perfBytes (now : Nat) (hasId : Bool) (p : Perf) : List Byte :=
  let a : Nat × Nat × Nat := match p.args with
    | .tune t r => (t, r, 0)
    | .strokes b c i _ => (b, c, i)
  byte (if hasId then p.id else 0) ::
    byte (hasId.toNat + 2 * p.playing.toNat + 4 * p.kind.ctorIdx + 16 * p.origin.ctorIdx + 64 * p.velocityCode) ::
    byte (p.entry.getD 255) :: byte a.1 :: byte a.2.1 ::
    (beBytes 2 a.2.2 ++ beBytes 4 (twos 4 ((p.due : Int) - now)) ++ beBytes 3 (p.deadline - p.due) ++
      if p.playing then byte p.rep :: (beBytes 2 p.note ++ beBytes 2 p.lost ++ beBytes 2 p.clipped) else [])

/-! ## Dynamic fields of records (R46, R93, R94, R109, R117, R130, R36) -/

def claimFields : Claim → List Item
  | .free => enum 2 0 ++ opt 1 none
  | .struck id => enum 2 1 ++ opt 1 (some id)
  | .swung u => enum 2 2 ++ opt 1 (some u)
  | .settling u => enum 2 3 ++ opt 1 (some u)

def bellDynamic (w : Bell) : List Item :=
  claimFields w.claim ++ mark w.pending ++ enum 2 w.hammer.ctorIdx ++
    (match w.held with
      | some (v, id) => mark true ++ enum 2 v.ctorIdx ++ num 1 id
      | none => mark false ++ enum 2 0 ++ num 1 0) ++
    enum 2 w.fault.ctorIdx ++ mark w.newMark ++ num 1 w.opens ++ opt 2 w.reading

/-- A drive on the line: its state, and its direction for WAITING and IMPULSE (R94). -/
def driveFields : Drive → List Item
  | .idle => enum 2 0 ++ optDir none
  | .waiting d _ _ => enum 2 1 ++ optDir (some d)
  | .impulse d _ => enum 2 2 ++ optDir (some d)

def unitDynamic (bell : Option Nat) (w : SwingUnit) : List Item :=
  opt 1 bell ++ enum 3 w.state.ctorIdx ++ enum 3 w.fault.ctorIdx ++ mark w.newMark ++ mark w.referenced ++ int 4 w.angle ++
    enum 1 w.lastDir.ctorIdx ++ opt 4 w.amplitude ++ num 1 w.slips ++ num 1 w.turns ++ opt 6 w.ringEnd ++
    mark w.startPending ++ optEnum 2 (w.lowKind.map LowKind.ctorIdx) ++ driveFields w.drive ++ optOwner w.owner

def planDynamic (s : State) (plan : Nat) : List Item :=
  if s.run.state ≠ .idle ∧ s.run.plan = plan then
    mark true ++ enum 2 s.run.state.ctorIdx ++ num 1 s.run.steps ++ slots 6 s.run.members ++ num 6 s.run.ends
  else mark false ++ enum 2 0 ++ num 1 0 ++ slots 6 [] ++ num 6 0

/-- A dial's drive on the line, with the REPEAT mark (R117). -/
def dialDriveFields : DialDrive → List Item
  | .idle => enum 2 0 ++ mark false
  | .waiting again => enum 2 1 ++ mark again
  | .impulse again _ => enum 2 2 ++ mark again

def dialDynamic (w : Dial) : List Item :=
  enum 3 w.state.ctorIdx ++ opt 2 w.position ++ optDir w.next ++ optDir w.last ++ mark w.inFlight ++ mark w.stop ++
    opt 1 w.kept ++ dialDriveFields w.drive ++ opt 6 w.spacing

def circuitDynamic (s : State) (c : Nat) : List Item :=
  let w := s.circuit c
  enum 3 w.state.ctorIdx ++ num 1 w.demand ++ enum 2 w.source.ctorIdx ++ num 1 w.sceneLevel ++
    (match w.override with
      | some o => mark true ++ num 1 o.level ++ opt 6 o.expiry
      | none => mark false ++ num 1 0 ++ opt 6 none) ++
    num 1 (w.output (s.circuitRec c).kind) ++ num 1 w.target ++ num 1 (s.held (.flood c)) ++ opt 1 (s.requested c) ++
    mark w.shed ++ opt 6 w.timer

/-- The firing guard of an entry: 7 bytes (R194). -/
def guardItems : Option Nat → List Item
  | some m => num 1 1 ++ dateFields (m / 1440) ++ num 1 (m % 1440 / 60) ++ num 1 (m % 60)
  | none => num 1 0 ++ num 6 0

/-- The record of a table as GET and listing frames carry it: its fields as in PUT, then its dynamic fields (R185, log 18).
The table number is one of R184's, the index in its range. -/
def recordBytes (s : State) (table i : Nat) : List Byte :=
  match table with
  | 0 => pack (bellItems (s.bellRec i)) ++ pack (bellDynamic (s.bell i))
  | 1 => pack (swingItems (s.swingRec i)) ++ pack (unitDynamic (s.bellOfUnit i) (s.unit i))
  | 2 => pack (planItems (s.planRec i)) ++ pack (planDynamic s i)
  | 3 => pack (tuneItems (s.tuneRec i))
  | 4 => pack (noteItems (s.noteRec i))
  | 5 => pack (dialItems (s.dialRec i)) ++ pack (dialDynamic (s.dial i))
  | 6 => pack (circuitItems (s.circuitRec i)) ++ pack (circuitDynamic s i)
  | 7 => pack (sceneItems (s.sceneRec i))
  | 8 => pack (entryItems (s.entryRec i)) ++ pack (guardItems (s.guard i))
  | 9 => pack (specialItems (s.specialRec i))
  | 10 => pack (sunItems (s.sunRec i))
  | _ =>
    match i with
    | 0 => pack (timeItems s.tables.time)
    | 1 => pack (strikeItems s.tables.strike)
    | 2 => pack (lightItems s.tables.light)
    | 3 => pack (supplyItems s.tables.supply)
    | 4 => pack (hammerItems s.tables.hammerCheck)
    | _ => pack (noticeItems s.tables.notice)

/-! ## Replies -/

/-- A line rate in bit/s (R178). -/
def Rate.bits : Rate → Nat
  | .r19200 => 19200
  | .r57600 => 57600
  | .r115200 => 115200

/-- The fields of STATUS (R191). -/
def statusReport (s : State) : List Byte :=
  pack (enum 1 s.start.phase.ctorIdx ++ mark s.store.saving.isSome ++ enum 2 s.time.state.ctorIdx ++
    enum 2 s.power.mains.ctorIdx ++ enum 1 s.power.access.ctorIdx ++ enum 1 s.power.key.ctorIdx ++ mark s.day.quiet ++
    mark s.newFaults ++ enum 3 s.link.lastError.ctorIdx ++ opt 6 s.link.lastErrorTime ++ num 2 s.link.errorCount ++
    num 3 s.link.rate.bits ++ enum 2 s.run.state.ctorIdx ++
    opt 1 (if s.run.state = .idle then none else some s.run.plan) ++ num 1 s.chime.queue.length ++
    num 1 s.link.notices.length ++ mark s.link.overrun ++ num 1 s.link.lostCount)

/-- The fields of FAULTS (R192). DEDUCED (log 18): the fault kind has 3 bits for every object, and the code of the object's own
list. -/
def faultsReport (s : State) : List Byte :=
  pack (listing (s.faultObjects.map fun o => pack (enum 2 o.1 ++ num 1 o.2.1 ++ enum 3 o.2.2.1 ++ mark o.2.2.2)))

/-- The last telegram as received: its 15 characters, 0 where it is shorter, and whether it passed (R24, log 14). DEDUCED (log
18): "whether it passed or failed" is a mark, set where it passed. -/
def telegramFields : Option (List Byte × Bool) → List Item
  | some (chars, passed) =>
    mark true ++ mark passed ++ [.raw (((chars.drop 1) ++ List.replicate 15 0).take 15)]
  | none => mark false ++ mark false ++ num 15 0

/-- The fields of TIMEINFO (R24). -/
def timeReport (s : State) : List Byte :=
  let b := s.time
  let r := s.refs
  pack (enum 2 b.state.ctorIdx ++ optTime b.kept ++ optTime b.civil ++ opt 1 b.offset ++ int 2 b.trim ++ int 3 b.slew ++
    optInt 6 b.lastOffset ++ opt 2 b.lastInterval ++ optTime (if b.state = .holdover then b.holdStart else none) ++
    enum 2 r.qual.ctorIdx ++ num 1 r.count ++ telegramFields r.lastTelegram ++ enum 2 r.second.ctorIdx ++
    num 1 r.secondCount ++ optInt 2 r.skew ++ optEnum 1 (b.lastPhase.map PhaseSource.ctorIdx))

/-- The fields of QUEUE (R90): the count and the records, head first. -/
def queueReport (s : State) : List Byte :=
  byte s.chime.queue.length :: s.chime.queue.flatMap (perfBytes s.now true)

/-- The minutes an override still runs, rounded up (R145). -/
def State.overrideLeft (s : State) (o : Override) : Option Nat := o.expiry.map fun e => (e - s.now + 59999) / 60000

/-- The fields of FLOODINFO for one circuit (R145). -/
def circuitReport (s : State) (c : Nat) : List Byte :=
  let w := s.circuit c
  pack (enum 3 w.state.ctorIdx ++ num 1 w.demand ++ enum 2 w.source.ctorIdx ++ num 1 w.sceneLevel ++
    (match w.override with
      | some o => mark true ++ num 1 o.level ++ opt 2 (s.overrideLeft o)
      | none => mark false ++ num 1 0 ++ opt 2 none) ++
    num 1 (w.output (s.circuitRec c).kind) ++ num 1 (s.held (.flood c)) ++ mark w.shed)

/-- The fields of FLOODINFO (R145). -/
def floodReport (s : State) : List Byte :=
  pack (opt 1 s.floods.lastScene ++ opt 1 s.tables.light.fallback ++ mark s.floods.shedSeen) ++
    circuitNumbers.flatMap (circuitReport s)

/-! ## Notices (R188) -/

/-- The place of a notice's form in the list of its class (R188). -/
def NoticeBody.form : NoticeBody → Nat
  | .ended .. | .pending .. | .faultSwing .. | .mains .. | .skippedStrike .. => 1
  | .dropped .. | .run .. | .faultLight .. => 2
  | .step .. => 3
  | _ => 0

/-- The codes of the mains notices' causes: MAINS_RESERVE, MAINS_RETURNING, MAINS_NORMAL (R168). -/
def mainsCause : Mains → Nat
  | .reserve => 0
  | .returning => 1
  | .normal => 2

/-- A list of tables on the line. -/
def tableList (l : List TableId) : List Item := listing (l.map fun t => [byte t.ctorIdx])

/-- The fields of a notice, by its owner's rule; performance records are read at the time it was handed. SKIPPED's civil
minutes t and now are minutes of the day in two bytes; UNIT carries its fault kind always, NONE outside FAULT, and its
lowering kind with a presence mark; PENDING a mark, set for FAILED, and the reason; SAVED a mark, set for FAILED, the first failed
table as an optional number, and the count; the generator's SKIPPED a status of 4 bits (DEDUCED, log 18). -/
def noticeItemsOf (now : Nat) : NoticeBody → List Item
  | .start cause warm failed mains access key =>
    enum 2 cause.ctorIdx ++ mark (!warm) ++ tableList failed ++ enum 2 mains.ctorIdx ++ enum 1 access.ctorIdx ++
      enum 1 key.ctorIdx
  | .time cause old new step civil =>
    enum 3 cause.ctorIdx ++ enum 2 old.ctorIdx ++ enum 2 new.ctorIdx ++ int 6 step ++ optTime civil
  | .started p => [.raw (perfBytes now true p)]
  | .ended p reason started =>
    [.raw (perfBytes now true p)] ++ enum 3 reason.ctorIdx ++ num 6 started ++ num 2 p.lost ++ num 2 p.clipped
  | .dropped p hasId reason => [.raw (perfBytes now hasId p)] ++ enum 3 reason.ctorIdx
  | .unit u bell old new cause owner amplitude low fault =>
    num 1 u ++ opt 1 bell ++ enum 3 old.ctorIdx ++ enum 3 new.ctorIdx ++ enum 4 cause.ctorIdx ++ optOwner owner ++
      opt 4 amplitude ++ optEnum 2 (low.map LowKind.ctorIdx) ++ enum 3 fault.ctorIdx
  | .pending u bell failed =>
    num 1 u ++ opt 1 bell ++ mark failed.isSome ++ enum 2 ((failed.map FailReason.ctorIdx).getD 0)
  | .run plan old new cause => num 1 plan ++ enum 2 old.ctorIdx ++ enum 2 new.ctorIdx ++ enum 3 cause.ctorIdx
  | .step plan step u reason => num 1 plan ++ num 1 step ++ num 1 u ++ enum 3 reason.ctorIdx
  | .dial d old new cause position target difference next =>
    num 1 d ++ enum 3 old.ctorIdx ++ enum 3 new.ctorIdx ++ enum 4 cause.ctorIdx ++ opt 2 position ++ opt 2 target ++
      opt 2 difference ++ optDir next
  | .flood c old new cause demand source level units =>
    num 1 c ++ enum 3 old.ctorIdx ++ enum 3 new.ctorIdx ++ enum 4 cause.ctorIdx ++ num 1 demand ++
      enum 2 source.ctorIdx ++ num 1 level ++ num 1 units
  | .light old new cause average fault =>
    enum 2 old.ctorIdx ++ enum 2 new.ctorIdx ++ enum 2 cause.ctorIdx ++ opt 2 average ++ mark fault
  | .faultBell b fault reading claim =>
    enum 2 0 ++ num 1 b ++ enum 2 fault.ctorIdx ++ num 2 reading ++ enum 2 claim.ctorIdx
  | .faultSwing u bell fault amplitude => enum 2 1 ++ num 1 u ++ opt 1 bell ++ enum 3 fault.ctorIdx ++ opt 4 amplitude
  | .faultLight reading before => enum 2 2 ++ enum 1 1 ++ num 2 reading ++ enum 2 before.ctorIdx
  | .supply cause budget granted waiting first big =>
    enum 2 cause.ctorIdx ++ num 2 budget ++ num 2 granted ++ num 1 waiting ++
      (match first with
        | some (c, n) => mark true ++ claimantFields c n
        | none => mark false ++ enum 2 0 ++ num 1 0 ++ num 2 0) ++
      (match big with
        | some (c, n) => mark true ++ num 1 c.number ++ num 2 n
        | none => mark false ++ num 1 0 ++ num 2 0)
  | .mains old new elapsed => enum 2 (mainsCause new) ++ enum 2 old.ctorIdx ++ enum 2 new.ctorIdx ++ num 6 elapsed
  | .access old new elapsed => enum 1 old.ctorIdx ++ enum 1 new.ctorIdx ++ num 6 elapsed
  | .saved failed =>
    mark (!failed.isEmpty) ++ opt 1 (failed.head?.map TableId.ctorIdx) ++ num 1 failed.length
  | .skipped e day minute now action reason status =>
    num 1 e ++ dateFields day ++ num 2 minute ++ num 2 now ++ enum 3 action.code ++ enum 2 reason.ctorIdx ++
      enum 4 status.ctorIdx
  | .skippedStrike kind quarter civil reason =>
    enum 1 kind.ctorIdx ++ dateFields (quarter / 96) ++ num 1 (quarter % 96) ++ timeFields civil ++
      mark (decide (reason = .late)) ++ enum 4 0

/-- The frame of a notice (R188). -/
def noticeFrame (n : Notice) : Frame :=
  { kind := byte (0x40 + n.body.cls)
    body := byte n.lost.toNat :: byte n.lostCount :: (beBytes 6 n.elapsed ++ byte n.body.form ::
      pack (noticeItemsOf n.elapsed n.body)) }

end Sys2Proof.Machine
end

