-- ==== Sys2Proof/Machine/Put.lean ====
section
/-! DEFINITION. Writing the tables: PUT and ERASE of every table of R184, each with its owner's checks in its owner's
order, and the requests that address the tables: PUT, ERASE, GET and the counting of LIST (11.5). -/

namespace Sys2Proof.Machine

/-! ## PUT of one record -/

/-- The commissioning fields of a bell record are those of another (R46). -/
def BellRec.sameCommissioning (new old : BellRec) : Bool :=
  decide ({ new with enabled := old.enabled, coilCheck := old.coilCheck } = old)

/-- The new record names a unit that moves, and the stored one does not bind it (R47, third check). -/
def State.bindsMoving (s : State) (b : Nat) (new : BellRec) : Bool :=
  new.inUse && new.swing.any fun u => decide ((s.unit u).state ≠ .rest) && decide (s.unitOfBell b ≠ some u)

/-- Another bell in use names the unit (R47, fourth check). -/
def State.bindsTwice (s : State) (b : Nat) (new : BellRec) : Bool :=
  new.inUse && new.swing.any fun u => bellNumbers.any fun o => decide (o ≠ b) && decide (s.unitOfBell o = some u)

/-- PUT of a bell (R47, R48). -/
def putBell (b : Nat) (new : BellRec) (s : State) : State × Status :=
  if !s.keyOn && !new.sameCommissioning (s.bellRec b) then (s, .locked)
  else if (s.bell b).claim ≠ .free ∨ s.bindsMoving b new = true then (s, .inUse)
  else if s.bindsTwice b new then (s, .duplicate)
  else ((s.withTables { s.tables with bell := Table.put bellRec0 s.tables.bell b new }).post (.report b), .ok)

/-- PUT of a swing unit (R93). -/
def putSwing (u : Nat) (new : SwingRec) (s : State) : State × Status :=
  if !s.keyOn && decide (new ≠ s.swingRec u) then (s, .locked)
  else if (s.unit u).state ≠ .rest ∨ (s.unit u).startPending = true then (s, .inUse)
  else (s.withTables { s.tables with swing := Table.put swingRec0 s.tables.swing u new }, .ok)

/-- PUT of a plan (R109). -/
def putPlan (p : Nat) (new : Plan) (s : State) : State × Status :=
  if s.run.state ≠ .idle ∧ s.run.plan = p then (s, .inUse)
  else (s.withTables { s.tables with plan := Table.put plan0 s.tables.plan p new }, .ok)

/-- PUT of a tune (R74, R76). -/
def putTune (t : Nat) (new : Tune) (s : State) : State × Status :=
  if s.chime.playing.any fun pl => pl.tune = some t then (s, .inUse)
  else (s.withTables { s.tables with tune := Table.put tune0 s.tables.tune t new }, .ok)

/-- A note lies in the run of a tune (R76). -/
def Run.holds (r : Run) (n : Nat) : Bool := decide (r.first ≤ n) && decide (n < r.first + r.count)

/-- PUT of a note (R75, R76). -/
def putNote (n : Nat) (new : Note) (s : State) : State × Status :=
  if s.chime.playing.any fun pl => pl.run.any fun r => r.holds n then (s, .inUse)
  else (s.withTables { s.tables with note := Table.put note0 s.tables.note n new }, .ok)

/-- The third check of a dial's PUT (R116). -/
def State.dialHeld (s : State) (d : Nat) : Bool :=
  ((s.dialRec d).inUse && decide ((s.dial d).state ≠ .unknown) && decide ((s.dial d).state ≠ .stopped)) ||
    decide ((s.dial d).drive ≠ .idle)

/-- PUT of a dial (R116). -/
def putDial (d : Nat) (new : DialRec) (s : State) : State × Status :=
  if !s.keyOn && decide (new ≠ s.dialRec d) then (s, .locked)
  else if s.dialHeld d then (s, .inUse)
  else
    ((s.withTables { s.tables with dial := Table.put dialRec0 s.tables.dial d new }).newDialRecord d (s.dialRec d) new, .ok)

/-- The commissioning fields of a circuit record are those of another (R128). -/
def CircuitRec.sameCommissioning (new old : CircuitRec) : Bool :=
  decide ({ new with fade := old.fade, shed := old.shed, sheddable := old.sheddable, accessLight := old.accessLight } = old)

/-- PUT of a circuit (R129). -/
def putCircuit (c : Nat) (new : CircuitRec) (s : State) : State × Status :=
  if !s.keyOn && !new.sameCommissioning (s.circuitRec c) then (s, .locked)
  else if (s.circuit c).state ≠ .off then (s, .inUse)
  else
    ((s.withTables { s.tables with circuit := Table.put circuitRec0 s.tables.circuit c new }).post (.judgeCircuits [c] .table),
      .ok)

/-- PUT of a scene (R132). -/
def putScene (i : Nat) (new : Scene) (s : State) : State × Status :=
  (s.withTables { s.tables with scene := Table.put scene0 s.tables.scene i new }, .ok)

/-- PUT of a schedule entry (R26, R36): its guard is cleared. -/
def putEntry (e : Nat) (new : Entry) (s : State) : State × Status :=
  ((s.withTables { s.tables with schedule := Table.put entry0 s.tables.schedule e new }).setGuard e none, .ok)

/-- Another used entry holds the same date (R29). -/
def State.sameDate (s : State) (e : Nat) (new : Special) : Bool :=
  new.used && (List.range 48).any fun o =>
    let old := s.specialRec o
    decide (o ≠ e) && old.used && decide (old.month = new.month ∧ old.day = new.day ∧ old.year = new.year)

/-- PUT of a special day (R29). -/
def putSpecial (e : Nat) (new : Special) (s : State) : State × Status :=
  if s.sameDate e new then (s, .duplicate)
  else ((s.withTables { s.tables with special := Table.put special0 s.tables.special e new }).reclass, .ok)

/-- PUT of a day's sun minutes (R31). -/
def putSun (d : Nat) (new : Sun) (s : State) : State × Status :=
  (s.withTables { s.tables with sun := Table.put sun0 s.tables.sun d new }, .ok)

/-- PUT of the supply settings (R158). -/
def putSupply (new : SupplySettings) (s : State) : State × Status :=
  if !s.keyOn && decide (new.budget ≠ s.tables.supply.budget) then (s, .locked)
  else if new.budget < s.supply.total then (s, .inUse)
  else ((s.withTables { s.tables with supply := new }).serve, .ok)

/-- A reading of a record written, or RANGE. -/
def ranged {α : Type} (r : Option α) (write : α → State → State × Status) (s : State) : State × Status :=
  match r with
  | some new => write new s
  | none => (s, .range)

/-- PUT of a SETTINGS group from its values (R23, R68, R155, R158, R64, R190). -/
def putGroup (group : Nat) (v : List Nat) (s : State) : State × Status :=
  match group with
  | 0 => ranged (readTime v) (fun new s => (s.newTimeSettings new, .ok)) s
  | 1 => ranged (readStrike v) (fun new s => (s.withTables { s.tables with strike := new }, .ok)) s
  | 2 => ranged (readLight v) (fun new s => (s.newLightSettings new, .ok)) s
  | 3 => ranged (readSupply v) putSupply s
  | 4 => ranged (readHammer v) (fun new s => (s.withTables { s.tables with hammerCheck := new }, .ok)) s
  | _ => ranged (readNotice v) (fun new s => (s.withTables { s.tables with notice := new }, .ok)) s

/-- PUT of a record from its values, by the catalogue of R184. -/
def putValues (table i : Nat) (v : List Nat) (s : State) : State × Status :=
  match table with
  | 0 => ranged (readBell v) (putBell i) s
  | 1 => ranged (readSwing v) (putSwing i) s
  | 2 => ranged (readPlan v) (putPlan i) s
  | 3 => ranged (readTune v) (putTune i) s
  | 4 => ranged (readNote v) (putNote i) s
  | 5 => ranged (readDial v) (putDial i) s
  | 6 => ranged (readCircuit v) (putCircuit i) s
  | 7 => ranged (readScene v) (putScene i) s
  | 8 => ranged (readEntry v) (putEntry i) s
  | 9 => ranged (readSpecial v) (putSpecial i) s
  | 10 => ranged (readSun v) (putSun i) s
  | _ => putGroup i v s

/-! ## ERASE of one record -/

/-- ERASE of a bell (R47). -/
def eraseBell (b : Nat) (s : State) : State × Status :=
  if (s.bellRec b).inUse then putBell b { s.bellRec b with inUse := false } s else (s, .ok)

/-- ERASE of a dial (R116). -/
def eraseDial (d : Nat) (s : State) : State × Status :=
  if (s.dialRec d).inUse then putDial d { s.dialRec d with inUse := false } s else (s, .ok)

/-- ERASE of a circuit (R129). -/
def eraseCircuit (c : Nat) (s : State) : State × Status :=
  if (s.circuitRec c).inUse then putCircuit c { s.circuitRec c with inUse := false } s else (s, .ok)

/-- ERASE of a SETTINGS group: a PUT of its defaults (R186). -/
def eraseGroup (group : Nat) (s : State) : State × Status :=
  match group with
  | 0 => (s.newTimeSettings timeSettings0, .ok)
  | 1 => (s.withTables { s.tables with strike := strikeSettings0 }, .ok)
  | 2 => (s.newLightSettings lightSettings0, .ok)
  | 3 => putSupply supplySettings0 s
  | 4 => (s.withTables { s.tables with hammerCheck := hammerSettings0 }, .ok)
  | _ => (s.withTables { s.tables with notice := noticeMask0 }, .ok)

/-- ERASE by the catalogue of R184. -/
def eraseEntry (table i : Nat) (s : State) : State × Status :=
  match table with
  | 0 => eraseBell i s
  | 1 => putSwing i swingRec0 s
  | 2 => putPlan i { s.planRec i with used := false } s
  | 3 => putTune i { s.tuneRec i with used := false } s
  | 4 => putNote i { s.noteRec i with used := false } s
  | 5 => eraseDial i s
  | 6 => eraseCircuit i s
  | 7 => putScene i { s.sceneRec i with used := false } s
  | 8 => putEntry i { s.entryRec i with used := false } s
  | 9 => putSpecial i { s.specialRec i with used := false } s
  | 10 => putSun i sun0 s
  | _ => eraseGroup i s

/-! ## Addresses and lengths (R184) -/

/-- The first and the last index of a table, if it is one. -/
def tableRange (table : Nat) : Option (Nat × Nat) :=
  [(0, 15), (0, 5), (0, 7), (0, 63), (0, 4095), (0, 3), (0, 11), (0, 15), (0, 127), (0, 47), (1, 366), (0, 5)][table]?

/-- A table number and an index name an entry. -/
def inTable (table i : Nat) : Bool := (tableRange table).any fun r => within r.1 r.2 i

/-- The room of a table's record in PUT. -/
def recordRooms (table i : Nat) : List Room :=
  match table with
  | 0 => bellRooms
  | 1 => swingRooms
  | 2 => planRooms
  | 3 => tuneRooms
  | 4 => noteRooms
  | 5 => dialRooms
  | 6 => circuitRooms
  | 7 => sceneRooms
  | 8 => entryRooms
  | 9 => specialRooms
  | 10 => sunRooms
  | _ =>
    match i with
    | 0 => timeRooms
    | 1 => strikeRooms
    | 2 => lightRooms
    | 3 => supplyRooms
    | 4 => hammerRooms
    | _ => noticeRooms

/-- An entry counts as used (R187). -/
def State.usedEntry (s : State) (table i : Nat) : Bool :=
  match table with
  | 0 => (s.bellRec i).inUse
  | 2 => (s.planRec i).used
  | 3 => (s.tuneRec i).used
  | 4 => (s.noteRec i).used
  | 5 => (s.dialRec i).inUse
  | 6 => (s.circuitRec i).inUse
  | 7 => (s.sceneRec i).used
  | 8 => (s.entryRec i).used
  | 9 => (s.specialRec i).used
  | 10 => (s.sunRec i).dusk.isSome || (s.sunRec i).dawn.isSome
  | _ => true

/-! ## The requests -/

/-- A request's answer: the state, the status, and the fields after the status byte. -/
abbrev Answer := State × Status × List Byte

/-- An answer with no fields. -/
def plain (r : State × Status) : Answer := (r.1, r.2, [])

/-- The number of a request's field. -/
def fieldAt (body : List Byte) (start bytes : Nat) : Nat := beNat ((body.drop start).take bytes)

/-- PUT (R186): the table number is judged wherever it came, the index where it came whole, and then the length. DEDUCED
(log 18): a body that ends before its table number or inside its index is otherwise BAD_LENGTH. -/
def putRequest (body : List Byte) (s : State) : Answer :=
  let table := fieldAt body 0 1
  let i := fieldAt body 1 2
  if 11 < table then (s, .range, [])
  else if body.length < 3 then (s, .badLength, [])
  else if !inTable table i then (s, .range, [])
  else if body.length - 3 ≠ roomBytes (recordRooms table i) then (s, .badLength, [])
  else match unpack (recordRooms table i) (body.drop 3) with
    | some v => plain (putValues table i v s)
    | none => (s, .range, [])

/-- ERASE (R186). -/
def eraseRequest (body : List Byte) (s : State) : Answer :=
  let table := fieldAt body 0 1
  let i := fieldAt body 1 2
  if inTable table i then plain (eraseEntry table i s) else (s, .range, [])

/-- GET (R185). -/
def getRequest (body : List Byte) (s : State) : Answer :=
  let table := fieldAt body 0 1
  let i := fieldAt body 1 2
  if inTable table i then (s, .ok, byte table :: (beBytes 2 i ++ recordBytes s table i)) else (s, .range, [])

/-- The first used index of a range of a table, if there is one (R187). -/
def State.nextUsed (s : State) (table first last : Nat) : Option Nat :=
  (List.range (last + 1 - first)).map (first + ·) |>.find? (s.usedEntry table)

/-- LIST (R187). A listing in progress has ended before. The count of used entries takes two bytes (log 18). -/
def listRequest (body : List Byte) (s : State) : Answer :=
  let table := fieldAt body 0 1
  let first := fieldAt body 1 2
  let count := fieldAt body 3 2
  if decide (count = 0) || !inTable table first || !inTable table (first + count - 1) then (s, .range, [])
  else
    let last := first + count - 1
    let n := ((List.range count).filter fun k => s.usedEntry table (first + k)).length
    let t := s.withLink { s.link with
      listing := (s.nextUsed table first last).map fun i => { table := table, next := i, last := last } }
    (t, .ok, beBytes 2 n)

end Sys2Proof.Machine
end

