-- ==== Sys2Proof/Machine/Power.lean ====
section
/-! DEFINITION. The power monitor (10.1, 10.2): the mains, access and key states, and what they hand the blocks. Log 31
gives the order of the blocks. -/

namespace Sys2Proof.Machine

/-- The blocks take a mains loss, each at once (R169). What they hand one another follows (log 3). -/
def State.loseMains (s : State) : State :=
  lightLoss (converterLoss (supplyLoss (lossFloods (lossDials (lossRun (lossSwing (abortPlaying .reserve none (lossBells
    s))))))))

/-- The blocks at a mains return (R169). -/
def returnMessages : List Msg :=
  bellNumbers.map Msg.report ++ [.returnDials .mainsReturn, .returnFloods .mainsReturn, .returnLight]

/-- The blocks at an access change (R170). -/
def accessMessages (state : Access) : List Msg :=
  [.accessBells] ++ (match state with | .active => [.abort .access none] | .clear => []) ++
    [.accessSwing, .accessRun, .accessFloods]

/-- The mains state changes: reported and handed on from READY (R168, R174). DESIGN CHOICE (log 31): at a loss MAINS_RESERVE is
sent before the blocks act, and so before a SHED_CLEAR. -/
def State.setMains (s : State) (mains : Mains) (settle : Option Nat) : State :=
  let t := s.withPower { s.power with mains := mains, settle := settle }
  if !s.ready then t
  else
    let t := t.notify (.mains s.power.mains mains s.now)
    if s.power.mains = .normal then t.loseMains
    else if mains = .normal then t.postAll returnMessages
    else t

/-- MAINS_LINE_ABSENT (R168). -/
def mainsLineAbsent (s : State) : State :=
  let s := s.withPower { s.power with linePresent := false }
  s.whenRunning fun s => if s.power.mains = .reserve then s else s.setMains .reserve none

/-- MAINS_LINE_PRESENT (R168). -/
def mainsLinePresent (s : State) : State :=
  let s := s.withPower { s.power with linePresent := true }
  s.whenRunning fun s =>
    if s.power.mains = .reserve then s.setMains .returning (some (s.now + Config.mainsSettle)) else s

/-- MAINS_SETTLE_EXPIRY (R168). -/
def mainsSettleExpiry (s : State) : State :=
  s.whenRunning fun s =>
    match s.power.settle with
    | none => s
    | some instant => (s.runTo instant).setMains .normal none

/-- ACCESS_SWITCH_CHANGE (R170). -/
def accessSwitchChange (shows : Access) (s : State) : State :=
  if s.power.accessShows = shows then s
  else
    let s := s.withPower { s.power with accessShows := shows }
    s.whenRunning fun s =>
      s.withPower { s.power with
          accessTimer := if shows = s.power.access then none else some (s.now + Config.accessTime) }

/-- ACCESS_TIMER_EXPIRY (R170). -/
def accessTimerExpiry (s : State) : State :=
  s.whenRunning fun s =>
    match s.power.accessTimer with
    | none => s
    | some instant =>
      let s := s.runTo instant
      let t := s.withPower { s.power with access := s.power.accessShows, accessTimer := none }
      if s.ready then (t.notify (.access s.power.access t.power.access s.now)).postAll (accessMessages t.power.access)
      else t

/-- KEY_SWITCH_CHANGE (R171). -/
def keySwitchChange (shows : Key) (s : State) : State :=
  if s.power.keyShows = shows then s
  else
    let s := s.withPower { s.power with keyShows := shows }
    s.whenRunning fun s =>
      s.withPower { s.power with
          keyTimer := if shows = s.power.key then none else some (s.now + Config.keyTime) }

/-- KEY_TIMER_EXPIRY (R171). -/
def keyTimerExpiry (s : State) : State :=
  s.whenRunning fun s =>
    match s.power.keyTimer with
    | none => s
    | some instant =>
      let s := s.runTo instant
      s.withPower { s.power with key := s.power.keyShows, keyTimer := none }

/-- The power monitor takes its states from the lines at the opening of LOADING (R174). -/
def openPower (p : Power) : Power :=
  { p with
    mains := if p.linePresent then .returning else .reserve
    settle := if p.linePresent then some Config.mainsSettle else none
    access := p.accessShows
    accessTimer := none
    key := p.keyShows
    keyTimer := none }

end Sys2Proof.Machine
end

