-- ==== Sys2Proof/Machine/Start.lean ====
section
/-! DEFINITION. The store (10.3) and the start (10.4): the save, the opening of LOADING, and the entry to READY. -/

namespace Sys2Proof.Machine

/-! ## The store (R172, R173) -/

/-- One table of a set of tables copied into another. -/
def Tables.copy (dst src : Tables) : TableId → Tables
  | .bell => { dst with bell := src.bell }
  | .swing => { dst with swing := src.swing }
  | .plan => { dst with plan := src.plan }
  | .tune => { dst with tune := src.tune }
  | .note => { dst with note := src.note }
  | .dial => { dst with dial := src.dial }
  | .circuit => { dst with circuit := src.circuit }
  | .scene => { dst with scene := src.scene }
  | .schedule => { dst with schedule := src.schedule }
  | .special => { dst with special := src.special }
  | .sun => { dst with sun := src.sun }
  | .time => { dst with time := src.time }
  | .strike => { dst with strike := src.strike }
  | .light => { dst with light := src.light }
  | .supply => { dst with supply := src.supply }
  | .hammerCheck => { dst with hammerCheck := src.hammerCheck }
  | .notice => { dst with notice := src.notice }

/-- The tables as a start loads them: the defaults where the stored check fails (R172). -/
def Store.load (st : Store) : Tables := st.bad.foldl (fun t i => t.copy tables0 i) st.stored

/-- The stored check of a table is marked invalid (R173). The list is kept in the order of R172. -/
def Store.spoil (st : Store) (t : TableId) : Store :=
  { st with bad := tableOrder.filter fun i => decide (i = t) || st.bad.contains i }

/-- A table's stored contents and check are written and read back good (R173). -/
def Store.complete (st : Store) (tables : Tables) (t : TableId) : Store :=
  { st with stored := st.stored.copy tables t, bad := st.bad.filter (· ≠ t) }

/-- SAVE with the store IDLE (R173): the write of the first table begins. -/
def State.beginSave (s : State) : State :=
  s.withStore { s.store.spoil .bell with
      saving := some { writing := .bell, rest := tableOrder.drop 1, failed := [] } }

/-- SAVE_TABLE_WRITTEN (R173): the table in progress is read back, and the next begins or the store is IDLE. -/
def saveTableWritten (readBack : Bool) (s : State) : State :=
  match s.store.saving with
  | none => s
  | some w =>
    let st := if readBack then s.store.complete s.tables w.writing else s.store
    let failed := if readBack then w.failed else w.failed ++ [w.writing]
    match w.rest with
    | t :: rest =>
      s.withStore { st.spoil t with saving := some { writing := t, rest := rest, failed := failed } }
    | [] => (s.withStore { st with saving := none }).notify (.saved failed)

/-! ## The opening of LOADING (R174) -/

/-- The objects of the tables at the opening of LOADING, the tables being loaded (R66, R114, R127, R146). -/
def State.openObjects (s : State) : State :=
  let t := s.each bellNumbers fun b t => t.setBell b (openBell (s.unitOfBell b) (s.bell b))
  let t := t.each unitNumbers fun u t => t.setUnit u (openUnit (s.swingRec u))
  let t := t.each dialNumbers fun d t => t.setDial d (openDial (s.dial d))
  t.each circuitNumbers fun c t => t.setCircuit c (openCircuit (s.circuitRec c) (s.circuit c))

/-- The opening of LOADING (R174): every block takes its start values, the tables are loaded, and what retained memory
holds waits for its check at LOADING's end (log 7). -/
def openLoading (cause : StartCause) (s : State) : State :=
  let t : State := { s with
    tables := s.store.load
    time := openTime s.time
    refs := refMonitor0
    chime := { chime0 with quarterGuard := s.chime.quarterGuard }
    run := pealRun0
    dials := { s.dials with half := none }
    floods := { s.floods with shedSeen := false }
    light := light0
    converter := converter0
    supply := supply0
    power := openPower s.power
    store := { s.store with saving := none }
    start := { s.start with phase := .loading, cause := cause, failed := s.store.bad, keptAtOpening := s.time.kept }
    link := link0
    agenda := [] }
  t.openObjects

/-- RESET_LINE_HELD (R174): the part stops running. -/
def resetLineHeld (s : State) : State := s.withStart { s.start with resetHeld := true }

/-- RESET_LINE_RELEASE (R174): where the line was held and the part has supply, LOADING opens. -/
def resetLineRelease (s : State) : State :=
  if s.start.resetHeld then
    let t := s.withStart { s.start with resetHeld := false }
    if s.start.supplied then openLoading .resetLine t else t
  else s

/-- SUPPLY_FAILURE (R174): the part stops running. -/
def supplyFailure (s : State) : State := s.withStart { s.start with supplied := false }

/-- POWER_ON (R174): where the supply had failed and the reset line is not held, LOADING opens. The operand says whether
retained memory stood through the failure. -/
def powerOn (retained : Bool) (s : State) : State :=
  if s.start.supplied then s
  else
    let t := s.withStart { s.start with supplied := true, retainedGood := s.start.retainedGood && retained }
    if s.start.resetHeld then t else openLoading .powerOn t

/-! ## The entry to READY (R175, R176) -/

/-- A cold start's values of everything retained memory holds (R175, R25, R45, R66, R92, R127, R146). -/
def State.coldStart (s : State) : State :=
  let t : State := { s with
    time := coldTime s.time
    day := dayProgramme0
    chime := { s.chime with quarterGuard := none }
    dials := { s.dials with dials := [] }
    floods := { s.floods with lastScene := none } }
  let t := t.each bellNumbers fun b t => t.setBell b (clearedBell (t.bell b))
  t.each circuitNumbers fun c t => t.setCircuit c { t.circuit c with sceneLevel := 0 }

/-- A warm start's values that hang on a table that started with defaults (R45, R66). -/
def State.warmStart (s : State) : State :=
  let t := if s.start.failed.contains .schedule then s.withDay { s.day with guards := [] } else s
  if s.start.failed.contains .bell then t.each bellNumbers fun b t => t.setBell b (clearedBell (t.bell b)) else t

/-- What READY brings about: the START notice first (R176), then the time base, after which the day programme takes up civil
time (R45). DESIGN CHOICE (log 57): the order of the other blocks, and that the day programme's catch-up goes before the
strike generator's, so that a quiet flag changed by an entry fired at READY governs the generator's performances of that
READY (R41 says so of the boundary, the step and the time-set event). -/
def readyMessages (start : NoticeBody) : List Msg :=
  [.notice start, .readyTime, .readyDay, .readyStrike, .readyDials, .returnFloods .start, .returnLight]

/-- LOADING_END (R175, R176): the retained check decides warm or cold, and the part enters READY. -/
def loadingEnd (s : State) : State :=
  if s.start.phase = .loading then
    let t := if s.start.retainedGood then s.warmStart else s.coldStart
    let t := t.withStart { t.start with phase := .ready, retainedGood := true }
    t.postAll (readyMessages (.start s.start.cause s.start.retainedGood s.start.failed s.power.mains s.power.access
      s.power.key))
  else s

end Sys2Proof.Machine
end

