-- ==== Sys2Proof/Machine/Link.lean ====
section
/-! DEFINITION. The link interface (chapter 11): what each request does and answers, the request slot and the answer list,
the transmitter, and the receiver. -/

namespace Sys2Proof.Machine

/-! ## The requests with fields of their own -/

/-- The values of a request's fields, or RANGE (R194). -/
def fields (rooms : List Room) (body : List Byte) (run : List Nat → State → Answer) (s : State) : Answer :=
  match unpack rooms body with
  | some v => run v s
  | none => (s, .range, [])

/-- CLEARFAULT (R192): the object types are BELL, SWING and LIGHT_SENSOR. -/
def clearfaultRequest (v : List Nat) (s : State) : Answer :=
  match v with
  | [0, n] => if n < 16 then (s.clearBellFault n, .ok, []) else (s, .range, [])
  | [1, n] => if n < 6 then (s.clearUnitFault n, .ok, []) else (s, .range, [])
  | [2, 0] => (s.clearLightMark, .ok, [])
  | _ => (s, .range, [])

/-- SETTIME (R7). DESIGN CHOICE (log 54): a field out of range while LOCKED is refused RANGE, in the order of R7's list. -/
def settimeRequest (v : List Nat) (s : State) : Answer :=
  match v with
  | [year, month, day, hour, minute, second, ms] =>
    let d : Date := { year := year, month := month, day := day }
    if !(d.valid && within 2000 2099 year && decide (hour < 24) && decide (minute < 60) && decide (second < 60) &&
        decide (ms < 1000)) then (s, .range, [])
    else if s.time.state = .locked then (s, .referenceHeld, [])
    else (s.setTime (dateMs d + timeMs hour minute second ms), .ok, [])
  | _ => (s, .range, [])

/-- QUIET (R41): ON is 0, OFF is 1. -/
def quietRequest (v : List Nat) (s : State) : Answer :=
  match v with
  | [0] => (s.withDay { s.day with quiet := true }, .ok, [])
  | [1] => (s.withDay { s.day with quiet := false }, .ok, [])
  | _ => (s, .range, [])

/-- The rooms of PLAY (R80, R194): its kind, its due's form, the longest arguments and the longest due. -/
def playRooms : List Room := [.bits 1, .bits 1, .bytes 1, .bytes 1, .bytes 1, .bytes 1, .bytes 1, .bytes 1]

/-- The arguments of PLAY: TUNE is 0, TOLL is 1 (R80). A toll's interval is in s, a stroke's in ms; it takes the hour
velocity in force. -/
def playArgs (velocity : Velocity) (kind a b c : Nat) : Option (PerfKind × PerfArgs) :=
  if kind = 0 then keepIf (a < 64 && within 1 9 b && c = 0) (.tune, .tune a b)
  else keepIf (a < 16 && within 1 240 b && within 2 60 c) (.toll, .strokes a b (c * 1000) velocity)

/-- The due of PLAY: NOW is 0, a civil time of day is 1 (R80). -/
def playDue (form hour minute second : Nat) : Option (Option Nat) :=
  if form = 0 then keepIf (hour = 0 && minute = 0 && second = 0) none
  else keepIf (hour < 24 && minute < 60 && second < 60) (some (timeMs hour minute second 0))

/-- PLAY (R80): answered OK with the id. -/
def playBody (v : List Nat) (s : State) : Answer :=
  match v with
  | [kind, form, a, b, c, hour, minute, second] =>
    match playArgs s.tables.strike.velocity kind a b c, playDue form hour minute second with
    | some args, some due =>
      let r := playRequest args.1 args.2 due s
      (r.1, r.2.1, match r.2.2 with | some id => [byte id] | none => [])
    | _, _ => (s, .range, [])
  | _ => (s, .range, [])

/-- CANCEL (R88). -/
def cancelBody (v : List Nat) (s : State) : Answer :=
  match v with
  | [id] => plain (cancelPerf id s)
  | _ => (s, .range, [])

/-- RING (R107): answered OK with the outcome, STARTED 0 or PENDING 1. -/
def ringBody (v : List Nat) (s : State) : Answer :=
  match v with
  | [u, minutes] =>
    if u < 6 && within 1 240 minutes then
      let r := ringRequest u minutes s
      (r.1, r.2.1, if r.2.1 = .ok then [byte r.2.2.toNat] else [])
    else (s, .range, [])
  | _ => (s, .range, [])

/-- HALT (R108). -/
def haltBody (v : List Nat) (s : State) : Answer :=
  match v with
  | [u] => if u < 6 then (haltRequest u s, .ok, []) else (s, .range, [])
  | _ => (s, .range, [])

/-- PEAL (R110). -/
def pealBody (v : List Nat) (s : State) : Answer :=
  match v with
  | [p] => if p < 8 then plain (startPeal p s) else (s, .range, [])
  | _ => (s, .range, [])

/-- DIALSET's rooms (R124): the polarity, the dial, and the face time. -/
def dialsetRooms : List Room := [.bits 1, .bytes 1, .bytes 1, .bytes 1, .bytes 1]

/-- DIALSET (R124): answered OK with the state and the difference, which has a presence mark, clear where the target has no
value (DEDUCED, log 18). -/
def dialsetBody (v : List Nat) (s : State) : Answer :=
  match v with
  | [polarity, d, hour, minute, second] =>
    if d < 4 && within 1 12 hour && minute < 60 && second < 60 then
      let r := dialsetRequest d (timeMs (hour % 12) minute second 0 / 1000) (if polarity = 0 then .positive else .negative) s
      (r.1, r.2, if r.2 = .ok then pack (enum 3 (r.1.dial d).state.ctorIdx ++ opt 2 (r.1.difference d)) else [])
    else (s, .range, [])
  | _ => (s, .range, [])

/-- DIALSTOP (R125): STOP is 0, RELEASE is 1. -/
def dialstopBody (v : List Nat) (s : State) : Answer :=
  match v with
  | [act, d] => if d < 4 then plain (dialstopRequest d (decide (act = 0)) s) else (s, .range, [])
  | _ => (s, .range, [])

/-- SCENE (R133). -/
def sceneBody (v : List Nat) (s : State) : Answer :=
  match v with
  | [i] => if i < 16 then plain (activateScene i s) else (s, .range, [])
  | _ => (s, .range, [])

/-- OVERRIDE (R135): the mark is set for RELEASE. -/
def overrideBody (v : List Nat) (s : State) : Answer :=
  match v with
  | [named, c, level, duration] =>
    match readAlt named level (level ≤ 100) with
    | some l => if c < 12 && duration ≤ 1440 then plain (overrideRequest c l duration s) else (s, .range, [])
    | none => (s, .range, [])
  | _ => (s, .range, [])

/-- RATE's value (R178). -/
def readRate (v : Nat) : Option Rate := readEnum [Rate.r19200, .r57600, .r115200] v

/-! ## The requests by kind (R181) -/

/-- The body length a kind requires; PUT's is its table's (R186). -/
def requiredLength (kind : Nat) : Option Nat :=
  match kind with
  | 0x03 => some 2
  | 0x04 | 0x06 => some 3
  | 0x05 => none
  | 0x07 => some 5
  | 0x0A => some 1
  | 0x10 => some 9
  | 0x12 => some 1
  | 0x18 => some (roomBytes playRooms)
  | 0x19 => some 1
  | 0x20 => some 2
  | 0x21 | 0x22 => some 1
  | 0x28 => some (roomBytes dialsetRooms)
  | 0x29 => some 2
  | 0x30 => some 1
  | 0x31 => some 5
  | _ => some 0

/-- A request executed by its owning rule, its length being right. -/
def runRequest (kind : Nat) (body : List Byte) (s : State) : Answer :=
  match kind with
  | 0x01 => (s, .ok, statusReport s)
  | 0x02 => (s.clearNewMarks, .ok, faultsReport s)
  | 0x03 => fields [.bits 2, .bytes 1] body clearfaultRequest s
  | 0x04 => getRequest body s
  | 0x05 => putRequest body s
  | 0x06 => eraseRequest body s
  | 0x07 => listRequest body s
  | 0x08 => (s.beginSave, .accepted, [])
  | 0x09 => (s, .ok, [])
  | 0x0A => (s, if (readRate (beNat body)).isSome then .ok else .range, [])
  | 0x10 => fields [.bytes 2, .bytes 1, .bytes 1, .bytes 1, .bytes 1, .bytes 1, .bytes 2] body settimeRequest s
  | 0x11 => (s, .ok, timeReport s)
  | 0x12 => fields [.bytes 1] body quietRequest s
  | 0x13 => (s, .ok, dayReport s)
  | 0x18 => fields playRooms body playBody s
  | 0x19 => fields [.bytes 1] body cancelBody s
  | 0x1A => (s, .ok, queueReport s)
  | 0x20 => fields [.bytes 1, .bytes 1] body ringBody s
  | 0x21 => fields [.bytes 1] body haltBody s
  | 0x22 => fields [.bytes 1] body pealBody s
  | 0x23 => plain (endPeal s)
  | 0x28 => fields dialsetRooms body dialsetBody s
  | 0x29 => fields [.bits 1, .bytes 1] body dialstopBody s
  | 0x30 => fields [.bytes 1] body sceneBody s
  | 0x31 => fields [.bits 1, .bytes 1, .bytes 1, .bytes 2] body overrideBody s
  | 0x32 => (s, .ok, floodReport s)
  | 0x33 => (s, .ok, lightReport s)
  | _ => (s, .ok, supplyReport s)

/-- PUT, ERASE, SAVE and RESTART (R173). -/
def writesStore (kind : Nat) : Bool := kind = 0x05 || kind = 0x06 || kind = 0x08 || kind = 0x09

/-- A frame in the slot is checked and executed (R182 step 3). -/
def judgeRequest (kind : Byte) (body : List Byte) (s : State) : Answer :=
  if !assignedKind kind then (s, .unknownKind, [])
  else if writesStore kind.toNat && s.store.saving.isSome then (s, .busy, [])
  else if (requiredLength kind.toNat).any (· ≠ body.length) then (s, .badLength, [])
  else runRequest kind.toNat body s

/-- What follows the reply's last byte (R177, R178). A RATE that names the rate in force changes nothing. -/
def followUp (kind : Byte) (body : List Byte) (status : Status) (rate : Rate) : After :=
  if status ≠ .ok then .nothing
  else if kind.toNat = 0x09 then .restart
  else if kind.toNat = 0x0A then
    match readRate (beNat body) with
    | some r => if r = rate then .nothing else .rate r
    | none => .nothing
  else .nothing

/-! ## The request slot and the answer list (R182) -/

/-- The reply to a frame of a kind (R182). -/
def replyFrame (kind : Byte) (status : Status) (fields : List Byte) : Frame :=
  if 1 ≤ kind.toNat && kind.toNat ≤ 0x3F then { kind := byte (kind.toNat + 0x80), body := byte status.ctorIdx :: fields }
  else { kind := byte 0x80, body := byte status.ctorIdx :: kind :: fields }

/-- A reply is owed. -/
def State.owe (s : State) (o : Owed) : State := s.withLink { s.link with owed := s.link.owed ++ [o] }

/-- A frame being sent loses its part in a listing that ended (R187). -/
def Sent.detached : Sent → Sent
  | .listing _ => .listing false
  | k => k

/-- The listing in progress ends (R187). -/
def State.endListing (s : State) : State :=
  s.withLink { s.link with listing := none, sending := s.link.sending.map fun f => (f.1, f.2.detached) }

/-- The receiver takes a state at a byte inside a frame (R180). -/
def State.receive (s : State) (r : Receiver) : State :=
  s.withLink { s.link with receiver := r, lastByte := some s.now }

/-- The receiver hunts for a start byte; a frame in progress is over (R180). -/
def State.hunting (s : State) : State := s.withLink { s.link with receiver := .hunting, lastByte := none }

/-- A frame is discarded (R180). -/
def State.discard (s : State) (e : LinkError) : State :=
  s.withLink { s.link with receiver := .hunting, lastByte := none, lastError := e, lastErrorTime := some s.now,
                                 errorCount := min 65535 (s.link.errorCount + 1) }

/-- A frame completes (R180, R182): answered STARTING or BUSY without effect, or taken into the slot and executed. -/
def takeFrame (kind : Byte) (body : List Byte) (s : State) : State :=
  let t := s.endListing.hunting
  if s.start.phase = .loading then t.owe { frame := replyFrame kind .starting [], slot := false, after := .nothing }
  else if s.link.slotBusy then t.owe { frame := replyFrame kind .busy [], slot := false, after := .nothing }
  else
    let t := t.withLink { t.link with slotBusy := true }
    let a := judgeRequest kind body t
    a.1.owe { frame := replyFrame kind a.2.1 a.2.2, slot := true, after := followUp kind body a.2.1 t.link.rate }

/-- What a whole frame finds of the link. DESIGN CHOICE (log 32): a frame can be heard only in HUNTING, so one still in
progress has ended by its gap, with the error GAP (R180). -/
def Link.heard (l : Link) (now : Nat) : Link :=
  let late := l.receiver ≠ .hunting
  { l with
    lastError := if late then .gap else l.lastError
    lastErrorTime := if late then some now else l.lastErrorTime
    errorCount := if late then min 65535 (l.errorCount + 1) else l.errorCount }

/-- A frame of the host arrives whole (log 32). -/
def wholeFrame (kind : Byte) (body : List Byte) (s : State) : State :=
  takeFrame kind body (s.withLink (s.link.heard s.now))

/-! ## The transmitter (R183) -/

/-- A frame begins: its bytes go on the line whole (R179, R183). -/
def State.send (s : State) (f : Frame) (k : Sent) : State := s.withLink { s.link with sending := some (f.wire, k) }

/-- The listing frame of the next used entry (R187): table, index, last mark, and the record read now. -/
def State.sendListing (s : State) (l : Listing) : State :=
  let following := s.nextUsed l.table (l.next + 1) l.last
  let t := s.withLink { s.link with
    listing := match following with | some i => some { l with next := i } | none => some l }
  t.send
    { kind := 0x60
      body := byte l.table :: (beBytes 2 l.next ++ byte following.isNone.toNat :: recordBytes s l.table l.next) }
    (.listing following.isNone)

/-- The transmitter, where it is IDLE, begins the first frame that waits (R183). -/
def State.pump (s : State) : State :=
  if !s.running then s
  else match s.link.sending, s.link.owed, s.link.listing, s.link.notices with
    | some _, _, _, _ => s
    | none, o :: owed, _, _ => (s.withLink { s.link with owed := owed }).send o.frame (.reply o.slot o.after)
    | none, [], some l, _ => s.sendListing l
    | none, [], none, n :: notices => (s.withLink { s.link with notices := notices }).send (noticeFrame n) .notice
    | none, [], none, [] => s

/-- What the end of a frame brings about (R178, R182, R187). -/
def State.sent (s : State) : Sent → State
  | .reply true (.rate r) =>
    s.withLink { s.link with slotBusy := false, rate := r, receiver := .hunting, lastByte := none }
  | .reply true .restart => openLoading .restart s
  | .reply true .nothing => s.withLink { s.link with slotBusy := false }
  | .listing true => s.withLink { s.link with listing := none }
  | _ => s

/-- TRANSMIT_FRAME_END (R183): the next frame begins when the command ends. -/
def transmitFrameEnd (s : State) : State :=
  match s.link.sending with
  | some (_, k) => (s.withLink { s.link with sending := none }).sent k
  | none => s

/-! ## The receiver (R180) -/

/-- A byte in HUNTING (R180). -/
def State.hunt (s : State) (b : RxByte) : State := if b.stop && b.value = 0xC3 then s.receive .length else s

/-- A byte inside a frame, in time and with its stop bit (R179, R180). -/
def State.takeByte (s : State) (v : Byte) : State :=
  match s.link.receiver with
  | .hunting => s
  | .length => if within 1 250 v.toNat then s.receive (.frame v.toNat []) else s.discard .length
  | .frame n got =>
    let got := got ++ [v]
    s.receive (if n ≤ got.length then .check got none else .frame n got)
  | .check got none => s.receive (.check got (some v))
  | .check got (some high) =>
    match got with
    | kind :: body =>
      if beNat [high, v] = crc (byte got.length :: got) then takeFrame kind body s else s.discard .check
    | [] => s.discard .check

/-- More than 20 ms have passed since the last byte of the frame in progress (R180). -/
def State.gapped (s : State) : Bool := s.link.lastByte.any fun last => decide (Config.frameGap < s.now - last)

/-- A byte of the line (R180). -/
def receiveByte (b : RxByte) (s : State) : State :=
  let s := s.withTime (s.time.advance b.gap)
  if s.link.receiver = .hunting then s.hunt b
  else if s.gapped then (s.discard .gap).hunt b
  else if !b.stop then s.discard .framing
  else s.takeByte b.value

end Sys2Proof.Machine
end

