-- ==== Sys2Proof/Machine/Cascade.lean ====
section
/-! DEFINITION. What one block's message does in another, the order in which the messages of one command are handled
(log 3), and the frame every command's effect stands in. -/

namespace Sys2Proof.Machine

/-- A grant told to its claimant (R161). -/
def grantTold (c : Claimant) (units : Nat) (s : State) : State :=
  match c with
  | .hammer b => hammerGranted b units s
  | .dial d => dialGranted d units s
  | .swing u => swingGranted u units s
  | .flood c => floodGranted c units s

/-- The light monitor at a mains return and at READY (R151): a sample at once, mains being NORMAL. -/
def returnLight (s : State) : State := if s.mainsNormal then s.sampleNow else s

/-- A message handled by its block. -/
def handle : Msg → State → State
  | .notice n => fun s => s.takeNotice n
  | .granted c units => grantTold c units
  | .shedSet => shedSet
  | .shedClear => shedClear
  | .report b => strikeableReport b
  | .blow b v id => blowRequest b v id
  | .noteDealt => noteDealt
  | .withdraw b id => withdrawBlow b id
  | .release bells id => releaseBells bells id
  | .completeRelease b => completeRelease b
  | .releaseCheck => releaseCheck
  | .abort reason id => abortPlaying reason id
  | .handed u => unitHanded u
  | .failed u reason => unitFailed u reason
  | .startStep => takeStartStep
  | .judgeEntry e minute now => judgeEntry e minute now
  | .minuteDay m => minuteDay m
  | .minuteStrike m => minuteStrike m
  | .stepDay old new => stepDay old new
  | .stepStrike old new => stepStrike old new
  | .stepDials civil => stepDials civil
  | .timeSetDay civil => timeSetDay civil
  | .timeSetStrike civil => timeSetStrike civil
  | .timeSetDials civil => timeSetDials civil
  | .unsetDials => unsetDials
  | .unsetFloods => unsetFloods
  | .transitionDay st => transitionDay st
  | .transitionFloods st => transitionFloods st
  | .judgeCircuits l cause => judgeCircuits l cause
  | .returnDials cause => returnDials cause
  | .returnFloods cause => returnFloods cause
  | .returnLight => returnLight
  | .accessBells => accessBells
  | .accessSwing => accessSwing
  | .accessRun => accessRun
  | .accessFloods => accessFloods
  | .readyTime => readyTime
  | .readyDay => readyDay
  | .readyStrike => readyStrike
  | .readyDials => readyDials

/-- What comes about by itself once no message is left: the run's return to IDLE (R111), then the start of a due head
(R81, log 4). -/
def State.standing (s : State) : Option State :=
  match s.finishRun with
  | some t => some t
  | none => s.dueHead.map s.tryHead

/-- The first message is handled, and what it causes before the rest (log 3). -/
def State.handleFirst (s : State) (m : Msg) (rest : List Msg) : State :=
  let t := handle m (s.withAgenda [])
  t.withAgenda (t.agenda ++ rest)

/-- The messages of a command are handled until none is left and nothing comes about by itself. -/
def State.drain : Nat → State → State
  | 0, s => s.withAgenda []
  | n + 1, s =>
    match s.agenda with
    | m :: rest => (s.handleFirst m rest).drain n
    | [] =>
      match s.standing with
      | some t => t.drain n
      | none => s

/-- The end of a command: its messages, and the transmitter. In LOADING nothing is handed to a block, and no notice is
queued (R174, R176). -/
def State.finish (s : State) : State :=
  if s.ready then (s.drain Config.agendaFuel).pump else (s.withAgenda []).pump

/-- A command's effect, while the part runs (log 33). -/
def command (f : State → State) (s : State) : State := if s.running then (f s).finish else s

/-- A command that has an effect from READY only. -/
def readyCommand (f : State → State) (s : State) : State := if s.ready then (f s).finish else s

end Sys2Proof.Machine
end

