-- ==== Sys2Proof/Machine/Events.lean ====
section
/-! DEFINITION. The meanings of the events: what happens on the lines, and what the part's own timers bring about. -/

namespace Sys2Proof.Machine

/-! ## The serial line -/

/-- FRAME_DISCARDED (R180): the bytes reach the receiver one after another. -/
def execFrameDiscarded (bytes : List RxByte) (s : State) : Host.Outcome State Fault Refusal :=
  .next (bytes.foldl (fun t b => command (receiveByte b) t) s)

/-- TRANSMIT_FRAME_END (R183). -/
def execTransmitFrameEnd (s : State) : Host.Outcome State Fault Refusal := .next (command transmitFrameEnd s)

/-! ## The time base -/

/-- CIVIL_MINUTE_BOUNDARY (R4). -/
def execCivilMinuteBoundary (s : State) : Host.Outcome State Fault Refusal := .next (readyCommand civilMinuteBoundary s)

/-- CIVIL_HALF_MINUTE_BOUNDARY (R4). -/
def execCivilHalfMinuteBoundary (s : State) : Host.Outcome State Fault Refusal :=
  .next (readyCommand civilHalfMinuteBoundary s)

/-- KEPT_SECOND_END (R3). -/
def execKeptSecondEnd (s : State) : Host.Outcome State Fault Refusal := .next (readyCommand keptSecondEnd s)

/-- RANGE_END (R2). -/
def execRangeEnd (s : State) : Host.Outcome State Fault Refusal := .next (readyCommand rangeEnd s)

/-- SEASONAL_INSTANT (R21). -/
def execSeasonalInstant (s : State) : Host.Outcome State Fault Refusal := .next (readyCommand seasonalInstant s)

/-- LOSS_OF_LOCK (R6). -/
def execLossOfLock (s : State) : Host.Outcome State Fault Refusal := .next (readyCommand lossOfLock s)

/-- HOLDOVER_LIMIT (R6). -/
def execHoldoverLimit (s : State) : Host.Outcome State Fault Refusal := .next (readyCommand holdoverLimit s)

/-! ## The reference monitor -/

/-- TELEGRAM_RECORD (R13). -/
def execTelegramRecord (chars : List Byte) (s : State) : Host.Outcome State Fault Refusal :=
  .next (readyCommand (telegramRecord chars) s)

/-- TELEGRAM_RECORD_TIMEOUT (R12). -/
def execTelegramRecordTimeout (s : State) : Host.Outcome State Fault Refusal :=
  .next (readyCommand telegramRecordTimeout s)

/-- TELEGRAM_MARK (R14). -/
def execTelegramMark (s : State) : Host.Outcome State Fault Refusal := .next (readyCommand telegramMark s)

/-- TELEGRAM_MARK_DEADLINE (R14). -/
def execTelegramMarkDeadline (s : State) : Host.Outcome State Fault Refusal :=
  .next (readyCommand telegramMarkDeadline s)

/-- TELEGRAM_SILENCE (R16). -/
def execTelegramSilence (s : State) : Host.Outcome State Fault Refusal := .next (readyCommand telegramSilence s)

/-- SECOND_MARK_EDGE (R17). -/
def execSecondMarkEdge (s : State) : Host.Outcome State Fault Refusal := .next (readyCommand secondMarkEdge s)

/-- SECOND_MARK_TIMEOUT (R17). -/
def execSecondMarkTimeout (s : State) : Host.Outcome State Fault Refusal := .next (readyCommand secondMarkTimeout s)

/-- SKEW_DECISION_TIMEOUT (R18). -/
def execSkewDecisionTimeout (s : State) : Host.Outcome State Fault Refusal := .next (readyCommand skewDecisionTimeout s)

/-! ## The chime player -/

/-- HEAD_DUE (R81). -/
def execHeadDue (s : State) : Host.Outcome State Fault Refusal := .next (readyCommand headDue s)

/-- START_DEADLINE (R83). -/
def execStartDeadline (id : Fin 256) (s : State) : Host.Outcome State Fault Refusal :=
  .next (readyCommand (startDeadline id.val) s)

/-- NOTE_DUE (R84). -/
def execNoteDue (s : State) : Host.Outcome State Fault Refusal := .next (readyCommand noteDue s)

/-- NOTE_WAIT_EXPIRY (R85). -/
def execNoteWaitExpiry (s : State) : Host.Outcome State Fault Refusal := .next (readyCommand noteWaitExpiry s)

/-- TAIL_END (R87). -/
def execTailEnd (s : State) : Host.Outcome State Fault Refusal := .next (readyCommand tailEnd s)

/-! ## The hammers -/

/-- PULSE_END (R58). -/
def execPulseEnd (bell : Fin 16) (s : State) : Host.Outcome State Fault Refusal :=
  .next (readyCommand (pulseEnd bell.val) s)

/-- RECOVERY_END (R58). -/
def execRecoveryEnd (bell : Fin 16) (s : State) : Host.Outcome State Fault Refusal :=
  .next (readyCommand (recoveryEnd bell.val) s)

/-- SENSE_INSTANT (R62). -/
def execSenseInstant (bell : Fin 16) (s : State) : Host.Outcome State Fault Refusal :=
  .next (readyCommand (senseInstant bell.val) s)

/-! ## The swing units -/

/-- REVERSAL (R95). -/
def execReversal (unit : Fin 6) (s : State) : Host.Outcome State Fault Refusal := .next (command (reversal unit.val) s)

/-- INDEX_CROSSING (R96). -/
def execIndexCrossing (unit : Fin 6) (s : State) : Host.Outcome State Fault Refusal :=
  .next (command (indexCrossing unit.val) s)

/-- RAISE_LIMIT_EXPIRY (R100). -/
def execRaiseLimitExpiry (unit : Fin 6) (s : State) : Host.Outcome State Fault Refusal :=
  .next (readyCommand (raiseLimitExpiry unit.val) s)

/-- DRIVE_WINDOW_EXPIRY (R101). -/
def execDriveWindowExpiry (unit : Fin 6) (s : State) : Host.Outcome State Fault Refusal :=
  .next (readyCommand (driveWindowExpiry unit.val) s)

/-- DRIVE_IMPULSE_END (R101). -/
def execDriveImpulseEnd (unit : Fin 6) (s : State) : Host.Outcome State Fault Refusal :=
  .next (readyCommand (driveImpulseEnd unit.val) s)

/-- RING_END (R102). -/
def execRingEnd (unit : Fin 6) (s : State) : Host.Outcome State Fault Refusal :=
  .next (readyCommand (ringEnd unit.val) s)

/-- NO_TURN_TIMEOUT (R102). -/
def execNoTurnTimeout (unit : Fin 6) (s : State) : Host.Outcome State Fault Refusal :=
  .next (readyCommand (noTurnTimeout unit.val) s)

/-- LOWER_LIMIT_EXPIRY (R102). -/
def execLowerLimitExpiry (unit : Fin 6) (s : State) : Host.Outcome State Fault Refusal :=
  .next (readyCommand (lowerLimitExpiry unit.val) s)

/-- SETTLE_TIMER_EXPIRY (R103). -/
def execSettleTimerExpiry (unit : Fin 6) (s : State) : Host.Outcome State Fault Refusal :=
  .next (command (settleTimerExpiry unit.val) s)

/-! ## The peal run -/

/-- START_STEP (R110). -/
def execStartStep (s : State) : Host.Outcome State Fault Refusal := .next (readyCommand startStep s)

/-- PEAL_END_INSTANT (R111). -/
def execPealEndInstant (s : State) : Host.Outcome State Fault Refusal := .next (readyCommand pealEndInstant s)

/-- STOP_STEP (R111). -/
def execStopStep (s : State) : Host.Outcome State Fault Refusal := .next (readyCommand stopStep s)

/-! ## The dials -/

/-- DIAL_SPACING_EXPIRY (R119). -/
def execDialSpacingExpiry (dial : Fin 4) (s : State) : Host.Outcome State Fault Refusal :=
  .next (readyCommand (dialSpacingExpiry dial.val) s)

/-- DIAL_IMPULSE_END (R120). -/
def execDialImpulseEnd (dial : Fin 4) (s : State) : Host.Outcome State Fault Refusal :=
  .next (readyCommand (dialImpulseEnd dial.val) s)

/-! ## The floodlights -/

/-- WARM_UP_END (R137). -/
def execWarmUpEnd (circuit : Fin 12) (s : State) : Host.Outcome State Fault Refusal :=
  .next (readyCommand (warmUpEnd circuit.val) s)

/-- RESTRIKE_END (R137). -/
def execRestrikeEnd (circuit : Fin 12) (s : State) : Host.Outcome State Fault Refusal :=
  .next (command (restrikeEnd circuit.val) s)

/-- FADE_STEP (R138). -/
def execFadeStep (circuit : Fin 12) (s : State) : Host.Outcome State Fault Refusal :=
  .next (readyCommand (fadeStep circuit.val) s)

/-- OVERRIDE_EXPIRY (R135). -/
def execOverrideExpiry (circuit : Fin 12) (s : State) : Host.Outcome State Fault Refusal :=
  .next (readyCommand (overrideExpiry circuit.val) s)

/-! ## The light monitor and the converter -/

/-- SAMPLE_INSTANT (R151). -/
def execSampleInstant (s : State) : Host.Outcome State Fault Refusal := .next (readyCommand sampleInstant s)

/-- CONVERSION_END (R147). -/
def execConversionEnd (reading : Fin 1024) (s : State) : Host.Outcome State Fault Refusal :=
  .next (readyCommand (conversionEnd reading.val) s)

/-! ## The supply arbiter -/

/-- SHED_TIMER_EXPIRY (R164). -/
def execShedTimerExpiry (claimant : Claimant) (s : State) : Host.Outcome State Fault Refusal :=
  .next (readyCommand (shedTimerExpiry claimant) s)

/-! ## The power monitor -/

/-- MAINS_LINE_ABSENT (R168). -/
def execMainsLineAbsent (s : State) : Host.Outcome State Fault Refusal := .next (mainsLineAbsent s).finish

/-- MAINS_LINE_PRESENT (R168). -/
def execMainsLinePresent (s : State) : Host.Outcome State Fault Refusal := .next (mainsLinePresent s).finish

/-- MAINS_SETTLE_EXPIRY (R168). -/
def execMainsSettleExpiry (s : State) : Host.Outcome State Fault Refusal := .next (command mainsSettleExpiry s)

/-- ACCESS_SWITCH_CHANGE (R170). -/
def execAccessSwitchChange (shows : Access) (s : State) : Host.Outcome State Fault Refusal :=
  .next (accessSwitchChange shows s).finish

/-- ACCESS_TIMER_EXPIRY (R170). -/
def execAccessTimerExpiry (s : State) : Host.Outcome State Fault Refusal := .next (command accessTimerExpiry s)

/-- KEY_SWITCH_CHANGE (R171). -/
def execKeySwitchChange (shows : Key) (s : State) : Host.Outcome State Fault Refusal :=
  .next (keySwitchChange shows s).finish

/-- KEY_TIMER_EXPIRY (R171). -/
def execKeyTimerExpiry (s : State) : Host.Outcome State Fault Refusal := .next (command keyTimerExpiry s)

/-! ## The store and the start -/

/-- SAVE_TABLE_WRITTEN (R173). -/
def execSaveTableWritten (readBack : Bool) (s : State) : Host.Outcome State Fault Refusal :=
  .next (readyCommand (saveTableWritten readBack) s)

/-- RESET_LINE_HELD (R174). -/
def execResetLineHeld (s : State) : Host.Outcome State Fault Refusal := .next (resetLineHeld s)

/-- RESET_LINE_RELEASE (R174). -/
def execResetLineRelease (s : State) : Host.Outcome State Fault Refusal := .next (resetLineRelease s)

/-- SUPPLY_FAILURE (R174). -/
def execSupplyFailure (s : State) : Host.Outcome State Fault Refusal := .next (supplyFailure s)

/-- POWER_ON (R174). -/
def execPowerOn (retained : Bool) (s : State) : Host.Outcome State Fault Refusal := .next (powerOn retained s)

/-- LOADING_END (R175). -/
def execLoadingEnd (s : State) : Host.Outcome State Fault Refusal := .next (command loadingEnd s)

/-! ## The encoders -/

/-- ENCODER_EDGE (R95). -/
def execEncoderEdge (unit : Fin 6) (dir : Dir) (s : State) : Host.Outcome State Fault Refusal :=
  .next (command (encoderEdge unit.val dir) s)

end Sys2Proof.Machine
end

