-- ==== Sys2Proof/Machine/Requests.lean ====
section
/-! DEFINITION. The meanings of the host requests: each is a frame of its kind that arrives whole (R180-R182). What a
request does is in Machine/Link.lean by its kind. -/

namespace Sys2Proof.Machine

/-- A whole frame of a kind arrives (R182). -/
def frameCommand (kind : Byte) (body : List Byte) (s : State) : Host.Outcome State Fault Refusal :=
  .next (command (wholeFrame kind body) s)

/-- STATUS (R191). -/
def execStatus (body : List Byte) (s : State) : Host.Outcome State Fault Refusal := frameCommand 0x01 body s

/-- FAULTS (R192). -/
def execFaults (body : List Byte) (s : State) : Host.Outcome State Fault Refusal := frameCommand 0x02 body s

/-- CLEARFAULT (R192). -/
def execClearfault (body : List Byte) (s : State) : Host.Outcome State Fault Refusal := frameCommand 0x03 body s

/-- GET (R185). -/
def execGet (body : List Byte) (s : State) : Host.Outcome State Fault Refusal := frameCommand 0x04 body s

/-- PUT (R186). -/
def execPut (body : List Byte) (s : State) : Host.Outcome State Fault Refusal := frameCommand 0x05 body s

/-- ERASE (R186). -/
def execErase (body : List Byte) (s : State) : Host.Outcome State Fault Refusal := frameCommand 0x06 body s

/-- LIST (R187). -/
def execList (body : List Byte) (s : State) : Host.Outcome State Fault Refusal := frameCommand 0x07 body s

/-- SAVE (R173). -/
def execSave (body : List Byte) (s : State) : Host.Outcome State Fault Refusal := frameCommand 0x08 body s

/-- RESTART (R177). -/
def execRestart (body : List Byte) (s : State) : Host.Outcome State Fault Refusal := frameCommand 0x09 body s

/-- RATE (R178). -/
def execRate (body : List Byte) (s : State) : Host.Outcome State Fault Refusal := frameCommand 0x0A body s

/-- SETTIME (R7). -/
def execSettime (body : List Byte) (s : State) : Host.Outcome State Fault Refusal := frameCommand 0x10 body s

/-- TIMEINFO (R24). -/
def execTimeinfo (body : List Byte) (s : State) : Host.Outcome State Fault Refusal := frameCommand 0x11 body s

/-- QUIET (R41). -/
def execQuiet (body : List Byte) (s : State) : Host.Outcome State Fault Refusal := frameCommand 0x12 body s

/-- DAYINFO (R44). -/
def execDayinfo (body : List Byte) (s : State) : Host.Outcome State Fault Refusal := frameCommand 0x13 body s

/-- PLAY (R80). -/
def execPlay (body : List Byte) (s : State) : Host.Outcome State Fault Refusal := frameCommand 0x18 body s

/-- CANCEL (R88). -/
def execCancel (body : List Byte) (s : State) : Host.Outcome State Fault Refusal := frameCommand 0x19 body s

/-- QUEUE (R90). -/
def execQueue (body : List Byte) (s : State) : Host.Outcome State Fault Refusal := frameCommand 0x1A body s

/-- RING (R107). -/
def execRing (body : List Byte) (s : State) : Host.Outcome State Fault Refusal := frameCommand 0x20 body s

/-- HALT (R108). -/
def execHalt (body : List Byte) (s : State) : Host.Outcome State Fault Refusal := frameCommand 0x21 body s

/-- PEAL (R110). -/
def execPeal (body : List Byte) (s : State) : Host.Outcome State Fault Refusal := frameCommand 0x22 body s

/-- ENDPEAL (R112). -/
def execEndpeal (body : List Byte) (s : State) : Host.Outcome State Fault Refusal := frameCommand 0x23 body s

/-- DIALSET (R124). -/
def execDialset (body : List Byte) (s : State) : Host.Outcome State Fault Refusal := frameCommand 0x28 body s

/-- DIALSTOP (R125). -/
def execDialstop (body : List Byte) (s : State) : Host.Outcome State Fault Refusal := frameCommand 0x29 body s

/-- SCENE (R133). -/
def execScene (body : List Byte) (s : State) : Host.Outcome State Fault Refusal := frameCommand 0x30 body s

/-- OVERRIDE (R135). -/
def execOverride (body : List Byte) (s : State) : Host.Outcome State Fault Refusal := frameCommand 0x31 body s

/-- FLOODINFO (R145). -/
def execFloodinfo (body : List Byte) (s : State) : Host.Outcome State Fault Refusal := frameCommand 0x32 body s

/-- LIGHTINFO (R156). -/
def execLightinfo (body : List Byte) (s : State) : Host.Outcome State Fault Refusal := frameCommand 0x33 body s

/-- SUPPLYINFO (R166). -/
def execSupplyinfo (body : List Byte) (s : State) : Host.Outcome State Fault Refusal := frameCommand 0x34 body s

/-- UNKNOWN_KIND_FRAME (R182). -/
def execUnknownKindFrame (kind : Byte) (body : List Byte) (s : State) : Host.Outcome State Fault Refusal :=
  frameCommand kind body s

end Sys2Proof.Machine
end

