-- ==== Sys2Proof/Machine/Dispatch.lean ====
section
/-! DEFINITION. Every command has its meaning: one arm for each. -/

namespace Sys2Proof.Machine

def exec (i : Instr) (s : State) : Host.Outcome State Fault Refusal :=
  match i with
  | .status body => Sys2Proof.Machine.execStatus body s
  | .faults body => Sys2Proof.Machine.execFaults body s
  | .clearfault body => Sys2Proof.Machine.execClearfault body s
  | .get body => Sys2Proof.Machine.execGet body s
  | .put body => Sys2Proof.Machine.execPut body s
  | .erase body => Sys2Proof.Machine.execErase body s
  | .list body => Sys2Proof.Machine.execList body s
  | .save body => Sys2Proof.Machine.execSave body s
  | .restart body => Sys2Proof.Machine.execRestart body s
  | .rate body => Sys2Proof.Machine.execRate body s
  | .settime body => Sys2Proof.Machine.execSettime body s
  | .timeinfo body => Sys2Proof.Machine.execTimeinfo body s
  | .quiet body => Sys2Proof.Machine.execQuiet body s
  | .dayinfo body => Sys2Proof.Machine.execDayinfo body s
  | .play body => Sys2Proof.Machine.execPlay body s
  | .cancel body => Sys2Proof.Machine.execCancel body s
  | .queue body => Sys2Proof.Machine.execQueue body s
  | .ring body => Sys2Proof.Machine.execRing body s
  | .halt body => Sys2Proof.Machine.execHalt body s
  | .peal body => Sys2Proof.Machine.execPeal body s
  | .endpeal body => Sys2Proof.Machine.execEndpeal body s
  | .dialset body => Sys2Proof.Machine.execDialset body s
  | .dialstop body => Sys2Proof.Machine.execDialstop body s
  | .scene body => Sys2Proof.Machine.execScene body s
  | .override body => Sys2Proof.Machine.execOverride body s
  | .floodinfo body => Sys2Proof.Machine.execFloodinfo body s
  | .lightinfo body => Sys2Proof.Machine.execLightinfo body s
  | .supplyinfo body => Sys2Proof.Machine.execSupplyinfo body s
  | .unknownKindFrame kind body => Sys2Proof.Machine.execUnknownKindFrame kind body s
  | .frameDiscarded bytes => Sys2Proof.Machine.execFrameDiscarded bytes s
  | .transmitFrameEnd => Sys2Proof.Machine.execTransmitFrameEnd s
  | .civilMinuteBoundary => Sys2Proof.Machine.execCivilMinuteBoundary s
  | .civilHalfMinuteBoundary => Sys2Proof.Machine.execCivilHalfMinuteBoundary s
  | .keptSecondEnd => Sys2Proof.Machine.execKeptSecondEnd s
  | .rangeEnd => Sys2Proof.Machine.execRangeEnd s
  | .seasonalInstant => Sys2Proof.Machine.execSeasonalInstant s
  | .lossOfLock => Sys2Proof.Machine.execLossOfLock s
  | .holdoverLimit => Sys2Proof.Machine.execHoldoverLimit s
  | .telegramRecord chars => Sys2Proof.Machine.execTelegramRecord chars s
  | .telegramRecordTimeout => Sys2Proof.Machine.execTelegramRecordTimeout s
  | .telegramMark => Sys2Proof.Machine.execTelegramMark s
  | .telegramMarkDeadline => Sys2Proof.Machine.execTelegramMarkDeadline s
  | .telegramSilence => Sys2Proof.Machine.execTelegramSilence s
  | .secondMarkEdge => Sys2Proof.Machine.execSecondMarkEdge s
  | .secondMarkTimeout => Sys2Proof.Machine.execSecondMarkTimeout s
  | .skewDecisionTimeout => Sys2Proof.Machine.execSkewDecisionTimeout s
  | .headDue => Sys2Proof.Machine.execHeadDue s
  | .startDeadline id => Sys2Proof.Machine.execStartDeadline id s
  | .noteDue => Sys2Proof.Machine.execNoteDue s
  | .noteWaitExpiry => Sys2Proof.Machine.execNoteWaitExpiry s
  | .tailEnd => Sys2Proof.Machine.execTailEnd s
  | .pulseEnd bell => Sys2Proof.Machine.execPulseEnd bell s
  | .recoveryEnd bell => Sys2Proof.Machine.execRecoveryEnd bell s
  | .senseInstant bell => Sys2Proof.Machine.execSenseInstant bell s
  | .reversal unit => Sys2Proof.Machine.execReversal unit s
  | .indexCrossing unit => Sys2Proof.Machine.execIndexCrossing unit s
  | .raiseLimitExpiry unit => Sys2Proof.Machine.execRaiseLimitExpiry unit s
  | .driveWindowExpiry unit => Sys2Proof.Machine.execDriveWindowExpiry unit s
  | .driveImpulseEnd unit => Sys2Proof.Machine.execDriveImpulseEnd unit s
  | .ringEnd unit => Sys2Proof.Machine.execRingEnd unit s
  | .noTurnTimeout unit => Sys2Proof.Machine.execNoTurnTimeout unit s
  | .lowerLimitExpiry unit => Sys2Proof.Machine.execLowerLimitExpiry unit s
  | .settleTimerExpiry unit => Sys2Proof.Machine.execSettleTimerExpiry unit s
  | .startStep => Sys2Proof.Machine.execStartStep s
  | .pealEndInstant => Sys2Proof.Machine.execPealEndInstant s
  | .stopStep => Sys2Proof.Machine.execStopStep s
  | .dialSpacingExpiry dial => Sys2Proof.Machine.execDialSpacingExpiry dial s
  | .dialImpulseEnd dial => Sys2Proof.Machine.execDialImpulseEnd dial s
  | .warmUpEnd circuit => Sys2Proof.Machine.execWarmUpEnd circuit s
  | .restrikeEnd circuit => Sys2Proof.Machine.execRestrikeEnd circuit s
  | .fadeStep circuit => Sys2Proof.Machine.execFadeStep circuit s
  | .overrideExpiry circuit => Sys2Proof.Machine.execOverrideExpiry circuit s
  | .sampleInstant => Sys2Proof.Machine.execSampleInstant s
  | .conversionEnd reading => Sys2Proof.Machine.execConversionEnd reading s
  | .shedTimerExpiry claimant => Sys2Proof.Machine.execShedTimerExpiry claimant s
  | .mainsLineAbsent => Sys2Proof.Machine.execMainsLineAbsent s
  | .mainsLinePresent => Sys2Proof.Machine.execMainsLinePresent s
  | .mainsSettleExpiry => Sys2Proof.Machine.execMainsSettleExpiry s
  | .accessSwitchChange shows => Sys2Proof.Machine.execAccessSwitchChange shows s
  | .accessTimerExpiry => Sys2Proof.Machine.execAccessTimerExpiry s
  | .keySwitchChange shows => Sys2Proof.Machine.execKeySwitchChange shows s
  | .keyTimerExpiry => Sys2Proof.Machine.execKeyTimerExpiry s
  | .saveTableWritten readBack => Sys2Proof.Machine.execSaveTableWritten readBack s
  | .resetLineHeld => Sys2Proof.Machine.execResetLineHeld s
  | .resetLineRelease => Sys2Proof.Machine.execResetLineRelease s
  | .supplyFailure => Sys2Proof.Machine.execSupplyFailure s
  | .powerOn retained => Sys2Proof.Machine.execPowerOn retained s
  | .loadingEnd => Sys2Proof.Machine.execLoadingEnd s
  | .encoderEdge unit dir => Sys2Proof.Machine.execEncoderEdge unit dir s

end Sys2Proof.Machine
end

