-- ==== Sys2Proof/Machine/Outputs.lean ====
section
/-! DEFINITION. What the part's output lines show: the sixteen hammers, the six swing drives, the four dials and the twelve
circuits. They are read from the blocks' states, and every one is off while the part does not run (R174). -/

namespace Sys2Proof.Machine

/-- The drive is in IMPULSE (R101). -/
def Drive.impulsing : Drive → Bool
  | .impulse .. => true
  | _ => false

/-- The circuit's driver is on (R136, R138). -/
def CircuitState.lit : CircuitState → Bool
  | .warming | .on => true
  | _ => false

/-- A hammer's output: on from a pulse's start to its end (R57, R58). -/
def State.hammerOutput (s : State) (b : Nat) : Bool := s.running && (s.bell b).hammer.pulses

/-- A swing drive's output: the direction driven (R101). -/
def State.swingOutput (s : State) (u : Nat) : Option Dir :=
  if !s.running then none
  else match (s.unit u).drive with
    | .impulse dir _ => some dir
    | _ => none

/-- A dial's output: the polarity of its impulse, the one last used (R117, R120). -/
def State.dialOutput (s : State) (d : Nat) : Option Dir :=
  if s.running && (s.dial d).drive.impulsing then (s.dial d).last else none

/-- A circuit's output level, in % (R130, R136, R138). -/
def State.circuitOutput (s : State) (c : Nat) : Nat :=
  if s.running && (s.circuit c).state.lit then (s.circuit c).output (s.circuitRec c).kind else 0

end Sys2Proof.Machine
end

