-- ==== Sys2Proof/Safety.lean ====
section
/-! DEFINITION. What the model's statements call sound: what every step keeps of a state. No command of the part stops:
every one has a next state. -/

namespace Sys2Proof.Machine

/-- An outcome that is a next state. -/
def completes (o : Host.Outcome State Fault Refusal) : Prop := ∃ t, o = .next t

/-- Every driver of the sixteen bells, six units, four dials and twelve circuits is off (R168). -/
def State.dark (s : State) : Prop :=
  (∀ b < 16, (s.bell b).hammer.pulses = false) ∧ (∀ u < 6, (s.unit u).drive.impulsing = false) ∧
    (∀ d < 4, (s.dial d).drive.impulsing = false) ∧ (∀ c < 12, (s.circuit c).state.lit = false)

/-- Nothing is driven while mains is not NORMAL (R168), or in LOADING (R174). -/
def State.darkWithoutMains (s : State) : Prop := s.mainsNormal = false ∨ s.start.phase = .loading → s.dark

/-- The units granted do not exceed the budget (R161). -/
def State.supplySound (s : State) : Prop := s.supply.total ≤ s.tables.supply.budget

/-- The strike queue (R79) and the notice queue (R189) hold no more than their places. -/
def State.queuesBounded (s : State) : Prop :=
  s.chime.queue.length ≤ Config.queuePlaces ∧ s.link.notices.length ≤ Config.noticePlaces

/-- The tables of the objects' dynamic fields and the grant records are in canonical form (log 34). -/
def State.objectsCanonical (s : State) : Prop :=
  Table.wf 0 s.supply.grants = true ∧ Table.wf bell0 s.bells = true ∧ Table.wf unit0 s.units = true ∧ Table.wf dial0 s.dials.dials = true ∧
    Table.wf circuit0 s.floods.circuits = true ∧ Table.wf none s.day.guards = true

/-- The eleven record tables of a set are in canonical form (log 34). -/
def Tables.canonical (t : Tables) : Prop :=
  Table.wf bellRec0 t.bell = true ∧ Table.wf swingRec0 t.swing = true ∧ Table.wf plan0 t.plan = true ∧
    Table.wf tune0 t.tune = true ∧ Table.wf note0 t.note = true ∧ Table.wf dialRec0 t.dial = true ∧
    Table.wf circuitRec0 t.circuit = true ∧ Table.wf scene0 t.scene = true ∧ Table.wf entry0 t.schedule = true ∧
    Table.wf special0 t.special = true ∧ Table.wf sun0 t.sun = true

/-- The tables in use and the stored tables are in canonical form (log 34). -/
def State.tablesCanonical (s : State) : Prop := s.tables.canonical ∧ s.store.stored.canonical

/-- No message is left to handle (log 3). -/
def State.settled (s : State) : Prop := s.agenda = []

end Sys2Proof.Machine
end

