-- ==== Sys2Proof/Certificates/Slice0/Obligations.lean ====
section
/-! DEFINITION. The statements put to the provers. Most give the next state of a command in the form `x.finish`: `x` is
the state with the command's own effect and the messages and notices it hands on, written out from the rule; `finish` is
their handling (log 3), of which `MessagesOfACommand` says what it can do. -/

namespace Sys2Proof.Claims

open Sys2Proof.Machine

/-! ## Words of the statements -/

/-- The frame a host request stands for: its kind of R181 and its body. -/
def frameOf : Instr → Option (Byte × List Byte)
  | .status b => some (0x01, b)
  | .faults b => some (0x02, b)
  | .clearfault b => some (0x03, b)
  | .get b => some (0x04, b)
  | .put b => some (0x05, b)
  | .erase b => some (0x06, b)
  | .list b => some (0x07, b)
  | .save b => some (0x08, b)
  | .restart b => some (0x09, b)
  | .rate b => some (0x0A, b)
  | .settime b => some (0x10, b)
  | .timeinfo b => some (0x11, b)
  | .quiet b => some (0x12, b)
  | .dayinfo b => some (0x13, b)
  | .play b => some (0x18, b)
  | .cancel b => some (0x19, b)
  | .queue b => some (0x1A, b)
  | .ring b => some (0x20, b)
  | .halt b => some (0x21, b)
  | .peal b => some (0x22, b)
  | .endpeal b => some (0x23, b)
  | .dialset b => some (0x28, b)
  | .dialstop b => some (0x29, b)
  | .scene b => some (0x30, b)
  | .override b => some (0x31, b)
  | .floodinfo b => some (0x32, b)
  | .lightinfo b => some (0x33, b)
  | .supplyinfo b => some (0x34, b)
  | .unknownKindFrame k b => some (k, b)
  | _ => none

/-- In READY with the request slot IDLE. -/
def slotFree (s : State) : Prop := s.ready = true ∧ s.link.slotBusy = false

/-- A frame in progress is over, with its error counted and recorded: the receiver hunts again. -/
def erred (e : LinkError) (t : State) : State :=
  t.withLink { t.link with
    receiver := .hunting, lastByte := none, lastError := e, lastErrorTime := some t.now
    errorCount := min 65535 (t.link.errorCount + 1) }

/-- The state in which a frame has just come: a listing in progress has ended, and the receiver hunts again; a frame still
in progress has ended by its gap (log 32). -/
def arrived (s : State) : State :=
  let late := s.link.receiver ≠ .hunting
  s.withLink { s.link with
    listing := none, sending := s.link.sending.map fun f => (f.1, f.2.detached), receiver := .hunting, lastByte := none
    lastError := if late then .gap else s.link.lastError
    lastErrorTime := if late then some s.now else s.link.lastErrorTime
    errorCount := if late then min 65535 (s.link.errorCount + 1) else s.link.errorCount }

/-- The state in which a frame taken into the slot is executed. -/
def taken (s : State) : State := (arrived s).withLink { (arrived s).link with slotBusy := true }

/-- A frame is owed, in the slot or in the answer list. -/
def owing (kind : Byte) (body : List Byte) (slot : Bool) (after : After) (t : State) : State :=
  t.withLink { t.link with
    owed := t.link.owed ++ [{ frame := { kind := kind, body := body }, slot := slot, after := after }] }

/-- The reply to a request of a kind is owed in the slot: its status code and its fields. -/
def answered (kind : Nat) (status : Status) (fields : List Byte) (t : State) : State :=
  owing (byte (kind + 0x80)) (byte status.ctorIdx :: fields) true .nothing t

/-- A frame answered without being executed: the reply's own kind, or kind 0x80 with the frame's kind (R182). -/
def turnedAway (kind : Byte) (status : Status) (slot : Bool) (t : State) : State :=
  if 1 ≤ kind.toNat ∧ kind.toNat ≤ 0x3F then owing (byte (kind.toNat + 0x80)) [byte status.ctorIdx] slot .nothing t
  else owing 0x80 [byte status.ctorIdx, kind] slot .nothing t

/-- No message is left and nothing comes about by itself. -/
def atRest (t : State) : Prop := t.agenda = [] ∧ t.standing = none

/-- The events of the lines of mains, access and key, of the reset line and of the part's supply. -/
def outside : Instr → Bool
  | .mainsLineAbsent | .mainsLinePresent | .accessSwitchChange _ | .keySwitchChange _ | .resetLineHeld
  | .resetLineRelease | .supplyFailure | .powerOn _ => true
  | _ => false

/-- What the part takes in LOADING: frames and bytes of the serial line, the encoders, the settle and restrike timers, the
power monitor's lines and timers, and the end of LOADING. -/
def takenInLoading (i : Instr) : Bool :=
  outside i || (frameOf i).isSome ||
  match i with
  | .frameDiscarded _ | .transmitFrameEnd | .reversal _ | .indexCrossing _ | .encoderEdge _ _ | .settleTimerExpiry _
  | .restrikeEnd _ | .mainsSettleExpiry | .accessTimerExpiry | .keyTimerExpiry | .loadingEnd => true
  | _ => false

/-- The invariants of `Sys2Proof/Safety.lean` together. -/
def sound (s : State) : Prop :=
  s.supplySound ∧ s.darkWithoutMains ∧ s.queuesBounded ∧ s.objectsCanonical ∧ s.tablesCanonical ∧ s.settled

/-- A pulse is over: its units are released, the hammer recovers, a waiting coil request is discarded, and a deferred release is
completed. -/
def pulseDone (b : Nat) (s : State) : State :=
  let t := s.releaseAll (.hammer b)
  let u := t.setBell b { t.bell b with hammer := .recovery (t.now + (t.bellRec b).recovery) }
  let v := u.withConverter { u.converter with queue := u.converter.queue.filter fun c => c ≠ .coil b }
  if (s.bell b).releasing then (v.post (.completeRelease b)).post .releaseCheck else v

/-- A claimant whose request the shed signal is for: a HAMMER or a DIAL. -/
def presses : Claimant → Bool
  | .hammer _ | .dial _ => true
  | .swing _ | .flood _ => false

/-- A notice of the supply arbiter: the budget, the total granted, the count of the waiting list and its head. -/
def supplyTells (cause : SupplyCause) (big : Option (Claimant × Nat)) (t : State) : State :=
  t.notify (.supply cause t.tables.supply.budget t.supply.total t.supply.waiting.length
    (t.supply.waiting.head?.map fun r => (r.claimant, r.units)) big)

/-- A change of the playing performance's record. -/
def counted (f : Perf → Perf) (t : State) : State :=
  t.withChime { t.chime with queue := t.chime.queue.map fun p => if p.playing then f p else p }

/-- A PUT of values judged: RANGE without effect where they are no record of the table, else what the table's owner does. -/
def putJudged {α : Type} (reading : Option α) (put : α → State → State × Status) (got : State × Status) (s : State) : Prop :=
  (reading = none → got = (s, .range)) ∧ ∀ new, reading = some new → got = put new s

/-- What a PUT body gives of a record, and what a GET writes of it, agree: a record a PUT can write is read back from the
bytes a GET writes. -/
def backAndForth {α : Type} (rooms : List Room) (read : List Nat → Option α) (items : α → List Item) : Prop :=
  ∀ (body : List Byte) (r : α), body.length = roomBytes rooms → (unpack rooms body).bind read = some r →
    (unpack rooms (pack (items r))).bind read = some r

end Sys2Proof.Claims

open Sys2Proof Sys2Proof.Machine Sys2Proof.Claims

/-! ## The step -/

/-- Step runs the front command. -/
def Obligations.StepRunsFrontCommand : Prop :=
  ∀ (c : Instr) (rest : List Instr) (s : State), s.pending = c :: rest → step s = exec c { s with pending := rest }

/-- With no command waiting one ms passes and nothing else happens (log 2): elapsed time rises by one while the part
runs, and stands while it does not. The clock runs to an instant of elapsed time where it lies ahead, and touches
nothing but the time base (log 1). Kept time without a slew runs at the oscillator rate scaled by the trim, in units of
10^-7 ms; a ms of it is gained or lost in a kept second by a slew, at its end (log 8). -/
def Obligations.TheClock : Prop :=
  (∀ s : State, s.pending = [] →
      step s = .next (s.withTime (if s.running then s.time.advance 1 else s.time.drift 1)) ∧
        (s.time.advance 1).elapsed = s.time.elapsed + 1 ∧ (s.time.drift 1).elapsed = s.time.elapsed) ∧
  (∀ (s : State) (n : Nat), (s.runTo n).now = max s.now n ∧ s.runTo n = s.withTime (s.runTo n).time ∧
      (s.runTo n).time.state = s.time.state ∧ (s.runTo n).time.trim = s.time.trim ∧
      (s.runTo n).time.offset = s.time.offset ∧ (s.runTo n).time.lastConf = s.time.lastConf) ∧
  (∀ (b : TimeBase) (kept n : Nat), b.kept = some kept → b.slew = 0 → b.slewHold = false → b.sub < 10000000 →
    -2000 ≤ b.trim → ∃ kept', (b.advance n).kept = some kept' ∧
      (kept' * 10000000 + (b.advance n).sub : Int) = kept * 10000000 + b.sub + n * (10000000 + b.trim)) ∧
  (∀ (b : TimeBase) (second : Nat), b.kept = some (second * 1000) → b.sub = 0 → b.slewHold = false → b.trim = 0 →
    b.slewArmed = true →
    (0 < b.slew → (b.advance 999).kept = some (second * 1000 + 1000) ∧ (b.advance 999).slew = b.slew - 1) ∧
    (b.slew < 0 → (b.advance 1001).kept = some (second * 1000 + 1000) ∧ (b.advance 1001).slew = b.slew + 1))

/-- Every command has a next state, and leaves the queue's rest as it is. -/
def Obligations.EveryCommandCompletes : Prop :=
  ∀ (i : Instr) (s : State), ∃ t, exec i s = .next t ∧ t.pending = s.pending

/-- What handling messages leaves alone: the tables, the reference monitor, the power monitor, the store, the start,
the queue and elapsed time; and no message is left. The transmitter moves nothing but the link's own fields. With no
message left and nothing that comes about by itself only the transmitter acts; a notice alone is taken by the link
interface first. -/
def Obligations.MessagesOfACommand : Prop :=
  (∀ s : State, s.finish.tables = s.tables ∧ s.finish.refs = s.refs ∧ s.finish.power = s.power ∧
      s.finish.store = s.store ∧ s.finish.start = s.start ∧ s.finish.pending = s.pending ∧
      s.finish.time.elapsed = s.time.elapsed ∧ s.finish.agenda = [] ∧
      s.finish.link.rate = s.link.rate ∧ s.finish.link.receiver = s.link.receiver ∧
      s.finish.link.slotBusy = s.link.slotBusy ∧ s.finish.link.lastError = s.link.lastError ∧
      s.finish.link.errorCount = s.link.errorCount) ∧
  ((∀ t : State, t.ready = true → atRest t → t.finish = t.pump) ∧
    (∀ (t : State) (n : NoticeBody), t.ready = true → atRest t → (t.notify n).finish = (t.takeNotice n).pump))

/-! ## Invariants -/

/-- No step brings the units granted above the supply budget in force. -/
def Obligations.GrantsStayWithinBudget : Prop :=
  ∀ s t : State, s.supplySound → step s = .next t → t.supplySound

/-- No step drives an output while mains is not NORMAL, or in LOADING. The outputs are off while mains is not NORMAL,
and while the part does not run. -/
def Obligations.NothingDrivenWithoutMains : Prop :=
  (∀ s t : State, s.darkWithoutMains → step s = .next t → t.darkWithoutMains) ∧
  (∀ s : State, s.darkWithoutMains → s.mainsNormal = false ∨ s.running = false →
      (∀ b < 16, s.hammerOutput b = false) ∧ (∀ u < 6, s.swingOutput u = none) ∧ (∀ d < 4, s.dialOutput d = none) ∧
        ∀ c < 12, s.circuitOutput c = 0)

/-- No step brings the strike queue above its 16 places or the notice queue above its 32. Every step keeps the canonical
form of the grant records and of the objects' tables, and that of the tables and the stored tables (log 34). No step leaves a
message to handle (log 3). -/
def Obligations.QueuesAndRepresentation : Prop :=
  (∀ s t : State, s.queuesBounded → step s = .next t → t.queuesBounded) ∧
  (∀ s t : State, s.objectsCanonical → step s = .next t → t.objectsCanonical) ∧
  (∀ s t : State, s.tablesCanonical → step s = .next t → t.tablesCanonical) ∧
  (∀ s t : State, s.settled → step s = .next t → t.settled)

/-- The state after reset meets every invariant. The state right after reset: the opening of LOADING with cause
POWER_ON, the values of the rules for a start, and of the rest the values of log 6. -/
def Obligations.Reset : Prop :=
  (sound State.reset) ∧
  (State.reset.start.phase = .loading ∧ State.reset.start.cause = .powerOn ∧ State.reset.time.elapsed = 0 ∧
      State.reset.link.rate = .r57600 ∧ State.reset.link.receiver = .hunting ∧ State.reset.link.errorCount = 0 ∧
      State.reset.link.notices = [] ∧ State.reset.chime.queue = [] ∧ State.reset.chime.nextId = 0 ∧
      State.reset.supply.total = 0 ∧ State.reset.supply.waiting = [] ∧ State.reset.supply.shed = false ∧
      State.reset.light.state = .unknown ∧ State.reset.converter.queue = [] ∧ State.reset.run.state = .idle ∧
      State.reset.time.state = .unset ∧ State.reset.refs.qual = .absent ∧ State.reset.pending = [] ∧
      (∀ b < 16, (State.reset.bell b).claim = .free ∧ (State.reset.bell b).hammer = .idle) ∧
      (∀ u < 6, (State.reset.unit u).state = .settling ∧ (State.reset.unit u).referenced = false) ∧
      (∀ d < 4, (State.reset.dial d).state = .unknown) ∧ ∀ c < 12, (State.reset.circuit c).state = .off)

/-- A record written by a PUT is the record a GET's bytes give back, for every table (in the reading of R194 that log 18
names). A bell, swing, dial, circuit, special-day, TIME, STRIKE or LIGHT record is read from the values of its fields
exactly where they are in range, and so is a schedule entry. -/
def Obligations.RecordsReadBack : Prop :=
  (backAndForth bellRooms readBell bellItems ∧ backAndForth swingRooms readSwing swingItems ∧
  backAndForth planRooms readPlan planItems ∧ backAndForth tuneRooms readTune tuneItems ∧
  backAndForth noteRooms readNote noteItems ∧ backAndForth dialRooms readDial dialItems ∧
  backAndForth circuitRooms readCircuit circuitItems ∧ backAndForth sceneRooms readScene sceneItems ∧
  backAndForth entryRooms readEntry entryItems ∧ backAndForth specialRooms readSpecial specialItems ∧
  backAndForth sunRooms readSun sunItems ∧ backAndForth timeRooms readTime timeItems ∧
  backAndForth strikeRooms readStrike strikeItems ∧ backAndForth lightRooms readLight lightItems ∧
  backAndForth supplyRooms readSupply supplyItems ∧ backAndForth hammerRooms readHammer hammerItems ∧
  backAndForth noticeRooms readNotice noticeItems) ∧
  (∀ r : BellRec,
    readBell [r.inUse.toNat, r.fitted.toNat, r.enabled.toNat, r.soft, r.medium, r.full, r.recovery, r.units,
      r.swing.isSome.toNat, r.swing.getD 0, r.coilCheck.toNat] =
    if (10 ≤ r.soft ∧ r.soft ≤ 250) ∧ (10 ≤ r.medium ∧ r.medium ≤ 250) ∧ (10 ≤ r.full ∧ r.full ≤ 250) ∧
        (100 ≤ r.recovery ∧ r.recovery ≤ 2000) ∧ (1 ≤ r.units ∧ r.units ≤ 40) ∧ (∀ u ∈ r.swing, u < 6)
      then some r else none) ∧
  (∀ r : SwingRec,
    readSwing [r.counts, r.target, r.band, r.rest, r.settle, r.raise, r.lower, r.width, r.window, r.units,
      r.brake.ctorIdx, r.tolerance] =
    if (400 ≤ r.counts ∧ r.counts ≤ 16384 ∧ r.counts % 4 = 0) ∧ (20 ≤ r.target ∧ r.target ≤ 150) ∧
        (2 ≤ r.band ∧ r.band ≤ 20) ∧ (1 ≤ r.rest ∧ r.rest ≤ 10) ∧ (10 ≤ r.settle ∧ r.settle ≤ 300) ∧
        (10 ≤ r.raise ∧ r.raise ≤ 600) ∧ (10 ≤ r.lower ∧ r.lower ≤ 900) ∧ (50 ≤ r.width ∧ r.width ≤ 1000) ∧
        (20 ≤ r.window ∧ r.window ≤ 500) ∧ (5 ≤ r.units ∧ r.units ≤ 100) ∧ (2 ≤ r.tolerance ∧ r.tolerance ≤ 64) ∧
        r.counts * r.rest / 360 < r.counts * r.target / 360 - r.counts * r.band / 360
      then some r else none) ∧
  (∀ r : DialRec,
    readDial [r.inUse.toNat, r.interval, r.width, r.catchUp, r.hold, r.units] =
    if (r.interval = 30 ∨ r.interval = 60) ∧ (100 ≤ r.width ∧ r.width ≤ 2000) ∧ (1 ≤ r.catchUp ∧ r.catchUp ≤ 10) ∧
        (1 ≤ r.hold ∧ r.hold ≤ 719) ∧ (1 ≤ r.units ∧ r.units ≤ 50) ∧ r.width + 500 ≤ r.catchUp * 1000
      then some r else none) ∧
  (∀ r : CircuitRec,
    readCircuit [r.inUse.toNat, r.kind.ctorIdx, r.rated, r.surge, r.warmUp, r.restrike, r.fade, r.shed, r.sheddable.toNat,
      r.accessLight.toNat] =
    if (1 ≤ r.rated ∧ r.rated ≤ 100) ∧ (r.rated ≤ r.surge ∧ r.surge ≤ 200) ∧ r.warmUp ≤ 600 ∧ r.restrike ≤ 1200 ∧
        (1 ≤ r.fade ∧ r.fade ≤ 100) ∧ r.shed ≤ 100
      then some r else none) ∧
  (∀ r : Special,
    readSpecial [r.used.toNat, r.month, r.day, r.year.isSome.toNat, r.year.getD 0, r.cls] =
    if (1 ≤ r.month ∧ r.month ≤ 12) ∧ (1 ≤ r.day ∧ r.day ≤ monthDays true r.month) ∧
        (∀ y ∈ r.year, 2000 ≤ y ∧ y ≤ 2099 ∧ (r.month = 2 → r.day = 29 → y % 4 = 0))
      then some r else none) ∧
  (∀ r : TimeSettings,
    let values (e : SeasonEdge) : List Nat := [e.month, e.week.isNone.toNat, e.week.getD 0, e.weekday, e.hour]
    let good (e : SeasonEdge) : Prop := (1 ≤ e.month ∧ e.month ≤ 12) ∧ (∀ w ∈ e.week, 1 ≤ w ∧ w ≤ 4) ∧
      (1 ≤ e.weekday ∧ e.weekday ≤ 7) ∧ e.hour < 24
    readTime ([r.mode.ctorIdx, r.threshold, r.holdLimit, r.offset] ++ values r.begins ++ values r.ends) =
    if (100 ≤ r.threshold ∧ r.threshold ≤ 60000) ∧ (1 ≤ r.holdLimit ∧ r.holdLimit ≤ 168) ∧ r.offset ≤ 120 ∧
        good r.begins ∧ good r.ends ∧ ¬(r.begins = r.ends ∧ r.offset ≠ 0)
      then some r else none) ∧
  (∀ r : StrikeSettings,
    let value (t : Option Nat) : List Nat := [t.isSome.toNat, t.getD 0]
    readStrike ([r.quarters.toNat, r.hours.toNat, r.hourBell] ++ value r.q1 ++ value r.q2 ++ value r.q3 ++ value r.q4 ++
      [r.gap, r.velocity.ctorIdx, r.lateness, r.noteWait]) =
    if r.hourBell < 16 ∧ (∀ t ∈ r.q1, t < 64) ∧ (∀ t ∈ r.q2, t < 64) ∧ (∀ t ∈ r.q3, t < 64) ∧ (∀ t ∈ r.q4, t < 64) ∧
        (1500 ≤ r.gap ∧ r.gap ≤ 6000) ∧ r.lateness ≤ 900 ∧ (50 ≤ r.noteWait ∧ r.noteWait ≤ 2000)
      then some r else none) ∧
  (∀ r : LightSettings,
    readLight [r.margin, r.fallback.isSome.toNat, r.fallback.getD 0, r.interval, r.dusk, r.dawn, r.confirm] =
    if r.margin ≤ 120 ∧ (∀ i ∈ r.fallback, i < 16) ∧ (2 ≤ r.interval ∧ r.interval ≤ 60) ∧ (5 ≤ r.dusk ∧ r.dusk ≤ 1018) ∧
        (5 ≤ r.dawn ∧ r.dawn ≤ 1018) ∧ (1 ≤ r.confirm ∧ r.confirm ≤ 30) ∧ r.dusk < r.dawn
      then some r else none) ∧
  (∀ used kind moment days classes present fm fd tm td action a b c lateness : Nat,
    let date (month day : Nat) : Prop := (1 ≤ month ∧ month ≤ 12) ∧ 1 ≤ day ∧ day ≤ monthDays true month
    (readEntry [used, kind, moment, days, classes, present, fm, fd, tm, td, action, a, b, c, lateness]).isSome = true ↔
      used ≤ 1 ∧ days < 128 ∧ classes < 16 ∧ lateness ≤ 240 ∧
      (kind = 0 ∧ moment / 256 < 24 ∧ moment % 256 < 60 ∨
        (kind = 1 ∨ kind = 2) ∧ -180 ≤ signed 2 moment ∧ signed 2 moment ≤ 180) ∧
      (present = 0 ∧ fm = 0 ∧ fd = 0 ∧ tm = 0 ∧ td = 0 ∨ present = 1 ∧ date fm fd ∧ date tm td) ∧
      (action = 0 ∧ a < 64 ∧ (1 ≤ b ∧ b ≤ 9) ∧ c = 0 ∨
        action = 1 ∧ a < 16 ∧ (1 ≤ b ∧ b ≤ 240) ∧ (2 ≤ c ∧ c ≤ 60) ∨
        action = 2 ∧ a < 8 ∧ b = 0 ∧ c = 0 ∨ action = 3 ∧ a < 16 ∧ b = 0 ∧ c = 0 ∨
        (action = 4 ∨ action = 5) ∧ a = 0 ∧ b = 0 ∧ c = 0))

/-! ## Safety over one step -/

/-- A SWITCHED circuit that leaves WARMING or ON goes to COOLING for its restrike time, and leaves COOLING only when that
time is over; a start begins the restrike time afresh. -/
def Obligations.RestrikeTimeIsKept : Prop :=
  ∀ (s t : State) (c : Nat), c < 12 → (s.circuitRec c).kind = .switched → step s = .next t →
    t.start.phase = .ready →
    ((s.circuit c).state = .warming ∨ (s.circuit c).state = .on →
      (t.circuit c).state = .warming ∨ (t.circuit c).state = .on ∨
        ((t.circuit c).state = .cooling ∧
          ∃ left, s.now ≤ left ∧ left ≤ t.now ∧ (t.circuit c).timer = some (left + (t.circuitRec c).restrike * 1000))) ∧
    (∀ ends, (s.circuit c).state = .cooling → (s.circuit c).timer = some ends →
      ((t.circuit c).state = .cooling ∧ (t.circuit c).timer = some ends) ∨ ends ≤ t.now)

/-- A pulse ends in RECOVERY for the bell's recovery time, and RECOVERY ends only when that time is over, a start
excepted. -/
def Obligations.RecoveryTimeIsKept : Prop :=
  ∀ (s t : State) (b : Nat), b < 16 → step s = .next t → t.start.phase = .ready →
    (∀ ends sense, (s.bell b).hammer = .pulse ends sense →
      (∃ sense', (t.bell b).hammer = .pulse ends sense') ∨
        (t.bell b).hammer = .recovery (t.now + (t.bellRec b).recovery)) ∧
    (∀ ends, (s.bell b).hammer = .recovery ends → (t.bell b).hammer = .recovery ends ∨ ends ≤ t.now)

/-! ## The link (chapter 11) -/

/-- A frame in LOADING is answered STARTING in the answer list and has no other effect. A frame that comes while the
slot is BUSY is answered BUSY and has no other effect. The three refusals the link makes itself: UNKNOWN_KIND, BUSY of
PUT, ERASE, SAVE and RESTART during a save, and BAD_LENGTH; none has another effect. That a frame in progress is over by its
gap when a whole frame comes is log 32's. -/
def Obligations.FramesNotExecuted : Prop :=
  (∀ (i : Instr) (kind : Byte) (body : List Byte) (s : State), frameOf i = some (kind, body) → s.running = true →
      s.start.phase = .loading →
      exec i s = .next ((turnedAway kind .starting false (arrived s)).withAgenda []).pump) ∧
  (∀ (i : Instr) (kind : Byte) (body : List Byte) (s : State), frameOf i = some (kind, body) → s.ready = true →
      s.link.slotBusy = true → exec i s = .next (turnedAway kind .busy false (arrived s)).finish) ∧
  ((∀ (kind : Byte) (body : List Byte) (s : State), slotFree s → assignedKind kind = false →
      exec (.unknownKindFrame kind body) s = .next (turnedAway kind .unknownKind true (taken s)).finish) ∧
    (∀ (i : Instr) (kind : Byte) (body : List Byte) (s : State), frameOf i = some (kind, body) → slotFree s →
      kind = 0x05 ∨ kind = 0x06 ∨ kind = 0x08 ∨ kind = 0x09 → s.store.saving.isSome = true →
      exec i s = .next (turnedAway kind .busy true (taken s)).finish) ∧
    (∀ (i : Instr) (kind : Byte) (body : List Byte) (n : Nat) (s : State), frameOf i = some (kind, body) → slotFree s →
      assignedKind kind = true → s.store.saving = none → requiredLength kind.toNat = some n → body.length ≠ n →
      exec i s = .next (turnedAway kind .badLength true (taken s)).finish))

/-- The reports: answered OK from the state at the instant of execution, which they leave as it is. QUEUE: the count
of performances, and one record for each, head first. -/
def Obligations.Reports : Prop :=
  (∀ s : State, slotFree s →
      exec (.status []) s = .next (answered 0x01 .ok (statusReport (taken s)) (taken s)).finish ∧
      exec (.timeinfo []) s = .next (answered 0x11 .ok (timeReport (taken s)) (taken s)).finish ∧
      exec (.dayinfo []) s = .next (answered 0x13 .ok (dayReport (taken s)) (taken s)).finish ∧
      exec (.floodinfo []) s = .next (answered 0x32 .ok (floodReport (taken s)) (taken s)).finish ∧
      exec (.lightinfo []) s = .next (answered 0x33 .ok (lightReport (taken s)) (taken s)).finish ∧
      exec (.supplyinfo []) s = .next (answered 0x34 .ok (supplyReport (taken s)) (taken s)).finish) ∧
  (∀ s : State, slotFree s →
      exec (.queue []) s = .next (answered 0x1A .ok
        (byte s.chime.queue.length :: s.chime.queue.flatMap (perfBytes s.now true)) (taken s)).finish)

/-- FAULTS reports the objects with a fault or a new mark, and clears every new mark. CLEARFAULT: RANGE for an object
that does not exist. Of a bell: fault NONE, count 0, new mark clear, and a strikeable report. Of a unit in FAULT: fault
NONE, its marks and counts cleared, no owner, no longer referenced after an encoder fault, and SETTLING, the bell with
it, with the UNIT notice; of a unit in another state, and of the light sensor, the new mark alone. -/
def Obligations.FaultsReported : Prop :=
  (∀ s : State, slotFree s →
    ∃ t, exec (.faults []) s = .next (answered 0x02 .ok (faultsReport s) t).finish ∧
      (∀ b < 16, t.bell b = { s.bell b with newMark := false }) ∧
      (∀ u < 6, t.unit u = { s.unit u with newMark := false }) ∧
      t.light = { s.light with newMark := false } ∧ t.newFaults = false ∧
      t.tables = s.tables ∧ t.time = s.time ∧ t.chime = s.chime ∧ t.dials = s.dials ∧ t.floods = s.floods ∧
      t.supply = s.supply ∧ t.agenda = s.agenda) ∧
  (∀ (object : Fin 4) (n : Byte) (s : State), slotFree s →
    (object = 0 ∧ 16 ≤ n.toNat) ∨ (object = 1 ∧ 6 ≤ n.toNat) ∨ (object = 2 ∧ n ≠ 0) ∨ object = 3 →
    exec (.clearfault [byte object, n]) s = .next (answered 0x03 .range [] (taken s)).finish) ∧
  (∀ (b : Fin 16) (s : State), slotFree s →
    exec (.clearfault [0, byte b]) s = .next (answered 0x03 .ok []
      (((taken s).setBell b { s.bell b with fault := .none, opens := 0, newMark := false }).post (.report b))).finish) ∧
  (∀ (u : Fin 6) (s : State), slotFree s →
    ((s.unit u).state ≠ .fault →
      exec (.clearfault [1, byte u]) s =
        .next (answered 0x03 .ok [] ((taken s).setUnit u { s.unit u with newMark := false })).finish) ∧
    ((s.unit u).state = .fault → (s.unit u).drive = .idle →
      let encoder := (s.unit u).fault = .encoderSlip ∨ (s.unit u).fault = .encoderLost
      let cleared : SwingUnit := { s.unit u with
        state := .settling, fault := .none, newMark := false, slips := 0, turns := 0, owner := none, turned := false
        referenced := if encoder then false else (s.unit u).referenced, lowKind := none, lowerLimit := none
        noTurn := none, settle := some (s.now + (s.swingRec u).settle * 1000) }
      exec (.clearfault [1, byte u]) s = .next (answered 0x03 .ok []
        ((((taken s).setUnit u cleared).moveClaim u (.settling u)).notify (.unit u (s.bellOfUnit u) .fault .settling
          .clearfault none (s.unit u).amplitude none .none))).finish)) ∧
  (∀ s : State, slotFree s →
    exec (.clearfault [2, 0]) s =
      .next (answered 0x03 .ok [] ((taken s).withLight { s.light with newMark := false })).finish)

/-- GET: RANGE for a table or index that does not exist, else the table number, the index and the record. -/
def Obligations.GetReadsTheRecord : Prop :=
  ∀ (table hi lo : Byte) (s : State), slotFree s →
    (inTable table.toNat (hi.toNat * 256 + lo.toNat) = true →
      exec (.get [table, hi, lo]) s = .next (answered 0x04 .ok
        (table :: hi :: lo :: recordBytes s table.toNat (hi.toNat * 256 + lo.toNat)) (taken s)).finish) ∧
    (inTable table.toNat (hi.toNat * 256 + lo.toNat) = false →
      exec (.get [table, hi, lo]) s = .next (answered 0x04 .range [] (taken s)).finish)

/-- LIST: RANGE for a range of no entries or outside the table, else the count of used entries (in two bytes: log 18), and the
listing stands at the first of them. ERASE: RANGE outside the tables, else what a PUT does of the record with its used mark
gone (nothing of a bell, dial or circuit not in use), of the defaults of a unit, a sun record or a group. -/
def Obligations.ListAndErase : Prop :=
  (∀ (table fh fl nh nl : Byte) (s : State), slotFree s →
      let first := fh.toNat * 256 + fl.toNat
      let count := nh.toNat * 256 + nl.toNat
      let used := (List.range count).filter fun k => s.usedEntry table.toNat (first + k)
      (count = 0 ∨ inTable table.toNat first = false ∨ inTable table.toNat (first + count - 1) = false →
        exec (.list [table, fh, fl, nh, nl]) s = .next (answered 0x07 .range [] (taken s)).finish) ∧
      (count ≠ 0 → inTable table.toNat first = true → inTable table.toNat (first + count - 1) = true →
        exec (.list [table, fh, fl, nh, nl]) s = .next (answered 0x07 .ok (beBytes 2 used.length)
          ((taken s).withLink { (taken s).link with
            listing := used.head?.map fun k => { table := table.toNat, next := first + k, last := first + count - 1 } })).finish)) ∧
  ((∀ (table hi lo : Byte) (s : State), slotFree s → s.store.saving = none →
      inTable table.toNat (hi.toNat * 256 + lo.toNat) = false →
      exec (.erase [table, hi, lo]) s = .next (answered 0x06 .range [] (taken s)).finish) ∧
    (∀ (i : Fin 16) (s : State), slotFree s → s.store.saving = none →
      exec (.erase [7, 0, byte i]) s = .next (answered 0x06 .ok []
        ((taken s).withTables { s.tables with
          scene := Table.put scene0 s.tables.scene i { s.sceneRec i with used := false } })).finish)) ∧
  (∀ (table hi lo : Byte) (s : State), slotFree s → s.store.saving = none →
      let i := hi.toNat * 256 + lo.toNat
      let r := eraseEntry table.toNat i (taken s)
      inTable table.toNat i = true → exec (.erase [table, hi, lo]) s = .next (answered 0x06 r.2 [] r.1).finish) ∧
  (∀ (i : Nat) (s : State),
      eraseEntry 0 i s = (if (s.bellRec i).inUse then putBell i { s.bellRec i with inUse := false } s else (s, .ok)) ∧
      eraseEntry 1 i s = putSwing i swingRec0 s ∧ eraseEntry 2 i s = putPlan i { s.planRec i with used := false } s ∧
      eraseEntry 3 i s = putTune i { s.tuneRec i with used := false } s ∧
      eraseEntry 4 i s = putNote i { s.noteRec i with used := false } s ∧
      eraseEntry 5 i s = (if (s.dialRec i).inUse then putDial i { s.dialRec i with inUse := false } s else (s, .ok)) ∧
      eraseEntry 6 i s =
        (if (s.circuitRec i).inUse then putCircuit i { s.circuitRec i with inUse := false } s else (s, .ok)) ∧
      eraseEntry 8 i s = putEntry i { s.entryRec i with used := false } s ∧
      eraseEntry 9 i s = putSpecial i { s.specialRec i with used := false } s ∧ eraseEntry 10 i s = putSun i sun0 s ∧
      eraseEntry 11 0 s = (s.newTimeSettings timeSettings0, .ok) ∧
      eraseEntry 11 1 s = (s.withTables { s.tables with strike := strikeSettings0 }, .ok) ∧
      eraseEntry 11 2 s = (s.newLightSettings lightSettings0, .ok) ∧
      eraseEntry 11 3 s = putSupply supplySettings0 s ∧
      eraseEntry 11 4 s = (s.withTables { s.tables with hammerCheck := hammerSettings0 }, .ok) ∧
      eraseEntry 11 5 s = (s.withTables { s.tables with notice := noticeMask0 }, .ok))

/-- PUT of the HAMMER CHECK group: RANGE for a field out of range or an open threshold not below the short one, else the
group is replaced; the key does not gate it. The group's defaults. -/
def Obligations.PutHammerCheck : Prop :=
  ∀ (oh ol sh sl : Byte) (s : State), slotFree s → s.store.saving = none →
    let opened := oh.toNat * 256 + ol.toNat
    let short := sh.toNat * 256 + sl.toNat
    (opened ≤ 1022 ∧ 1 ≤ short ∧ short ≤ 1023 ∧ opened < short →
      exec (.put [11, 0, 4, oh, ol, sh, sl]) s = .next (answered 0x05 .ok []
        ((taken s).withTables { s.tables with hammerCheck := { opened := opened, short := short } })).finish) ∧
    (¬(opened ≤ 1022 ∧ 1 ≤ short ∧ short ≤ 1023 ∧ opened < short) →
      exec (.put [11, 0, 4, oh, ol, sh, sl]) s = .next (answered 0x05 .range [] (taken s)).finish) ∧
    hammerSettings0 = { opened := 100, short := 900 }

/-- PUT: RANGE for a table or index that does not exist, BAD_LENGTH, RANGE for a bit that must be 0, and then the table's owner
judges the values: RANGE outside their ranges, else its own checks in their order, each refusal without effect, for every table
and every operand; an accepted record replaces its own alone and leaves every other table as it is. PUT of the SUPPLY group:
its three refusals in their order, and a service. Of a BELL: LOCKED, IN_USE, DUPLICATE, and a strikeable report. Of a SWING,
DIAL or CIRCUIT record: LOCKED and IN_USE; a dial whose interval changes is UNKNOWN, one that comes into use is given its
repeat or classified; a circuit is judged. Of a plan, tune or note that is being run or played: IN_USE. Of a schedule entry:
its guard is cleared. Of a special day: DUPLICATE for a date another used entry holds, and today's class is found again. -/
def Obligations.WritesOfTables : Prop :=
  (∀ (bh bl dh dl : Byte) (s : State), slotFree s → s.store.saving = none →
      let new : SupplySettings := { budget := bh.toNat * 256 + bl.toNat, delay := dh.toNat * 256 + dl.toNat }
      let answer := exec (.put [11, 0, 3, bh, bl, dh, dl]) s
      let good := 20 ≤ new.budget ∧ new.budget ≤ 1000 ∧ 20 ≤ new.delay ∧ new.delay ≤ 2000
      (¬good → answer = .next (answered 0x05 .range [] (taken s)).finish) ∧
      (good → s.keyOn = false → new.budget ≠ s.tables.supply.budget →
        answer = .next (answered 0x05 .locked [] (taken s)).finish) ∧
      (good → s.keyOn = true ∨ new.budget = s.tables.supply.budget → new.budget < s.supply.total →
        answer = .next (answered 0x05 .inUse [] (taken s)).finish) ∧
      (good → s.keyOn = true ∨ new.budget = s.tables.supply.budget → s.supply.total ≤ new.budget →
        answer = .next (answered 0x05 .ok [] ((taken s).withTables { s.tables with supply := new }).serve).finish)) ∧
  (∀ (table hi lo : Byte) (values : List Byte) (s : State), slotFree s → s.store.saving = none →
      let i := hi.toNat * 256 + lo.toNat
      let rooms := recordRooms table.toNat i
      let answer := exec (.put (table :: hi :: lo :: values)) s
      (inTable table.toNat i = false → answer = .next (answered 0x05 .range [] (taken s)).finish) ∧
      (inTable table.toNat i = true →
        (values.length ≠ roomBytes rooms → answer = .next (answered 0x05 .badLength [] (taken s)).finish) ∧
        (values.length = roomBytes rooms →
          (unpack rooms values = none → answer = .next (answered 0x05 .range [] (taken s)).finish) ∧
          ∀ v, unpack rooms values = some v →
            let r := putValues table.toNat i v (taken s)
            answer = .next (answered 0x05 r.2 [] r.1).finish))) ∧
  (∀ (i : Nat) (v : List Nat) (s : State),
      let group {α : Type} (effect : State → α → State) (new : α) (s : State) : State × Status := (effect s new, .ok)
      putJudged (readBell v) (putBell i) (putValues 0 i v s) s ∧
      putJudged (readSwing v) (putSwing i) (putValues 1 i v s) s ∧
      putJudged (readPlan v) (putPlan i) (putValues 2 i v s) s ∧
      putJudged (readTune v) (putTune i) (putValues 3 i v s) s ∧
      putJudged (readNote v) (putNote i) (putValues 4 i v s) s ∧
      putJudged (readDial v) (putDial i) (putValues 5 i v s) s ∧
      putJudged (readCircuit v) (putCircuit i) (putValues 6 i v s) s ∧
      putJudged (readScene v) (putScene i) (putValues 7 i v s) s ∧
      putJudged (readEntry v) (putEntry i) (putValues 8 i v s) s ∧
      putJudged (readSpecial v) (putSpecial i) (putValues 9 i v s) s ∧
      putJudged (readSun v) (putSun i) (putValues 10 i v s) s ∧
      putJudged (readTime v) (group State.newTimeSettings) (putValues 11 0 v s) s ∧
      putJudged (readStrike v) (group fun s new => s.withTables { s.tables with strike := new }) (putValues 11 1 v s) s ∧
      putJudged (readLight v) (group State.newLightSettings) (putValues 11 2 v s) s ∧
      putJudged (readSupply v) putSupply (putValues 11 3 v s) s ∧
      putJudged (readHammer v) (group fun s new => s.withTables { s.tables with hammerCheck := new }) (putValues 11 4 v s) s ∧
      putJudged (readNotice v) (group fun s new => s.withTables { s.tables with notice := new }) (putValues 11 5 v s) s) ∧
  (∀ (b : Nat) (new : BellRec) (s : State),
      let old := s.bellRec b
      let locked := s.keyOn = false ∧ { new with enabled := old.enabled, coilCheck := old.coilCheck } ≠ old
      let moving := new.inUse = true ∧ ∃ u, new.swing = some u ∧ (s.unit u).state ≠ .rest ∧
        ¬(old.inUse = true ∧ old.swing = some u)
      let twice := new.inUse = true ∧ ∃ u, new.swing = some u ∧ ∃ o < 16, o ≠ b ∧ (s.bellRec o).inUse = true ∧
        (s.bellRec o).swing = some u
      let claimed := (s.bell b).claim ≠ .free
      (locked → putBell b new s = (s, .locked)) ∧ (¬locked → claimed ∨ moving → putBell b new s = (s, .inUse)) ∧
      (¬locked → ¬(claimed ∨ moving) → twice → putBell b new s = (s, .duplicate)) ∧
      (¬locked → ¬(claimed ∨ moving) → ¬twice → putBell b new s =
        ((s.withTables { s.tables with bell := Table.put bellRec0 s.tables.bell b new }).post (.report b), .ok))) ∧
  (∀ (u : Nat) (new : SwingRec) (s : State),
      let locked := s.keyOn = false ∧ new ≠ s.swingRec u
      let busy := (s.unit u).state ≠ .rest ∨ (s.unit u).startPending = true
      (locked → putSwing u new s = (s, .locked)) ∧ (¬locked → busy → putSwing u new s = (s, .inUse)) ∧
      (¬locked → ¬busy → (putSwing u new s).2 = .ok)) ∧
  (∀ (i : Nat) (s : State) (plan : Plan) (tune : Tune) (note : Note) (scene : Scene) (sun : Sun),
      let run := s.run.state ≠ .idle ∧ s.run.plan = i
      let played := ∃ pl, s.chime.playing = some pl ∧ pl.tune = some i
      let sounded := ∃ pl r, s.chime.playing = some pl ∧ pl.run = some r ∧ r.first ≤ i ∧ i < r.first + r.count
      (run → putPlan i plan s = (s, .inUse)) ∧ (¬run → (putPlan i plan s).2 = .ok) ∧
      (played → putTune i tune s = (s, .inUse)) ∧ (¬played → (putTune i tune s).2 = .ok) ∧
      (sounded → putNote i note s = (s, .inUse)) ∧ (¬sounded → (putNote i note s).2 = .ok) ∧
      (putScene i scene s).2 = .ok ∧ (putSun i sun s).2 = .ok) ∧
  (∀ (d : Nat) (new : DialRec) (s : State),
      let old := s.dialRec d
      let w := s.dial d
      let locked := s.keyOn = false ∧ new ≠ old
      let busy := old.inUse = true ∧ w.state ≠ .unknown ∧ w.state ≠ .stopped ∨ w.drive ≠ .idle
      let t := s.withTables { s.tables with dial := Table.put dialRec0 s.tables.dial d new }
      let comes := old.inUse = false ∧ new.inUse = true
      (locked → putDial d new s = (s, .locked)) ∧ (¬locked → busy → putDial d new s = (s, .inUse)) ∧
      (¬locked → ¬busy →
        (old.interval ≠ new.interval → putDial d new s = ((t.setDial d { w with
          position := none, next := none, last := none, inFlight := false }).moveDial d .unknown .table, .ok)) ∧
        (old.interval = new.interval → comes → s.mainsNormal = true → w.inFlight = true →
          putDial d new s = ((t.setDial d { w with drive := .waiting true }).request (.dial d) new.units, .ok)) ∧
        (old.interval = new.interval → comes → s.mainsNormal = false ∨ w.inFlight = false →
          putDial d new s = (t.classify d .table, .ok)) ∧
        (old.interval = new.interval → ¬comes → putDial d new s = (t, .ok)))) ∧
  (∀ (c : Nat) (new : CircuitRec) (s : State),
      let old := s.circuitRec c
      let locked := s.keyOn = false ∧ { new with
        fade := old.fade, shed := old.shed, sheddable := old.sheddable, accessLight := old.accessLight } ≠ old
      (locked → putCircuit c new s = (s, .locked)) ∧
      (¬locked → (s.circuit c).state ≠ .off → putCircuit c new s = (s, .inUse)) ∧
      (¬locked → (s.circuit c).state = .off → putCircuit c new s =
        ((s.withTables { s.tables with circuit := Table.put circuitRec0 s.tables.circuit c new }).post
          (.judgeCircuits [c] .table), .ok))) ∧
  (∀ (e : Nat) (entry : Entry) (special : Special) (s : State),
      let held := special.used = true ∧ ∃ o < 48, o ≠ e ∧ (s.specialRec o).used = true ∧
        (s.specialRec o).month = special.month ∧ (s.specialRec o).day = special.day ∧ (s.specialRec o).year = special.year
      let t := s.withTables { s.tables with special := Table.put special0 s.tables.special e special }
      putEntry e entry s = ((s.withTables { s.tables with
        schedule := Table.put entry0 s.tables.schedule e entry }).setGuard e none, .ok) ∧
      (held → putSpecial e special s = (s, .duplicate)) ∧
      (¬held → s.day.today = none → putSpecial e special s = (t, .ok)) ∧
      (∀ today, ¬held → s.day.today = some today → putSpecial e special s = (t.withDay { t.day with today := some { today with
        cls := (t.dayClass today.day).1, special := (t.dayClass today.day).2 } }, .ok))) ∧
  (∀ (table i : Nat) (v : List Nat) (s : State),
      ((putValues table i v s).2 ≠ .ok → (putValues table i v s).1 = s) ∧
        ((eraseEntry table i s).2 ≠ .ok → (eraseEntry table i s).1 = s)) ∧
  (∀ (i : Nat) (s : State),
      (∀ new, (putBell i new s).2 = .ok →
        (putBell i new s).1.tables = { s.tables with bell := Table.put bellRec0 s.tables.bell i new }) ∧
      (∀ new, (putSwing i new s).2 = .ok →
        (putSwing i new s).1.tables = { s.tables with swing := Table.put swingRec0 s.tables.swing i new }) ∧
      (∀ new, (putPlan i new s).2 = .ok →
        (putPlan i new s).1.tables = { s.tables with plan := Table.put plan0 s.tables.plan i new }) ∧
      (∀ new, (putTune i new s).2 = .ok →
        (putTune i new s).1.tables = { s.tables with tune := Table.put tune0 s.tables.tune i new }) ∧
      (∀ new, (putNote i new s).2 = .ok →
        (putNote i new s).1.tables = { s.tables with note := Table.put note0 s.tables.note i new }) ∧
      (∀ new, (putDial i new s).2 = .ok →
        (putDial i new s).1.tables = { s.tables with dial := Table.put dialRec0 s.tables.dial i new }) ∧
      (∀ new, (putCircuit i new s).2 = .ok →
        (putCircuit i new s).1.tables = { s.tables with circuit := Table.put circuitRec0 s.tables.circuit i new }) ∧
      (∀ new, (putScene i new s).1.tables = { s.tables with scene := Table.put scene0 s.tables.scene i new }) ∧
      (∀ new, (putSun i new s).1.tables = { s.tables with sun := Table.put sun0 s.tables.sun i new }))

/-- SAVE begins with the BELL table, whose stored check is spoilt; SAVE_TABLE_WRITTEN goes on with the next table, or
ends the save with the notice of the tables that failed. That a table whose read-back fails keeps its stored contents is
the model's choice (log 40); R173 gives only its failing check. -/
def Obligations.SaveWritesEveryTable : Prop :=
  (∀ s : State, slotFree s → s.store.saving = none →
    exec (.save []) s = .next (answered 0x08 .accepted [] ((taken s).withStore
      { stored := s.store.stored, bad := tableOrder.filter fun t => decide (t = .bell) || s.store.bad.contains t,
        saving := some { writing := .bell, rest := tableOrder.drop 1, failed := [] } })).finish) ∧
  (∀ (s : State) (w failed) (next : TableId) (rest : List TableId), s.ready = true →
    s.store.saving = some { writing := w, rest := next :: rest, failed := failed } →
    exec (.saveTableWritten true) s = .next (s.withStore
      { stored := s.store.stored.copy s.tables w
        bad := tableOrder.filter fun t => decide (t = next) || (s.store.bad.filter (· ≠ w)).contains t
        saving := some { writing := next, rest := rest, failed := failed } }).finish ∧
    exec (.saveTableWritten false) s = .next (s.withStore
      { stored := s.store.stored
        bad := tableOrder.filter fun t => decide (t = next) || s.store.bad.contains t
        saving := some { writing := next, rest := rest, failed := failed ++ [w] } }).finish) ∧
  (∀ (s : State) (w failed), s.ready = true → s.store.saving = some { writing := w, rest := [], failed := failed } →
    exec (.saveTableWritten true) s = .next ((s.withStore
      { stored := s.store.stored.copy s.tables w, bad := s.store.bad.filter (· ≠ w), saving := none }).notify
        (.saved failed)).finish ∧
    exec (.saveTableWritten false) s = .next ((s.withStore
      { stored := s.store.stored, bad := s.store.bad, saving := none }).notify (.saved (failed ++ [w]))).finish)

/-- RESTART is answered OK; the start comes with the end of that reply, the slot staying BUSY until then; that the tables
are loaded right at the opening of LOADING is log 7's. RATE is
answered at the rate in force; the new rate comes with the end of the reply. A value that names no rate is RANGE. -/
def Obligations.RestartAndRate : Prop :=
  ((∀ s : State, slotFree s → s.store.saving = none →
      exec (.restart []) s = .next (owing (byte 0x89) [byte Status.ok.ctorIdx] true .restart (taken s)).finish ∧
        (owing (byte 0x89) [byte Status.ok.ctorIdx] true .restart (taken s)).link.slotBusy = true) ∧
    (∀ (s : State) (f : List Byte), s.running = true → s.link.sending = some (f, .reply true .restart) →
      ∃ t, exec .transmitFrameEnd s = .next t ∧ t.start.phase = .loading ∧ t.start.cause = .restart ∧
        t.start.retainedGood = s.start.retainedGood ∧ t.tables = s.store.load ∧ t.time.elapsed = 0)) ∧
  ((∀ (r : Fin 3) (s : State), slotFree s →
      let new := [Rate.r19200, .r57600, .r115200][r]
      exec (.rate [byte r]) s = .next (owing (byte 0x8A) [byte Status.ok.ctorIdx] true
        (if new = s.link.rate then .nothing else .rate new) (taken s)).finish) ∧
    (∀ (v : Byte) (s : State), slotFree s → 3 ≤ v.toNat →
      exec (.rate [v]) s = .next (answered 0x0A .range [] (taken s)).finish) ∧
    (∀ (s : State) (f : List Byte) (r : Rate), s.running = true → s.link.sending = some (f, .reply true (.rate r)) →
      exec .transmitFrameEnd s = .next (s.withLink { s.link with
        sending := none, slotBusy := false, rate := r, receiver := .hunting, lastByte := none }).finish))

/-- The transmitter, where it is IDLE, begins an owed reply, else the next listing frame, else the notice at the head.
What it sends of a frame is its start byte, the length of kind and body, kind, body and the two check bytes. The end of
a reply frees the slot, the end of a frame of the answer list does not; the last listing frame ends the listing. -/
def Obligations.Transmitter : Prop :=
  (∀ s : State, s.running = true →
      let onTheLine (kind : Byte) (body : List Byte) : List Byte :=
        let check := crc (byte (body.length + 1) :: kind :: body)
        [0xC3, byte (body.length + 1), kind] ++ body ++ [byte (check / 256), byte check]
      (s.link.sending.isSome = true → s.pump = s) ∧
      (∀ o rest, s.link.sending = none → s.link.owed = o :: rest →
        s.pump = s.withLink { s.link with
          owed := rest, sending := some (onTheLine o.frame.kind o.frame.body, .reply o.slot o.after) }) ∧
      (∀ l, s.link.sending = none → s.link.owed = [] → s.link.listing = some l →
        ∃ last, (s.pump.link.sending = some (onTheLine 0x60 (byte l.table :: (beBytes 2 l.next ++
            byte last.toNat :: recordBytes s l.table l.next)), .listing last)) ∧
          (last = true ↔ s.nextUsed l.table (l.next + 1) l.last = none) ∧ s.pump.link.notices = s.link.notices) ∧
      (∀ n rest, s.link.sending = none → s.link.owed = [] → s.link.listing = none → s.link.notices = n :: rest →
        s.pump = s.withLink { s.link with
          notices := rest, sending := some (onTheLine (noticeFrame n).kind (noticeFrame n).body, .notice) }) ∧
      (s.link.sending = none → s.link.owed = [] → s.link.listing = none → s.link.notices = [] → s.pump = s)) ∧
  (∀ (s : State) (f : List Byte), s.running = true →
      (s.link.sending = some (f, .reply true .nothing) →
        exec .transmitFrameEnd s = .next (s.withLink { s.link with sending := none, slotBusy := false }).finish) ∧
      (s.link.sending = some (f, .reply false .nothing) ∨ s.link.sending = some (f, .notice) ∨
          s.link.sending = some (f, .listing false) →
        exec .transmitFrameEnd s = .next (s.withLink { s.link with sending := none }).finish) ∧
      (s.link.sending = some (f, .listing true) →
        exec .transmitFrameEnd s = .next (s.withLink { s.link with sending := none, listing := none }).finish))

/-- FRAME_DISCARDED: an error counts once, is the last error, and the receiver hunts again; it is LENGTH for a length
byte outside 1 to 250, CHECK for a frame whose check does not agree, GAP for a byte more than 20 ms of elapsed time after
the last one of its frame, FRAMING for a byte without its stop bit. The late byte itself is judged in HUNTING. A byte in
time is collected, and its instant is the last byte's; the last one of kind and body is followed by the two check bytes, and a
check that agrees completes the frame, which is then what the frame's own command is, the receiver hunting again (that a whole
frame is one command, and the bytes another: log 32). -/
def Obligations.DiscardedFrame : Prop :=
  ∀ (s : State) (gap : Nat) (v : Byte), s.running = true →
    let later : State := s.withTime (s.time.advance gap)
    let byte_ (stop : Bool) : Instr := .frameDiscarded [{ gap := gap, value := v, stop := stop }]
    let inTime := ∃ last, s.link.lastByte = some last ∧ s.now + gap ≤ last + 20
    let tooLate := ∃ last, s.link.lastByte = some last ∧ last + 20 < s.now + gap
    let collects (r : Receiver) : State := later.withLink { s.link with receiver := r, lastByte := some later.now }
    (s.link.receiver = .length → inTime → v.toNat = 0 ∨ 250 < v.toNat →
      exec (byte_ true) s = .next (erred .length later).finish) ∧
    (s.link.receiver = .length → inTime → 1 ≤ v.toNat → v.toNat ≤ 250 →
      exec (byte_ true) s = .next (collects (.frame v.toNat [])).finish) ∧
    (∀ n got, s.link.receiver = .frame n got → inTime → got.length + 1 < n →
      exec (byte_ true) s = .next (collects (.frame n (got ++ [v]))).finish) ∧
    (∀ n got, s.link.receiver = .frame n got → inTime → n ≤ got.length + 1 →
      exec (byte_ true) s = .next (collects (.check (got ++ [v]) none)).finish) ∧
    (∀ got, s.link.receiver = .check got none → inTime →
      exec (byte_ true) s = .next (collects (.check got (some v))).finish) ∧
    (∀ i kind body high, s.link.receiver = .check (kind :: body) (some high) → inTime → frameOf i = some (kind, body) →
      high.toNat * 256 + v.toNat = crc (byte (body.length + 1) :: kind :: body) →
      exec (byte_ true) s = exec i (later.withLink { s.link with receiver := .hunting, lastByte := none })) ∧
    (∀ kind body high, s.link.receiver = .check (kind :: body) (some high) → inTime →
      high.toNat * 256 + v.toNat ≠ crc (byte (body.length + 1) :: kind :: body) →
      exec (byte_ true) s = .next (erred .check later).finish) ∧
    (s.link.receiver ≠ .hunting → tooLate →
      (v ≠ 0xC3 → exec (byte_ true) s = .next (erred .gap later).finish) ∧
      (v = 0xC3 → exec (byte_ true) s = .next ((erred .gap later).withLink { (erred .gap later).link with
        receiver := .length, lastByte := some later.now }).finish)) ∧
    (s.link.receiver ≠ .hunting → inTime → exec (byte_ false) s = .next (erred .framing later).finish) ∧
    (s.link.receiver = .hunting → v ≠ 0xC3 → exec (byte_ true) s = .next later.finish) ∧
    (s.link.receiver = .hunting → v = 0xC3 → exec (byte_ true) s = .next (collects .length).finish)

/-- Notices: a class whose mark is clear is dropped, a full queue loses the notice and counts it, and the first one
queued after an overrun carries the count. PUT of the NOTICE group: RANGE with a bit above class 11, else the new mask, whose
low byte comes first (log 18). -/
def Obligations.NoticeQueue : Prop :=
  (∀ (low high : Byte) (s : State), slotFree s → s.store.saving = none →
    (16 ≤ high.toNat → exec (.put [11, 0, 5, low, high]) s = .next (answered 0x05 .range [] (taken s)).finish) ∧
    (high.toNat < 16 → exec (.put [11, 0, 5, low, high]) s = .next (answered 0x05 .ok []
      ((taken s).withTables { s.tables with notice := low.toNat + 256 * high.toNat })).finish)) ∧
  (∀ (s : State) (n : NoticeBody),
    (s.tables.notice.testBit n.cls = false → s.takeNotice n = s) ∧
    (s.tables.notice.testBit n.cls = true → 32 ≤ s.link.notices.length →
      s.takeNotice n = s.withLink { s.link with overrun := true, lostCount := min 255 (s.link.lostCount + 1) }) ∧
    (s.tables.notice.testBit n.cls = true → s.link.notices.length < 32 → s.link.overrun = true →
      s.takeNotice n = s.withLink { s.link with
        notices := s.link.notices ++ [{ lost := true, lostCount := s.link.lostCount, elapsed := s.now, body := n }]
        overrun := false, lostCount := 0 }) ∧
    (s.tables.notice.testBit n.cls = true → s.link.notices.length < 32 → s.link.overrun = false →
      s.takeNotice n = s.withLink { s.link with
        notices := s.link.notices ++ [{ lost := false, lostCount := 0, elapsed := s.now, body := n }] }))

/-! ## Time base (1.1, 1.2, 1.6) -/

/-- The events of civil time as it runs: the boundary is issued once, and handed to the blocks; which minute it is for is log
35's. At the half-minute a dial whose target rises acts on the rise. The end of a slewed kept second (where it lies is log
8's), and the end of the range of kept time: UNSET, no slew, no offset, no today record; that the dials and the
floodlights are told before the TIME notice is log 16's choice. (A command whose instant has passed acts late: log 1.) -/
def Obligations.EventsOfRunningTime : Prop :=
  (∀ (s : State) (offset seen : Nat), s.ready = true → s.time.offset = some offset →
      (s.time.minuteSeen = some seen →
        let t := s.runToKept ((seen + 1) * 60000 - offset * 60000)
        exec .civilMinuteBoundary s = .next ((t.withTime { t.time with minuteSeen := some (seen + 1) }).postAll
          [.minuteDay (seen + 1), .minuteStrike (seen + 1)]).finish) ∧
      (s.time.halfSeen = some seen →
        let t := s.runToKept ((seen + 1) * 30000 - offset * 60000)
        let u := t.withTime { t.time with halfSeen := some (seen + 1) }
        let rose := u.withDials { u.dials with half := some ((seen + 1) % 1440) }
        exec .civilHalfMinuteBoundary s = .next (rose.each [0, 1, 2, 3] fun d v =>
          if v.target (v.dialRec d) = u.target (v.dialRec d) then v else v.riseDial d).finish)) ∧
  (∀ (s : State) (kept : Nat), s.ready = true → s.time.kept = some kept →
      (s.time.slew ≠ 0 →
        exec .keptSecondEnd s =
          .next (s.runToKept ((kept / 1000 + (if s.time.slewArmed then 1 else 2)) * 1000)).finish) ∧
      (let t := s.runToKept (36525 * 86400000)
       exec .rangeEnd s = .next ((((t.withTime { t.time with
          kept := none, sub := 0, state := .unset, slew := 0, slewArmed := false, slewHold := false, offset := none,
          prevConf := none, lastConf := none, minuteSeen := none, halfSeen := none }).withDay
            { t.day with today := none }).postAll [.unsetDials, .unsetFloods]).notify
              (.time .rangeEnd t.time.state .unset 0 none)).finish))

/-- The changes of time state the time base times on its own, and the seasonal instant: the offset in force is the rule's
outside LOCKED. A change of civil time otherwise than by running: one civil step to the day programme, the strike
generator and the dials, and the TIME notice with its size; from UNSET the time-set event; without a change no step. That
the step goes to those blocks before the TIME notice is log 16's choice, what a step makes of the boundaries already seen
log 35's. (A command whose instant has passed acts late: log 1.) -/
def Obligations.TimeStates : Prop :=
  ((∀ (s : State) (last : Nat), s.ready = true → s.time.state = .locked → s.time.lastConf = some last →
      let t := s.runTo (last + 300000)
      exec .lossOfLock s = .next (t.retime { t.time with
        state := .holdover, holdStart := t.time.kept, prevConf := none, lastConf := none
        offset := t.time.kept.map (ruleOffset t.tables.time) } .holdover true).finish) ∧
    (∀ (s : State) (start : Nat), s.ready = true → s.time.state = .holdover → s.time.holdStart = some start →
      let t := s.runToKept (start + s.tables.time.holdLimit * 3600000)
      exec .holdoverLimit s = .next (t.retime { t.time with
        state := .free, offset := t.time.kept.map (ruleOffset t.tables.time) } .freeRun true).finish) ∧
    (∀ (s : State) (kept instant : Nat), s.ready = true → s.time.state = .free ∨ s.time.state = .holdover →
      s.time.kept = some kept → s.time.offset = some (ruleOffset s.tables.time kept) →
      nextEdge s.tables.time kept = some instant →
      let t := s.runToKept instant
      exec .seasonalInstant s = .next (t.retime { t.time with
        offset := t.time.kept.map (ruleOffset t.tables.time) } .seasonal false).finish)) ∧
  (∀ (s : State) (b : TimeBase) (cause : TimeCause) (always : Bool) (new : Nat), b.civil = some new →
      (∀ old, s.time.civil = some old → old ≠ new →
        s.retime b cause always =
          (((s.withTime { b with minuteSeen := some (new / 60000), halfSeen := some (new / 30000) }).postAll
            [.stepDay old new, .stepStrike old new, .stepDials new]).notify
              (.time cause s.time.state b.state ((new : Int) - old) (some new)))) ∧
      (s.time.civil = some new →
        s.retime b cause always =
          if always then (s.withTime b).notify (.time cause s.time.state b.state 0 (some new)) else s.withTime b) ∧
      (s.time.civil = none →
        s.retime b cause always =
          (((s.withTime { b with minuteSeen := some (new / 60000), halfSeen := some (new / 30000) }).postAll
            [.timeSetDay new, .timeSetStrike new, .timeSetDials new]).notify
              (.time cause s.time.state b.state 0 (some new)))))

/-- A confirmation leaves the time base LOCKED with the flag's offset in force, its timer begun and its own offset reported.
From UNSET kept time is set; in any other state the offset, against the kept time latched at the phase instant or, a SETTIME
having come between, against the kept time then (R8), is corrected by a step at or above the threshold and by the slew below
it. The trim moves where two confirmations in a row come in LOCKED and the offset is below the threshold, by a quarter of the
drift over the interval, within 2000 of zero; over 0 s it is log 11's free value. In every other case it stands. -/
def Obligations.Confirmation : Prop :=
  ∀ (tel : Telegram) (phase : Latch) (source : PhaseSource) (s : State),
    let t := confirmation tel phase source s
    let threshold := s.tables.time.threshold
    let ago : Int := ((s.now - phase.elapsed : Nat) : Int)
    let latched : Int := if phase.superseded then (s.time.kept.getD 0 : Int) - ago else (phase.kept.getD 0 : Int)
    let offset : Int := tel.label - latched
    t.time.state = .locked ∧ t.time.lastConf = some s.now ∧ t.time.lastPhase = some source ∧
    t.time.offset = some (if tel.seasonal then s.tables.time.offset else 0) ∧ t.time.elapsed = s.time.elapsed ∧
    (-2000 ≤ s.time.trim → s.time.trim ≤ 2000 → -2000 ≤ t.time.trim ∧ t.time.trim ≤ 2000) ∧
    (s.time.state = .unset →
      t.time.kept = some (tel.label + (s.now - phase.elapsed)) ∧ t.time.slew = 0 ∧ t.time.trim = s.time.trim) ∧
    (s.time.state ≠ .unset →
      t.time.lastOffset = some offset ∧ t.time.prevConf = some { phase := phase.elapsed, offset := offset, account := 0 } ∧
      ((threshold : Int) ≤ |offset| →
        t.time.kept = s.time.kept.map (fun kept : Nat => ((kept : Int) + offset).toNat) ∧ t.time.slew = 0) ∧
      (|offset| < (threshold : Int) → t.time.kept = s.time.kept ∧ t.time.slew = offset) ∧
      (∀ p, s.time.state = .locked → s.time.prevConf = some p → |offset| < (threshold : Int) →
        let interval := (phase.elapsed - p.phase) / 1000
        let drift := offset - (p.offset - p.account)
        t.time.lastInterval = some interval ∧
        t.time.trim = max (-2000) (min 2000 (s.time.trim +
          if interval = 0 then Config.driftOverZero drift else Int.tdiv (drift * 2500) interval))) ∧
      (s.time.state ≠ .locked ∨ s.time.prevConf = none ∨ (threshold : Int) ≤ |offset| →
        t.time.trim = s.time.trim ∧ t.time.lastInterval = none))

/-- SETTIME: RANGE for a date or time out of range (in LOCKED too: log 54), REFERENCE_HELD in LOCKED, else kept time is
set and the state is FREE. PUT of the TIME group: a new reference mode acts first (a confirmation it delivers is handled with
the new settings, and before the new limit: log 58): no second marks, no skew, a decision that waits cleared, to NONE no
qualification and a LOCKED state in HOLDOVER, to TELEGRAM the confirmations owed delivered with their telegram marks. Then, in
HOLDOVER, a limit already passed makes the state FREE (with one notice, whose cause is FREE_RUN where the offset changes too:
log 65), and else the offset is the rule's anew, in LOCKED the last flag's, with a civil step and cause SEASONAL where civil
time changes; in UNSET nothing. -/
def Obligations.SetTime : Prop :=
  (∀ (yh yl month day hour minute second mh ml : Byte) (s : State), slotFree s →
    let body := [yh, yl, month, day, hour, minute, second, mh, ml]
    let date : Date := { year := yh.toNat * 256 + yl.toNat, month := month.toNat, day := day.toNat }
    let ms := mh.toNat * 256 + ml.toNat
    let good := date.valid = true ∧ 2000 ≤ date.year ∧ date.year ≤ 2099 ∧ hour.toNat < 24 ∧ minute.toNat < 60 ∧
      second.toNat < 60 ∧ ms < 1000
    let kept := dateMs date + timeMs hour.toNat minute.toNat second.toNat ms
    (¬good → exec (.settime body) s = .next (answered 0x10 .range [] (taken s)).finish) ∧
    (good → s.time.state = .locked → exec (.settime body) s = .next (answered 0x10 .referenceHeld [] (taken s)).finish) ∧
    (good → s.time.state ≠ .locked →
      exec (.settime body) s = .next (answered 0x10 .ok []
        (((taken s).withRefs s.refs.supersede).retime { s.time with
          kept := some kept, sub := 0, slew := 0, slewArmed := false, slewHold := false, prevConf := none,
          lastConf := none, state := .free, offset := some (ruleOffset s.tables.time kept) } .set true)).finish)) ∧
  (∀ (new : TimeSettings) (s : State),
    let t := s.withTables { s.tables with time := new }
    (s.tables.time.mode = new.mode → s.newTimeSettings new = t.applyTimeSettings) ∧
    (s.tables.time.mode ≠ new.mode → s.newTimeSettings new = (t.changeMode new.mode).applyTimeSettings)) ∧
  (∀ s : State,
    let cleared : RefMonitor := { s.refs with
      second := .absent, secondCount := 0, lastEdge := none, skew := none, deciding := [] }
    let quiet := s.withRefs { cleared with
      qual := .absent, count := 0, predecessor := none, pending := none, record := none, prevMark := none }
    let offset := s.time.kept.map (ruleOffset s.tables.time)
    s.changeMode .auto = s.withRefs cleared ∧
    s.changeMode .telegram = s.refs.deciding.foldl (fun t d => match d.confirms with
      | some tel => confirmation tel d.mark .telegram t
      | none => t) (s.withRefs cleared) ∧
    (s.time.state ≠ .locked → s.changeMode .off = quiet) ∧
    (s.time.state = .locked → s.changeMode .off = quiet.retime { s.time with
      state := .holdover, holdStart := s.time.kept, prevConf := none, lastConf := none, offset := offset } .mode true)) ∧
  (∀ s : State,
    let offset := s.time.kept.map (ruleOffset s.tables.time)
    let flagged := some (if s.time.flagS then s.tables.time.offset else 0)
    let passed := ∃ start kept, s.time.holdStart = some start ∧ s.time.kept = some kept ∧
      start + s.tables.time.holdLimit * 3600000 ≤ kept
    (s.time.state = .unset → s.applyTimeSettings = s) ∧
    (s.time.state = .locked → s.applyTimeSettings = s.retime { s.time with offset := flagged } .seasonal false) ∧
    (s.time.state = .free ∨ s.time.state = .holdover ∧ ¬passed →
      s.applyTimeSettings = s.retime { s.time with offset := offset } .seasonal false) ∧
    (s.time.state = .holdover → passed →
      s.applyTimeSettings = s.retime { s.time with state := .free, offset := offset } .freeRun true))

/-! ## Reference monitor (1.3-1.5) -/

/-- The telegram record, character by character: a `#` begins one, a character out of place fails it, and the carriage return
of a full one makes its telegram pending or fails it; a `#` inside one fails it and begins another, a character outside
one is ignored, and a telegram that completes while another is pending fails that one. The limits of the telegram line: a
record not complete in 2000 ms fails, a telegram whose mark does not come fails, and 180 000 ms of silence make the
qualification ABSENT. What the last telegram shows of a record cut short is log 14's. (A command whose instant has passed
acts late: log 1.) -/
def Obligations.TelegramLine : Prop :=
  (∀ s : State, s.ready = true → s.tables.time.mode ≠ .off →
      (s.refs.record = none →
        exec (.telegramRecord [0x23]) s = .next (s.withRefs { s.refs with record := some (s.now, [0x23]) }).finish ∧
        ∀ c, c ≠ 0x23 → exec (.telegramRecord [c]) s = .next s.finish) ∧
      (∀ start chars, s.refs.record = some (start, chars) →
        exec (.telegramRecord [0x23]) s = .next (s.withRefs { s.refs with
          record := some (s.now, [0x23]), lastTelegramTime := some s.now, qual := .checking, count := 0, predecessor := none
          lastTelegram := some (chars, false) }).finish) ∧
      (∀ start chars c, s.refs.record = some (start, chars) → chars.length < 16 → c ≠ 0x23 →
        (allowedAt chars.length c = true →
          exec (.telegramRecord [c]) s = .next (s.withRefs { s.refs with record := some (start, chars ++ [c]) }).finish) ∧
        (allowedAt chars.length c = false →
          exec (.telegramRecord [c]) s = .next (s.withRefs { s.refs with
            record := none, lastTelegramTime := some s.now, qual := .checking, count := 0, predecessor := none
            lastTelegram := some (chars, false) }).finish)) ∧
      (∀ start chars, s.refs.record = some (start, chars) → chars.length = 16 →
        (∀ c, c ≠ 0x23 → c ≠ 0x0D →
          exec (.telegramRecord [c]) s = .next (s.withRefs { s.refs with
            record := none, lastTelegramTime := some s.now, qual := .checking, count := 0, predecessor := none
            lastTelegram := some (chars, false) }).finish) ∧
        (readTelegram s.tables.time chars = none →
          exec (.telegramRecord [0x0D]) s = .next (s.withRefs { s.refs with
            record := none, lastTelegramTime := some s.now, qual := .checking, count := 0, predecessor := none
            lastTelegram := some (chars, false) }).finish) ∧
        (∀ tel, readTelegram s.tables.time chars = some tel → s.refs.pending = none →
          exec (.telegramRecord [0x0D]) s = .next (s.withRefs { s.refs with
            record := none, lastTelegramTime := some s.now
            pending := some { telegram := tel, chars := chars, deadline := (s.recentMark.getD s.now) + 61000 } }).finish) ∧
        (∀ tel p, readTelegram s.tables.time chars = some tel → s.refs.pending = some p →
          exec (.telegramRecord [0x0D]) s = .next (s.withRefs { s.refs with
            record := none, lastTelegramTime := some s.now, qual := .checking, count := 0, predecessor := none
            lastTelegram := some (p.chars, false)
            pending := some { telegram := tel, chars := chars, deadline := (s.recentMark.getD s.now) + 61000 } }).finish))) ∧
  (∀ s : State, s.ready = true → s.tables.time.mode ≠ .off →
      (∀ start chars, s.refs.record = some (start, chars) →
        let t := s.runTo (start + 2000)
        exec .telegramRecordTimeout s = .next (t.withRefs { t.refs with
          record := none, lastTelegramTime := some t.now, qual := .checking, count := 0, predecessor := none
          lastTelegram := some (chars, false) }).finish) ∧
      (∀ p, s.refs.pending = some p →
        let t := s.runTo p.deadline
        exec .telegramMarkDeadline s = .next (t.withRefs { t.refs with
          pending := none, qual := .checking, count := 0, predecessor := none
          lastTelegram := some (p.chars, false) }).finish) ∧
      (∀ last, s.refs.lastTelegramTime = some last →
        let t := s.runTo (last + 180000)
        exec .telegramSilence s = .next (t.withRefs { t.refs with
          qual := .absent, count := 0, predecessor := none, pending := none }).finish))

/-- A telegram mark in TELEGRAM mode: latched; a pending telegram in its band is qualified, and confirmed with the
mark as its phase where it is the second in a row; one out of its band fails. In AUTO mode the same is done with the telegram,
and the mark is decided at once with the skew unset where the second marks are ABSENT, else it waits for its decision with the
last second mark within 1000 ms and the confirmation it owes. A mark without a pending telegram is latched alone (log 13). The
qualification: two consistent telegrams in a row confirm, an inconsistent one begins again at 1. -/
def Obligations.TelegramMarks : Prop :=
  (∀ s : State, s.ready = true → s.tables.time.mode = .telegram →
      (s.refs.pending = none →
        exec .telegramMark s = .next (s.withRefs { s.refs with prevMark := some s.now }).finish) ∧
      (∀ p, s.refs.pending = some p → s.markInBand = false →
        exec .telegramMark s = .next (s.withRefs { s.refs with
          pending := none, qual := .checking, count := 0, predecessor := none, lastTelegram := some (p.chars, false)
          prevMark := some s.now }).finish) ∧
      (∀ p, s.refs.pending = some p → s.markInBand = true →
        let q := s.refs.qualify p.telegram
        let t := s.withRefs { q.1 with
          pending := none, prevMark := some s.now, lastTelegram := some (p.chars, true) }
        exec .telegramMark s = .next (if q.2 then confirmation p.telegram
          { elapsed := s.now, kept := s.time.kept, superseded := false } .telegram t else t).finish)) ∧
  (∀ s : State, s.ready = true → s.tables.time.mode = .auto →
      let mark : Latch := { elapsed := s.now, kept := s.time.kept, superseded := false }
      let waits (r : RefMonitor) (confirms : Option Telegram) : State := s.withRefs { r with
        deciding := s.refs.deciding ++ [{ mark := mark, confirms := confirms
                                          before := s.refs.lastEdge.filter fun e => s.now - e.latch.elapsed ≤ 1000 }] }
      (s.refs.pending = none →
        exec .telegramMark s = .next (s.withRefs { s.refs with prevMark := some s.now }).finish) ∧
      (∀ p, s.refs.pending = some p → s.markInBand = false →
        let failed : RefMonitor := { s.refs with
          pending := none, qual := .checking, count := 0, predecessor := none, lastTelegram := some (p.chars, false)
          prevMark := some s.now }
        (s.refs.second = .absent → exec .telegramMark s = .next (s.withRefs { failed with skew := none }).finish) ∧
        (s.refs.second ≠ .absent → exec .telegramMark s = .next (waits failed none).finish)) ∧
      (∀ p, s.refs.pending = some p → s.markInBand = true →
        let q := s.refs.qualify p.telegram
        let passed : RefMonitor := { q.1 with
          pending := none, prevMark := some s.now, lastTelegram := some (p.chars, true) }
        (s.refs.second = .absent →
          let t := s.withRefs { passed with skew := none }
          exec .telegramMark s = .next (if q.2 then confirmation p.telegram mark .telegram t else t).finish) ∧
        (s.refs.second ≠ .absent →
          exec .telegramMark s = .next (waits passed (if q.2 then some p.telegram else none)).finish))) ∧
  (∀ (r : RefMonitor) (tel : Telegram),
      let consistent := ∃ p, r.predecessor = some p ∧ tel.label = p.label + 60000 ∧
        (tel.seasonal = p.seasonal ∨ p.announce = true)
      (r.qualify tel).1.predecessor = some tel ∧
      (r.qual = .absent ∨ ¬consistent →
        (r.qualify tel).1.qual = .checking ∧ (r.qualify tel).1.count = 1 ∧ (r.qualify tel).2 = false) ∧
      (r.qual = .checking → r.count = 1 → consistent →
        (r.qualify tel).1.qual = .confirmed ∧ (r.qualify tel).1.count = 2 ∧ (r.qualify tel).2 = true) ∧
      (r.qual = .confirmed → consistent →
        (r.qualify tel).1.qual = .confirmed ∧ (r.qualify tel).1.count = min 255 (r.count + 1) ∧ (r.qualify tel).2 = true))

/-- The second-mark state and count after an edge, by the table of the rule; an edge outside AUTO is ignored. An edge with a
decision waiting makes it: the nearer of the mark before and this one is chosen, the earlier at equal distances, the skew
is recorded, and a confirmation owed takes the chosen mark as its phase where it is stable and within 50 ms, else the
telegram mark. A skew decision whose 1000 ms have run is made with the mark before it alone: a confirmation it owes takes
the second mark as its phase only where that mark is stable and within 50 ms. (A command whose instant has passed acts
late: log 1.) -/
def Obligations.SecondMarksAndSkew : Prop :=
  ((∀ s : State, s.ready = true → s.tables.time.mode = .auto → s.refs.deciding = [] →
      let interval := s.refs.lastEdge.map fun e => s.now - e.latch.elapsed
      let good := ∃ i, interval = some i ∧ 998 ≤ i ∧ i ≤ 1002
      let after (state : SecState) (count : Nat) : Prop := exec .secondMarkEdge s = .next (s.withRefs { s.refs with
        second := state, secondCount := count
        lastEdge := some { latch := { elapsed := s.now, kept := s.time.kept, superseded := false },
                           stable := decide (state = .stable) } }).finish
      (s.refs.second = .absent → after .unstable 0) ∧
      (s.refs.second = .unstable → good → s.refs.secondCount ≠ 9 → after .unstable (s.refs.secondCount + 1)) ∧
      (s.refs.second = .unstable → good → s.refs.secondCount = 9 → after .stable 10) ∧
      (s.refs.second = .unstable → ¬good → after .unstable 0) ∧
      (s.refs.second = .stable → good → after .stable 10) ∧
      (s.refs.second = .stable → ¬good → after .unstable 0)) ∧
    (∀ (s : State) (e : SecEdge), s.ready = true → s.refs.lastEdge = some e →
      let t := s.runTo (e.latch.elapsed + 3000)
      exec .secondMarkTimeout s = .next (t.withRefs { t.refs with
        second := .absent, secondCount := 0, lastEdge := none }).finish) ∧
    (∀ s : State, s.ready = true → s.tables.time.mode ≠ .auto → exec .secondMarkEdge s = .next s.finish)) ∧
  (∀ (s : State) (d : Decision), s.ready = true → s.tables.time.mode = .auto → s.refs.deciding = [d] →
      let moved := secondAfter s.refs.second s.refs.secondCount (s.refs.lastEdge.map fun e => s.now - e.latch.elapsed)
      let edge : SecEdge := { latch := { elapsed := s.now, kept := s.time.kept, superseded := false },
                              stable := decide (moved.1 = .stable) }
      let recorded (skew : Option Int) : State := s.withRefs { s.refs with
        second := moved.1, secondCount := moved.2, lastEdge := some edge, deciding := [], skew := skew }
      let after := s.now - d.mark.elapsed
      let decided (chosen : Option SecEdge) : Prop :=
        let skew : Option Int := chosen.map fun e => (e.latch.elapsed : Int) - d.mark.elapsed
        (d.confirms = none → exec .secondMarkEdge s = .next (recorded skew).finish) ∧
        (∀ tel, d.confirms = some tel →
          (∀ e, chosen = some e → e.stable = true → |(e.latch.elapsed : Int) - d.mark.elapsed| ≤ 50 →
            exec .secondMarkEdge s = .next (confirmation tel e.latch .second (recorded skew)).finish) ∧
          ((∀ e, chosen = some e → e.stable = false ∨ 50 < |(e.latch.elapsed : Int) - d.mark.elapsed|) →
            exec .secondMarkEdge s = .next (confirmation tel d.mark .telegram (recorded skew)).finish))
      (d.before = none → after ≤ 1000 → decided (some edge)) ∧
      (d.before = none → 1000 < after → decided none) ∧
      (∀ e, d.before = some e →
        (after ≤ 1000 → after < d.mark.elapsed - e.latch.elapsed → decided (some edge)) ∧
        (1000 < after ∨ d.mark.elapsed - e.latch.elapsed ≤ after → decided (some e)))) ∧
  (∀ (s : State) (d : Decision) (tel : Telegram), s.ready = true → s.refs.deciding = [d] → d.confirms = some tel →
      let t := s.runTo (d.mark.elapsed + 1000)
      (d.before = none →
        exec .skewDecisionTimeout s = .next (confirmation tel d.mark .telegram
          (t.withRefs { t.refs with deciding := [], skew := none })).finish) ∧
      (∀ e, d.before = some e →
        let skew : Int := (e.latch.elapsed : Int) - d.mark.elapsed
        let u := t.withRefs { t.refs with deciding := [], skew := some skew }
        exec .skewDecisionTimeout s =
          .next (if e.stable = true ∧ |skew| ≤ 50 then confirmation tel e.latch .second u
            else confirmation tel d.mark .telegram u).finish))

/-! ## Day programme (chapter 2) -/

/-- QUIET sets or clears the quiet flag (ON is 0, OFF is 1: log 18); a value that is neither is RANGE. A candidate is
judged once: at or before its guard it does nothing; else the guard takes its minute, and it fires within its lateness
and is skipped as late after it. -/
def Obligations.QuietAndGuards : Prop :=
  (∀ (v : Byte) (s : State), slotFree s →
      (v.toNat ≤ 1 → exec (.quiet [v]) s = .next (answered 0x12 .ok []
        ((taken s).withDay { s.day with quiet := decide (v.toNat = 0) })).finish) ∧
      (2 ≤ v.toNat → exec (.quiet [v]) s = .next (answered 0x12 .range [] (taken s)).finish)) ∧
  (∀ (e minute now : Nat) (s : State),
      ((∃ g, s.guard e = some g ∧ minute ≤ g) → judgeEntry e minute now s = s) ∧
      ((∀ g, s.guard e = some g → g < minute) →
        (judgeEntry e minute now s).guard e = some minute ∧
        (now - minute ≤ (s.entryRec e).lateness →
          judgeEntry e minute now s = fireEntry e minute now (s.setGuard e (some minute))) ∧
        ((s.entryRec e).lateness < now - minute →
          judgeEntry e minute now s = (s.setGuard e (some minute)).notify
            (.skipped e (now / 1440) (minute % 1440) (now % 1440) (s.entryRec e).action .late .ok))))

/-- What the day programme reads: the day class of a date, the table dusk and dawn, the instants a light transition or
an evaluation fixes, the trigger minute of an entry, and when it applies. A LIGHT transition at 00:00:00.000 taken
before the boundary is log 55's. -/
def Obligations.DayRecord : Prop :=
  (∀ (s : State) (day : Nat),
    let fits (e : Special) : Prop := e.used = true ∧ e.month = (dateOf day).month ∧ e.day = (dateOf day).day ∧
      (e.year = none ∨ e.year = some (dateOf day).year)
    ((∀ x ∈ s.tables.special, ¬fits x.2) → s.dayClass day = (.weekday (weekdayOf day), none)) ∧
    ((∃ x ∈ s.tables.special, fits x.2) → ∃ i e, (i, e) ∈ s.tables.special ∧ fits e ∧
      s.dayClass day = (.special e.cls, some i) ∧
      (e.year = none → ∀ x ∈ s.tables.special, fits x.2 → x.2.year = none))) ∧
  (∀ (s : State) (minute : Nat),
    let civil := minute + s.time.offset.getD 0
    s.civilSun none = none ∧ s.tableSun none = none ∧
    s.civilSun (some minute) = (if civil ≤ 1439 then some civil else none) ∧
    s.tableSun (some minute) =
      if civil ≤ 1439 ∧ civil + s.tables.light.margin ≤ 1439 then some (civil + s.tables.light.margin) else none) ∧
  (∀ (s : State) (t : Today) (now : Nat),
    let u := s.fixInstants t now
    let fixed (old new : Option (Nat × SunSource)) (table : Option Nat) : Prop :=
      (∀ i, old = some i → new = some i) ∧ (old = none → table = none → new = none) ∧
      ∀ m, old = none → table = some m → new = if m ≤ now then some (m, .table) else none
    fixed t.dusk u.dusk (s.tableSun (s.sunRec (sunIndex t.day)).dusk) ∧
    fixed t.dawn u.dawn (s.tableSun (s.sunRec (sunIndex t.day)).dawn) ∧ u = { t with dusk := u.dusk, dawn := u.dawn }) ∧
  (∀ (s : State) (t : Today) (civil : Nat), s.day.today = some t → s.time.civil = some civil →
    let ms := civil % 86400000
    let minute := max ((ms + 59999) / 60000) (match t.last with | some l => l + 1 | none => 0)
    (t.dusk = none → 43200000 ≤ ms → minute ≤ 1439 →
      transitionDay .dark s = s.withDay { s.day with today := some { t with dusk := some (minute, .light) } }) ∧
    (t.dusk ≠ none ∨ ms < 43200000 ∨ 1439 < minute → transitionDay .dark s = s) ∧
    (t.dawn = none → ms < 43200000 →
      transitionDay .light s = s.withDay { s.day with today := some { t with dawn := some (minute, .light) } }) ∧
    (t.dawn ≠ none ∨ 43200000 ≤ ms → transitionDay .light s = s)) ∧
  (∀ (s : State) (t : Today) (e : Entry),
    let sun := s.sunRec (sunIndex t.day)
    let follows (instant : Option (Nat × SunSource)) (table : Option Nat) (offset : Int) : Prop :=
      (∀ m : Nat, s.trigger t e = some m ↔ (m ≤ 1439 ∧
        if 0 ≤ offset then ∃ i, instant = some i ∧ (m : Int) = i.1 + offset
        else ∃ c, s.civilSun table = some c ∧ (m : Int) = c + offset))
    (∀ m, e.trigger = .clock m → s.trigger t e = some m) ∧
    (∀ offset, e.trigger = .dusk offset → follows t.dusk sun.dusk offset) ∧
    (∀ offset, e.trigger = .dawn offset → follows t.dawn sun.dawn offset) ∧
    (e.applies t = true ↔ e.used = true ∧
      (match t.cls with
        | .special c => e.classes.testBit c = true
        | .weekday w => e.days.testBit (w - 1) = true) ∧
      ∀ w, e.window = some w →
        let code (month day : Nat) : Nat := month * 32 + day
        let today := code (dateOf t.day).month (dateOf t.day).day
        if code w.fromMonth w.fromDay ≤ code w.toMonth w.toDay then
          code w.fromMonth w.fromDay ≤ today ∧ today ≤ code w.toMonth w.toDay
        else code w.fromMonth w.fromDay ≤ today ∨ today ≤ code w.toMonth w.toDay))

/-- An evaluation: the instants fixed, the candidates judged in index order, the minute the last evaluated. The
candidates are the applying entries whose trigger minute lies after the last evaluated and not after now. A boundary, a
step, the time-set event and READY each choose the range; a backward step judges nothing. A fired entry hands its action
over at once: a performance offered, or skipped while the quiet flag is set; a peal or a scene, whose refusal is
reported; the quiet flag. -/
def Obligations.DayEvaluation : Prop :=
  (∀ (s : State) (t : Today) (now : Nat), s.tablesCanonical →
    (∀ e m, (e, m) ∈ s.candidates t now ↔ (s.entryRec e).applies t = true ∧ s.trigger t (s.entryRec e) = some m ∧
      (∀ l, t.last = some l → l < m) ∧ m ≤ now) ∧
    (s.candidates t now).Pairwise (fun a b => a.1 < b.1)) ∧
  (∀ (s : State) (t : Today) (minute : Nat),
    let fixed := s.fixInstants t (minute % 1440)
    s.evaluate t minute = (s.withDay { s.day with today := some { fixed with last := some (minute % 1440) } }).postAll
      ((s.candidates fixed (minute % 1440)).map fun c => .judgeEntry c.1 (t.day * 1440 + c.2) minute)) ∧
  (∀ (s : State) (minute old new civil : Nat),
    let built (day : Nat) : Today :=
      { day := day, cls := (s.dayClass day).1, special := (s.dayClass day).2, dusk := none, dawn := none, last := none }
    let moved (t : Today) (m : Nat) : State := s.withDay { s.day with today := some { t with last := some (m % 1440) } }
    let toMinute := new / 60000
    let toDay := toMinute / 1440
    (s.day.today = none → minuteDay minute s = s ∧ stepDay old new s = s) ∧
    (∀ t, s.day.today = some t →
      (t.day = minute / 1440 → minuteDay minute s = s.evaluate t minute) ∧
      (t.day ≠ minute / 1440 → minuteDay minute s = s.evaluate (built (minute / 1440)) minute) ∧
      (t.day = toDay → old < new → stepDay old new s = s.evaluate t toMinute) ∧
      (t.day = toDay → new ≤ old → stepDay old new s = moved t toMinute) ∧
      (t.day < toDay → stepDay old new s = s.evaluate (built toDay) toMinute) ∧
      (toDay < t.day → stepDay old new s = moved (built toDay) toMinute)) ∧
    timeSetDay civil s = s.evaluate (built (civil / 86400000)) (civil / 60000) ∧
    (s.time.civil = none → readyDay s = s.withDay { s.day with today := none }) ∧
    (∀ t, s.time.civil = some civil → s.day.today = some t →
      (t.day = civil / 60000 / 1440 → readyDay s = s.evaluate t (civil / 60000)) ∧
      (t.day < civil / 60000 / 1440 → readyDay s = s.evaluate (built (civil / 60000 / 1440)) (civil / 60000)))) ∧
  (∀ (e minute now : Nat) (s : State),
    let action := (s.entryRec e).action
    let skipped (t : State) (reason : SkipReason) (status : Status) : State :=
      t.notify (.skipped e (now / 1440) (minute % 1440) (now % 1440) (t.entryRec e).action reason status)
    let offered (kind : PerfKind) (args : PerfArgs) : Prop :=
      let p : Perf :=
        { id := 0, kind := kind, args := args, origin := .schedule, entry := some e, due := s.now
          deadline := s.now + s.tables.strike.lateness * 1000, playing := false, blocked := false, rep := 0, note := 0
          lost := 0, clipped := 0 }
      (s.day.quiet = true → fireEntry e minute now s = skipped s .quiet .ok) ∧
      (s.day.quiet = false → fireEntry e minute now s =
        match (s.offer p).2 with
        | .accepted _ => (s.offer p).1
        | .noEntry => skipped (s.offer p).1 .refused .noEntry
        | .queueFull => (s.offer p).1.notify (.dropped p false .queueFull))
    let handed (r : State × Status) : Prop :=
      fireEntry e minute now s = if r.2 = .ok then r.1 else skipped r.1 .refused r.2
    (∀ tune repeats, action = .tune tune repeats → offered .tune (.tune tune repeats)) ∧
    (∀ bell count interval, action = .toll bell count interval →
      offered .toll (.strokes bell count (interval * 1000) s.tables.strike.velocity)) ∧
    (∀ plan, action = .peal plan → handed (startPeal plan s)) ∧
    (∀ scene, action = .scene scene → handed (activateScene scene s)) ∧
    (action = .quietBegin → fireEntry e minute now s = s.withDay { s.day with quiet := true }) ∧
    (action = .quietEnd → fireEntry e minute now s = s.withDay { s.day with quiet := false }))

/-! ## Strike generator and chime player (chapter 4) -/

/-- A quarter instant not later than the guard is ignored; else it is taken at once, and its performances, the quarter's
tune and then the hour's strokes, are offered where the lateness is within the strike lateness, and each skipped as late
where not, or as quiet while the quiet flag is set. By running the instant is a boundary at a quarter; a forward step,
the time-set event and READY take the latest instant passed, and a backward step none. -/
def Obligations.StrikeGenerator : Prop :=
  (∀ (quarter civil : Nat) (s : State),
    let t := s.withChime { s.chime with quarterGuard := some quarter }
    let made := quarterPerfs s.tables.strike quarter
    ((∃ g, s.chime.quarterGuard = some g ∧ quarter ≤ g) → takeQuarter quarter civil s = s) ∧
    ((∀ g, s.chime.quarterGuard = some g → g < quarter) →
      (civil - quarter * 900000 ≤ s.tables.strike.lateness * 1000 →
        takeQuarter quarter civil s = made.foldl (fun t k => t.generate quarter civil k) t) ∧
      (s.tables.strike.lateness * 1000 < civil - quarter * 900000 →
        takeQuarter quarter civil s = t.postAll (made.map fun k => .notice (.skippedStrike k.1 quarter civil .late))))) ∧
  (∀ (r : StrikeSettings) (quarter : Nat),
    let hour := quarter / 4 % 24
    let tune := if quarter % 4 = 0 then r.q4 else if quarter % 4 = 1 then r.q1 else if quarter % 4 = 2 then r.q2 else r.q3
    quarterPerfs r quarter =
      (match tune with
        | some n => if r.quarters then [(.quarter, .tune n 1)] else []
        | none => []) ++
      if quarter % 4 = 0 ∧ r.hours = true then
        [(.hour, .strokes r.hourBell (if hour % 12 = 0 then 12 else hour % 12) r.gap r.velocity)]
      else []) ∧
  (∀ (s : State) (quarter civil : Nat) (kind : PerfKind) (args : PerfArgs),
    let p : Perf :=
      { id := 0, kind := kind, args := args, origin := .generator, entry := none, due := s.now
        deadline := s.now + s.tables.strike.lateness * 1000, playing := false, blocked := false, rep := 0, note := 0
        lost := 0, clipped := 0 }
    (s.day.quiet = true → s.generate quarter civil (kind, args) = s.notify (.skippedStrike kind quarter civil .quiet)) ∧
    (s.day.quiet = false → s.generate quarter civil (kind, args) =
      match (s.offer p).2 with
      | .accepted _ => (s.offer p).1
      | .noEntry => (s.offer p).1.notify (.dropped p false .badTune)
      | .queueFull => (s.offer p).1.notify (.dropped p false .queueFull))) ∧
  (∀ (s : State) (minute old new civil : Nat),
    (∀ q, minute = 15 * q → minuteStrike minute s = takeQuarter q (minute * 60000) s) ∧
    ((∀ q, minute ≠ 15 * q) → minuteStrike minute s = s) ∧
    (∀ q, old < q * 900000 → q * 900000 ≤ new → new < (q + 1) * 900000 → stepStrike old new s = takeQuarter q new s) ∧
    ((∀ q, ¬(old < q * 900000 ∧ q * 900000 ≤ new)) → stepStrike old new s = s) ∧
    (∀ q, q * 900000 ≤ civil → civil < (q + 1) * 900000 →
      timeSetStrike civil s = takeQuarter q civil s ∧ (s.time.civil = some civil → readyStrike s = takeQuarter q civil s)) ∧
    (s.time.civil = none → readyStrike s = s))

/-- The strike queue is kept by due, and at equal due by rank, the quarter before the hour and both before a tune or a toll: an
offer goes behind every performance it does not go before, and before neither the playing one nor a blocked head. An unused
tune refuses it, and then a full queue; an accepted one takes the first id from the next one on that none in the queue has.
PLAY of a tune or a toll, NOW or at a civil time of day: RANGE, NOT_SET for a time of day without civil time, NO_ENTRY,
QUEUE_FULL, else offered with origin REQUEST, due when civil time next reads that time of day (the day being of 24 hours),
and answered with its id (the packing of its body: log 18). CANCEL: NO_ENTRY for an id not in the queue; a waiting performance
is dropped; the playing one sends its release request, once. -/
def Obligations.OfferPlayCancel : Prop :=
  (∀ p q : Perf,
    let rank (k : PerfKind) : Nat := match k with
      | .quarter => 0
      | .hour => 1
      | .tune | .toll => 2
    (p.before q = true ↔ q.playing = false ∧ q.blocked = false ∧
      (p.due < q.due ∨ p.due = q.due ∧ rank p.kind < rank q.kind))) ∧
  (∀ c : Chime, c.queue.length ≤ 16 → ∃ k ≤ 16, c.freeId = (c.nextId + k) % 256 ∧ (∀ p ∈ c.queue, p.id ≠ c.freeId) ∧
    ∀ j < k, ∃ p ∈ c.queue, p.id = (c.nextId + j) % 256) ∧
  (∀ (s : State) (p : Perf),
    let unset := ∃ tune repeats, p.args = .tune tune repeats ∧ (s.tuneRec tune).used = false
    let q := s.chime.queue
    let new := { p with id := s.chime.freeId }
    (unset → s.offer p = (s, .noEntry)) ∧
    (¬unset → 16 ≤ q.length → s.offer p = (s, .queueFull)) ∧
    (¬unset → q.length < 16 →
      s.offer p = (s.withChime { s.chime with
        queue := q.takeWhile (fun w => !new.before w) ++ new :: q.dropWhile (fun w => !new.before w)
        nextId := (new.id + 1) % 256 }, .accepted new.id))) ∧
  (∀ (kind form : Fin 2) (a b c hour minute second : Byte) (s : State), slotFree s →
    let answer := exec (.play [byte (kind + 2 * form : Nat), a, b, c, hour, minute, second]) s
    let args : PerfKind × PerfArgs := if kind = 0 then (.tune, .tune a.toNat b.toNat)
      else (.toll, .strokes a.toNat b.toNat (c.toNat * 1000) s.tables.strike.velocity)
    let goodArgs := if kind = 0 then a.toNat < 64 ∧ (1 ≤ b.toNat ∧ b.toNat ≤ 9) ∧ c.toNat = 0
      else a.toNat < 16 ∧ (1 ≤ b.toNat ∧ b.toNat ≤ 240) ∧ 2 ≤ c.toNat ∧ c.toNat ≤ 60
    let goodDue := if form = 0 then hour.toNat = 0 ∧ minute.toNat = 0 ∧ second.toNat = 0
      else hour.toNat < 24 ∧ minute.toNat < 60 ∧ second.toNat < 60
    let unset := kind = 0 ∧ (s.tuneRec a.toNat).used = false
    let offered (wait : Nat) : Prop :=
      let p : Perf :=
        { id := 0, kind := args.1, args := args.2, origin := .request, entry := none, due := s.now + wait
          deadline := s.now + wait + s.tables.strike.lateness * 1000, playing := false, blocked := false, rep := 0, note := 0
          lost := 0, clipped := 0 }
      (unset → answer = .next (answered 0x18 .noEntry [] (taken s)).finish) ∧
      (¬unset → 16 ≤ s.chime.queue.length → answer = .next (answered 0x18 .queueFull [] (taken s)).finish) ∧
      (¬unset → s.chime.queue.length < 16 →
        answer = .next (answered 0x18 .ok [byte s.chime.freeId] ((taken s).offer p).1).finish)
    let target := (hour.toNat * 3600 + minute.toNat * 60 + second.toNat) * 1000
    (¬(goodArgs ∧ goodDue) → answer = .next (answered 0x18 .range [] (taken s)).finish) ∧
    (goodArgs → goodDue → form = 0 → offered 0) ∧
    (goodArgs → goodDue → form = 1 → s.time.civil = none →
      answer = .next (answered 0x18 .notSet [] (taken s)).finish) ∧
    (∀ civil, goodArgs → goodDue → form = 1 → s.time.civil = some civil →
      (civil % 86400000 ≤ target → offered (target - civil % 86400000)) ∧
      (target < civil % 86400000 → offered (target + 86400000 - civil % 86400000)))) ∧
  (∀ (id : Byte) (s : State), slotFree s →
      ((∀ p ∈ s.chime.queue, p.id ≠ id.toNat) →
        exec (.cancel [id]) s = .next (answered 0x19 .noEntry [] (taken s)).finish) ∧
      (∀ p, s.chime.queue.find? (fun p => p.id = id.toNat) = some p → p.playing = false →
        exec (.cancel [id]) s = .next (answered 0x19 .ok []
          (((taken s).withChime { s.chime with queue := s.chime.queue.filter fun q => q.id ≠ id.toNat }).notify
            (.dropped p true .cancelled))).finish) ∧
      (∀ p pl, s.chime.queue.find? (fun p => p.id = id.toNat) = some p → p.playing = true →
        s.chime.playing = some pl →
        exec (.cancel [id]) s = .next (answered 0x19 .ok []
          (if pl.ended then taken s else
            (((taken s).withChime { s.chime with playing := some { pl with phase := .ending .cancelled } }).post
              (.release pl.bells pl.id)).post .releaseCheck)).finish))

/-- The head's due: time runs to it, and while the player is idle the head is then the one to try (that it is tried when the
messages of the command are done is log 4's). A waiting performance is dropped as late at its start deadline. The start of
the head: dropped with its reason where it cannot be played, blocked where a bell of its set is not strikeable, else
playing, with every bell of its set claimed, its STARTED notice sent and a blow of each bell of its first note requested.
(A command whose instant has passed acts late: log 1.) -/
def Obligations.HeadOfTheQueue : Prop :=
  ((∀ (s : State) (p : Perf), s.ready = true → s.chime.playing = none → s.chime.queue.head? = some p →
      p.blocked = false →
      exec .headDue s = .next (s.runTo p.due).finish ∧ (s.runTo p.due).dueHead = some p) ∧
    (∀ (s : State) (id : Fin 256) (p : Perf), s.ready = true →
      s.chime.queue.find? (fun p => p.id = id.val) = some p → p.playing = false →
      let t := s.runTo p.deadline
      exec (.startDeadline id) s = .next ((t.withChime { t.chime with
        queue := t.chime.queue.filter fun q => q.id ≠ p.id }).notify (.dropped p true .late)).finish)) ∧
  (∀ (s : State) (p : Perf),
      (∀ reason, s.unusable p = some reason → s.tryHead p = s.drop p reason) ∧
      (s.unusable p = none → ((s.bellSet p).all s.strikeable) = false →
        s.tryHead p = s.withChime { s.chime with
          queue := s.chime.queue.map fun q => if q.id = p.id then { q with blocked := true } else q }) ∧
      (s.unusable p = none → ((s.bellSet p).all s.strikeable) = true → s.chime.queue.head? = some p →
        let t := s.tryHead p
        let starts := { p with playing := true, blocked := false, rep := 1, note := 0 }
        let run : Option Run × Option Nat := match p.args with
          | .tune n _ => (some { first := (s.tuneRec n).first, count := (s.tuneRec n).count, tempo := (s.tuneRec n).tempo }, some n)
          | .strokes .. => (none, none)
        let first : List Nat × Velocity := match p.args with
          | .tune n _ => ((s.noteRec (s.tuneRec n).first).bells, (s.noteRec (s.tuneRec n).first).velocity)
          | .strokes bell _ _ velocity => ([bell], velocity)
        t.chime.playing = some { id := p.id, run := run.1, tune := run.2, bells := s.bellSet p, started := s.now, marks := [],
                                 phase := .noteWait [] (s.now + s.tables.strike.noteWait) true } ∧
        t.chime.queue = s.chime.queue.map (fun q => if q.id = p.id then starts else q) ∧
        (∀ b, t.bell b = if b ∈ s.bellSet p then { s.bell b with claim := .struck p.id } else s.bell b) ∧
        t.agenda = s.agenda ++ .notice (.started starts) :: (first.1.map fun b => .blow b first.2 p.id) ++ [.noteDealt]))

/-- A note is due: the position moves on, and the note is requested; at the note wait limit every outstanding blow is
withdrawn (one by one, each a message of its own: log 62); the tail's end sends the release request of every bell. The
note after this one is due when its interval, scaled by the tempo, has run; the last note runs its tail. A note's request:
a blow of each of its bells that is not fault-marked, a lost blow counted for each that is. The answers to its blows: a
blow taken is outstanding, a struck or refused one is not; a bell refused for FAULT is fault-marked and its blow lost, a
withdrawn blow is clipped; the note sounds when none is outstanding and its bells are dealt with. The position after a
note, by the repeats of its tune. (A command whose instant has passed acts late: log 1.) -/
def Obligations.NotesAndTail : Prop :=
  (∀ (s : State) (pl : Playing), s.ready = true → s.chime.playing = some pl →
      (∀ due, pl.phase = .interval due →
        exec .noteDue s = .next (((s.runTo due).onPlaying (nextPosition pl)).requestNote).finish) ∧
      (∀ l deadline dealing, pl.phase = .noteWait l deadline dealing →
        let t := s.runTo deadline
        exec .noteWaitExpiry s = .next (((t.withChime { t.chime with
          playing := some { pl with phase := .noteWait l deadline true } }).postAll
            (l.map fun b => .withdraw b pl.id)).post .noteDealt).finish) ∧
      (∀ ends, pl.phase = .tail ends →
        let t := s.runTo ends
        exec .tailEnd s = .next (((t.withChime { t.chime with
          playing := some { pl with phase := .ending .complete } }).post
            (.release pl.bells pl.id)).post .releaseCheck).finish)) ∧
  (∀ (s : State) (pl : Playing) (p : Perf), s.chime.playing = some pl → s.playingPerf = some p →
      (∀ bell count interval velocity, p.args = .strokes bell count interval velocity →
        (p.note + 1 < count → s.sound.chime.playing = some { pl with phase := .interval (s.now + interval) }) ∧
        (count ≤ p.note + 1 → s.sound.chime.playing = some { pl with phase := .tail (s.now + interval) })) ∧
      (∀ tune repeats run, p.args = .tune tune repeats → pl.run = some run →
        let wait := (s.noteRec (run.first + p.note)).interval * 100 / run.tempo
        s.sound.chime.playing = some { pl with phase :=
          if run.count ≤ p.note + 1 ∧ repeats ≤ p.rep then .tail (s.now + wait) else .interval (s.now + wait) })) ∧
  (∀ (s : State) (pl : Playing) (l : List Nat) (deadline b : Nat) (dealing : Bool), s.chime.playing = some pl →
      pl.phase = .noteWait l deadline dealing →
      let left (l' : List Nat) (dealing' : Bool) (marks : List Nat) (t : State) : State :=
        let u := t.withChime { t.chime with
          playing := some { pl with marks := marks, phase := .noteWait l' deadline dealing' } }
        if l' = [] ∧ dealing' = false then u.sound else u
      let others := l.filter fun o => o ≠ b
      s.blowTaken b = left (l ++ [b]) dealing pl.marks s ∧
      s.blowEnds b = left others dealing pl.marks s ∧
      s.blowFaulted b = left others dealing (if b ∈ pl.marks then pl.marks else pl.marks ++ [b])
        (counted (fun p => { p with lost := min 65535 (p.lost + 1) }) s) ∧
      s.blowClipped b = left others dealing pl.marks
        (counted (fun p => { p with clipped := min 65535 (p.clipped + 1) }) s) ∧
      noteDealt s = left l false pl.marks s) ∧
  (∀ (s : State) (b : Nat), (∀ pl, s.chime.playing = some pl → ∀ l deadline dealing, pl.phase ≠ .noteWait l deadline dealing) →
      s.blowTaken b = s ∧ s.blowEnds b = s ∧ s.blowFaulted b = s ∧ noteDealt s = s) ∧
  (∀ (s : State) (pl : Playing) (p : Perf), s.chime.playing = some pl → s.playingPerf = some p →
      let note : List Nat × Velocity := match p.args, pl.run with
        | .strokes bell _ _ velocity, _ => ([bell], velocity)
        | .tune _ _, some run => ((s.noteRec (run.first + p.note)).bells, (s.noteRec (run.first + p.note)).velocity)
        | .tune _ _, none => ([], .medium)
      let marked := (note.1.filter fun b => b ∈ pl.marks).length
      let t := if marked = 0 then s else counted (fun q => { q with lost := min 65535 (q.lost + marked) }) s
      s.requestNote = (t.withChime { t.chime with
        playing := some { pl with phase := .noteWait [] (s.now + s.tables.strike.noteWait) true } }).postAll
          (((note.1.filter fun b => b ∉ pl.marks).map fun b => .blow b note.2 p.id) ++ [.noteDealt])) ∧
  (∀ (pl : Playing) (p : Perf),
      let next := { p with note := p.note + 1 }
      (∀ bell count interval velocity, p.args = .strokes bell count interval velocity → nextPosition pl p = next) ∧
      (∀ tune repeats run, p.args = .tune tune repeats → pl.run = some run →
        nextPosition pl p = if run.count ≤ p.note + 1 then { p with rep := p.rep + 1, note := 0 } else next))

/-! ## Hammers (chapter 3) -/

/-- The end of a pulse: its units are released, the hammer recovers, a waiting coil request is discarded, and a deferred
release is completed. The end of recovery: the hammer is IDLE, and a held blow is judged again: taken, or refused. The
sense instant queues a coil conversion, behind the coil requests that wait and before a light request. A blow request:
REFUSED by the first reason that holds, NOT_HELD, FAULT, ACCESS or RESERVE; else by an IDLE hammer taken, with its request
for units, and held by another. A withdrawal ends the held or the waiting blow of its id as clipped, and finds nothing
else to end. (A command whose instant has passed acts late: log 1.) -/
def Obligations.HammerTimers : Prop :=
  (∀ (b : Fin 16) (s : State) (ends : Nat) (sense : Option Nat), s.ready = true →
      (s.bell b).hammer = .pulse ends sense →
      exec (.pulseEnd b) s = .next (pulseDone b (s.runTo ends)).finish) ∧
  (∀ (b : Fin 16) (s : State) (ends : Nat), s.ready = true → (s.bell b).hammer = .recovery ends →
      let t := s.runTo ends
      let u := t.setBell b { t.bell b with hammer := .idle, held := none }
      ((s.bell b).held = none → exec (.recoveryEnd b) s = .next u.finish) ∧
      (∀ v id, (s.bell b).held = some (v, id) → u.refusal b id = none →
        exec (.recoveryEnd b) s = .next (((u.setBell b { u.bell b with hammer := .waiting v id }).request (.hammer b)
          (u.bellRec b).units).finish)) ∧
      (∀ v id r, (s.bell b).held = some (v, id) → u.refusal b id = some r →
        exec (.recoveryEnd b) s = .next (u.answerRefused b r).finish)) ∧
  (∀ (b : Fin 16) (s : State) (ends instant : Nat), s.ready = true → (s.bell b).hammer = .pulse ends (some instant) →
      let t := s.runTo instant
      let u := t.setBell b { t.bell b with hammer := .pulse ends none }
      exec (.senseInstant b) s = .next ((u.withConverter { u.converter with
        queue := u.converter.queue.takeWhile (· ≠ .light) ++ .coil b :: u.converter.queue.dropWhile (· ≠ .light)
        }).beginConversion).finish) ∧
  (∀ (b : Nat) (v : Velocity) (id : Nat) (s : State),
      let w := s.bell b
      s.refusal b id = (if w.claim ≠ .struck id ∨ w.releasing = true then some .notHeld
        else if w.fault ≠ .none then some .fault
        else if s.power.access = .active then some .access
        else if s.mainsNormal = false then some .reserve else none) ∧
      (∀ r, s.answerRefused b r = if r = .fault then s.blowFaulted b else s.blowEnds b) ∧
      (∀ r, s.refusal b id = some r → blowRequest b v id s = s.answerRefused b r) ∧
      (s.refusal b id = none →
        (w.hammer = .idle → blowRequest b v id s =
          ((s.blowTaken b).setBell b { w with hammer := .waiting v id }).request (.hammer b) (s.bellRec b).units) ∧
        (w.hammer ≠ .idle → blowRequest b v id s = (s.setBell b { w with held := some (v, id) }).blowTaken b))) ∧
  (∀ (b id : Nat) (s : State),
      let w := s.bell b
      let heldIt := ∃ v, w.held = some (v, id)
      let waits := ∃ v, w.hammer = .waiting v id
      (heldIt → withdrawBlow b id s = (s.setBell b { w with held := none }).blowClipped b) ∧
      (¬heldIt → waits →
        withdrawBlow b id s = ((s.setBell b { w with hammer := .idle }).withdraw (.hammer b)).blowClipped b) ∧
      (¬heldIt → ¬waits → withdrawBlow b id s = s.blowEnds b))

/-- What a claimant does with its grant. A blow's: a pulse of the velocity's width with its sense instant at half of it, where
the bell's claim, fault, access and mains still allow it; else the blow is refused by the first of them that does not. A
dial's: an impulse of its width at the next polarity, with mains and the dial in use. A drive impulse's: with access
CLEAR, mains, and the unit in the state that asked. A circuit's: a SWITCHED one warms, or is ON at once, with mains and
its demand on; a DIMMED one goes on to its target with mains. Else the units go back at once. -/
def Obligations.Grants : Prop :=
  (∀ (b units : Nat) (s : State) (v : Velocity) (id : Nat), (s.bell b).hammer = .waiting v id →
      let width := match v with
        | .soft => (s.bellRec b).soft
        | .medium => (s.bellRec b).medium
        | .full => (s.bellRec b).full
      ((s.bell b).claim = .struck id → (s.bell b).releasing = false → (s.bell b).fault = .none → s.accessClear = true →
        s.mainsNormal = true →
        hammerGranted b units s = (s.setBell b { s.bell b with
          hammer := .pulse (s.now + width) (if (s.bellRec b).coilCheck then some (s.now + width / 2) else none) }).blowEnds b) ∧
      let mine := (s.bell b).claim = .struck id ∧ (s.bell b).releasing = false
      let back (r : Refused) : Prop := hammerGranted b units s =
        ((s.setBell b { s.bell b with hammer := .idle }).release (.hammer b) units).answerRefused b r
      (¬mine → back .notHeld) ∧ (mine → (s.bell b).fault ≠ .none → back .fault) ∧
      (mine → (s.bell b).fault = .none → s.accessClear = false → back .access) ∧
      (mine → (s.bell b).fault = .none → s.accessClear = true → s.mainsNormal = false → back .reserve)) ∧
  (∀ (d units : Nat) (s : State),
      let w := s.dial d
      (∀ again, w.drive = .waiting again →
        (s.mainsNormal = true → (s.dialRec d).inUse = true →
          dialGranted d units s = s.setDial d { w with
            inFlight := true, last := w.next, drive := .impulse again (s.now + (s.dialRec d).width)
            spacing := some (s.now + (s.dialRec d).catchUp * 1000) }) ∧
        (s.mainsNormal = false ∨ (s.dialRec d).inUse = false →
          dialGranted d units s = (s.setDial d { w with drive := .idle }).release (.dial d) units)) ∧
      ((∀ again, w.drive ≠ .waiting again) → dialGranted d units s = s.release (.dial d) units)) ∧
  (∀ (u units : Nat) (s : State),
      let w := s.unit u
      (∀ dir window braking, w.drive = .waiting dir window braking →
        let allowed := s.accessClear = true ∧ s.mainsNormal = true ∧
          if braking then w.state = .lowering ∧ w.lowKind = some .normal ∧ (s.swingRec u).brake = .counter
          else w.state = .raising ∨ w.state = .swinging
        (allowed → swingGranted u units s = s.setUnit u { w with drive := .impulse dir (s.now + (s.swingRec u).width) }) ∧
        (¬allowed → swingGranted u units s = (s.setUnit u { w with drive := .idle }).release (.swing u) units)) ∧
      ((∀ dir window braking, w.drive ≠ .waiting dir window braking) →
        swingGranted u units s = s.release (.swing u) units)) ∧
  (∀ (c units : Nat) (s : State),
      let w := s.circuit c
      let r := s.circuitRec c
      let held := s.held (.flood c)
      let back (t : State) : State := t.release (.flood c) units
      let surplus := r.surge - r.rated
      (r.kind = .switched → w.state = .waiting →
        let warm : Circuit := { w with state := .warming, timer := some (s.now + r.warmUp * 1000) }
        let warming := (s.setCircuit c warm).notify (.flood c .waiting .warming .grant w.demand w.source 100 held)
        (s.mainsNormal = true → 1 ≤ w.demand → r.warmUp ≠ 0 → floodGranted c units s = warming) ∧
        (s.mainsNormal = true → 1 ≤ w.demand → r.warmUp = 0 →
          floodGranted c units s = ((warming.setCircuit c { warm with state := .on, timer := none }).notify
            (.flood c .warming .on .warmed w.demand w.source 100 (held - surplus))).release (.flood c) surplus) ∧
        (s.mainsNormal = false ∨ w.demand = 0 →
          floodGranted c units s = back ((s.setCircuit c { w with state := .off }).notify
            (.flood c .waiting .off .grant w.demand w.source 0 (held - units))))) ∧
      (r.kind = .dimmed → w.state = .waiting →
        (s.mainsNormal = true → floodGranted c units s = ((s.setCircuit c { w with state := .on }).notify
          (.flood c .waiting .on .grant w.demand w.source w.level held)).retarget c w.target .grant) ∧
        (s.mainsNormal = false → floodGranted c units s = back ((s.setCircuit c { w with state := .off }).notify
          (.flood c .waiting .off .grant w.demand w.source w.level (held - units))))) ∧
      (r.kind = .dimmed → w.state = .on → s.mainsNormal = true →
        floodGranted c units s = s.retarget c w.target .grant) ∧
      (r.kind = .dimmed → w.state = .on → s.mainsNormal = false → floodGranted c units s = back s) ∧
      (w.state ≠ .waiting → r.kind = .switched ∨ w.state ≠ .on → floodGranted c units s = back s))

/-- A pending start wins a released bell (R52): it is handed over, or fails for access or mains; else the bell is FREE. A
release request passes over the bells that are not STRUCK with its id; it ends the held and waiting blows of the others
together (log 50), and then completes each bell's release, or defers it to the end of a pulse, in the request's order (log
63). A strikeable report of a bell of the blocked head's set (log 51) tries the head again while the player is idle. An abort
sends the playing performance's release request, with its own reason, once; and when the last bell is released the
performance leaves the queue and is reported ENDED. -/
def Obligations.BellReleases : Prop :=
  (∀ (b : Nat) (s : State),
      let free := s.setBell b { s.bell b with releasing := false, pending := false, claim := .free }
      ((s.bell b).pending = false → completeRelease b s = free.post (.report b)) ∧
      (∀ u, (s.bell b).pending = true → s.unitOfBell b = some u →
        (s.accessClear = true → s.mainsNormal = true →
          completeRelease b s = ((s.setBell b { s.bell b with
            releasing := false, pending := false, claim := .swung u }).post (.handed u)).post (.report b)) ∧
        (s.accessClear = false → completeRelease b s = (free.post (.failed u .access)).post (.report b)) ∧
        (s.accessClear = true → s.mainsNormal = false →
          completeRelease b s = (free.post (.failed u .reserve)).post (.report b)))) ∧
  (∀ (bells : List Nat) (id : Nat) (s : State),
      let struck := bells.filter fun b => decide ((s.bell b).claim = .struck id)
      let ended (w : Bell) : Bell := { w with
        held := w.held.filter fun h => h.2 ≠ id
        hammer := match w.hammer with
          | .waiting v i => if i = id then .idle else .waiting v i
          | h => h }
      let waiting := struck.filter fun b => match (s.bell b).hammer with
        | .waiting _ i => decide (i = id)
        | _ => false
      releaseBells bells id s = ((s.each struck fun b t => t.setBell b (ended (t.bell b))).withdrawAll
        (waiting.map Claimant.hammer)).each struck fun b t =>
          match (t.bell b).hammer with
          | .pulse _ _ => t.setBell b { t.bell b with releasing := true }
          | _ => completeRelease b t) ∧
  (∀ (b : Nat) (s : State) (p : Perf),
      (s.strikeable b = true ↔ (s.bellRec b).inUse = true ∧ (s.bellRec b).fitted = true ∧ (s.bellRec b).enabled = true ∧
        (s.bell b).fault = .none ∧ (s.bell b).claim = .free ∧ s.mainsNormal = true ∧ s.accessClear = true) ∧
      (s.chime.playing = none → s.chime.queue.head? = some p → p.blocked = true → s.strikeable b = true →
        b ∈ s.bellSet p → strikeableReport b s = s.tryHead p) ∧
      (s.chime.playing ≠ none ∨ s.chime.queue = [] → strikeableReport b s = s) ∧
      (s.chime.queue.head? = some p → p.blocked = false ∨ s.strikeable b = false ∨ b ∉ s.bellSet p →
        strikeableReport b s = s)) ∧
  (∀ (reason : EndReason) (id : Option Nat) (s : State) (pl : Playing),
      (s.chime.playing = none → abortPlaying reason id s = s) ∧
      (s.chime.playing = some pl →
        ((∃ r, pl.phase = .ending r) ∨ (∃ i, id = some i ∧ i ≠ pl.id) → abortPlaying reason id s = s) ∧
        ((∀ r, pl.phase ≠ .ending r) → id = none ∨ id = some pl.id →
          abortPlaying reason id s = ((s.withChime { s.chime with
            playing := some { pl with phase := .ending reason } }).post (.release pl.bells pl.id)).post .releaseCheck))) ∧
  (∀ (s : State) (pl : Playing) (p : Perf) (reason : EndReason), s.chime.playing = some pl →
      pl.phase = .ending reason → s.playingPerf = some p →
      ((∃ b ∈ pl.bells, (s.bell b).claim = .struck pl.id) → releaseCheck s = s) ∧
      ((∀ b ∈ pl.bells, (s.bell b).claim ≠ .struck pl.id) →
        releaseCheck s = (s.withChime { s.chime with
          queue := s.chime.queue.filter (fun q => q.id ≠ pl.id), playing := none }).notify (.ended p reason pl.started)))

/-! ## Swing controller and ring sequencer (chapter 5) -/

/-- An encoder edge moves the angle by one count and nothing else of the part but the tracker's furthest point, which moves on
in the direction of travel; the tracker's words: how far the angle has moved back, what a reversal leaves, what is a turn
(the form of the tracker and the last direction are log 20's). An impulse is asked for with the unit's units, where the
drive is IDLE, within the drive window unless it is a kick. The angle has moved back by fewer than four counts: no
reversal. A reversal below the rest threshold is no turn, and takes a unit in LOWERING to SETTLING. A turn of a referenced
unit: its amplitude is the furthest count, the turns since the index rise by one, the fourth is ENCODER_LOST, and the unit
acts by its state. A turn in LOWERING begins the time without a turn afresh, and asks for a braking impulse where the kind
is NORMAL and the brake COUNTER; one in SETTLING restarts the settle timer, of a unit that is not referenced too, whose
turn has no amplitude; one in FAULT is counted alone. -/
def Obligations.EncoderAndTurns : Prop :=
  (∀ (u : Fin 6) (dir : Dir) (s : State), s.running = true →
      let w := s.unit u
      let angle := w.angle + (match dir with | .positive => 1 | .negative => -1)
      exec (.encoderEdge u dir) s = .next (s.setUnit u { w with
        angle := angle, lastDir := dir
        furthest := match w.trackDir with | .positive => max w.furthest angle | .negative => min w.furthest angle }).finish) ∧
  (∀ (w : SwingUnit) (r : SwingRec),
      w.movedBack = (match w.trackDir with | .positive => w.furthest - w.angle | .negative => w.angle - w.furthest) ∧
      w.reversed = { w with
        trackDir := w.trackDir.other, lastDir := w.trackDir.other, furthest := w.angle, prevReversal := w.furthest } ∧
      r.restCounts = r.counts * r.rest / 360 ∧ r.mark = r.counts * r.target / 360 - r.counts * r.band / 360 ∧
      (w.isTurn r = true ↔ if w.referenced then r.restCounts < w.furthest.natAbs
        else 2 * r.restCounts < (w.furthest - w.prevReversal).natAbs)) ∧
  (∀ (s : State) (u : Nat) (dir : Dir) (kick braking : Bool),
      let w := s.unit u
      let window := if kick then none else some (s.now + (s.swingRec u).window)
      (w.drive ≠ .idle → s.askImpulse u dir kick braking = s) ∧
      (w.drive = .idle → s.askImpulse u dir kick braking =
        (s.setUnit u { w with drive := .waiting dir window braking }).request (.swing u) (s.swingRec u).units)) ∧
  (∀ (u : Fin 6) (s : State), s.running = true →
      ((s.unit u).movedBack < 4 → exec (.reversal u) s = .next s.finish) ∧
      (4 ≤ (s.unit u).movedBack → (s.unit u).isTurn (s.swingRec u) = false → (s.unit u).state ≠ .lowering →
        exec (.reversal u) s = .next (s.setUnit u (s.unit u).reversed).finish) ∧
      (4 ≤ (s.unit u).movedBack → (s.unit u).isTurn (s.swingRec u) = false → (s.unit u).state = .lowering →
        exec (.reversal u) s = .next ((s.setUnit u (s.unit u).reversed).enterSettling u .smallReversal).finish)) ∧
  (∀ (u : Fin 6) (s : State), s.running = true → 4 ≤ (s.unit u).movedBack → (s.unit u).referenced = true →
      (s.swingRec u).restCounts < (s.unit u).furthest.natAbs →
      let w := s.unit u
      let amplitude := w.furthest.natAbs
      let dir := w.trackDir.other
      (w.state = .rest →
        exec (.reversal u) s = .next (s.setUnit u { w.reversed with amplitude := some amplitude }).finish) ∧
      (w.state ≠ .rest → w.state ≠ .fault → w.turns = 3 →
        exec (.reversal u) s = .next (((s.setUnit u { w.reversed with amplitude := some amplitude, turns := 4 }).enterFault u
          .encoderLost).finish)) ∧
      (w.turns ≤ 2 →
        let t := s.setUnit u { w.reversed with amplitude := some amplitude, turns := w.turns + 1 }
        (w.state = .raising → amplitude < (s.swingRec u).mark →
          exec (.reversal u) s = .next (t.askImpulse u dir false false).finish) ∧
        (w.state = .raising → (s.swingRec u).mark ≤ amplitude →
          exec (.reversal u) s = .next (t.enterSwinging u).finish) ∧
        (w.state = .swinging →
          exec (.reversal u) s =
            .next (if amplitude < (s.swingRec u).mark then t.askImpulse u dir false false else t).finish))) ∧
  (∀ (u : Fin 6) (s : State), s.running = true → 4 ≤ (s.unit u).movedBack →
      let w := s.unit u
      let r := s.swingRec u
      (w.referenced = true → r.restCounts < w.furthest.natAbs) →
      (w.referenced = false → 2 * r.restCounts < (w.furthest - w.prevReversal).natAbs) →
      let counted : SwingUnit := { w.reversed with
        amplitude := if w.referenced then some w.furthest.natAbs else w.amplitude, turns := min 4 (w.turns + 1) }
      (w.state = .fault → exec (.reversal u) s = .next (s.setUnit u counted).finish) ∧
      (w.state ≠ .rest → w.state ≠ .fault → w.turns = 3 →
        exec (.reversal u) s = .next ((s.setUnit u counted).enterFault u .encoderLost).finish) ∧
      (w.turns ≤ 2 →
        (w.state = .settling → exec (.reversal u) s = .next (s.setUnit u { counted with
          settle := some (s.now + r.settle * 1000), turned := true }).finish) ∧
        (w.state = .lowering →
          let t := s.setUnit u { counted with noTurn := some (s.now + 10000) }
          (w.lowKind = some .normal → r.brake = .counter →
            exec (.reversal u) s = .next (t.askImpulse u w.trackDir false true).finish) ∧
          (w.lowKind ≠ some .normal ∨ r.brake ≠ .counter → exec (.reversal u) s = .next t.finish))))

/-- An index crossing: the captured angle becomes 0 and the turns 0; the slip count falls to 0 within the tolerance and in
REST, rises by one outside it, and the third slip is a fault, unless the unit is in FAULT already. That the tracker's
points move with the angle is log 20's. The timers of a unit that end a state. The settle timer's end: REST, referenced,
no owner, the bell FREE. A unit that enters SWINGING counts no raise limit, a kick still waiting withdrawn; one that
enters SETTLING has its drive cut and its settle timer begun, its bell SETTLING with it; each with its UNIT notice. (A
command whose instant has passed acts late: log 1.) -/
def Obligations.IndexAndUnitTimers : Prop :=
  (∀ (u : Fin 6) (s : State), s.running = true →
    let w := s.unit u
    let zeroed (slips : Nat) : SwingUnit := { w with
      angle := 0, turns := 0, slips := slips, furthest := w.furthest - w.angle, prevReversal := w.prevReversal - w.angle }
    (w.referenced = false →
      exec (.indexCrossing u) s = .next (s.setUnit u { zeroed w.slips with referenced := true }).finish) ∧
    (w.referenced = true → w.state = .rest ∨ |w.angle| ≤ (s.swingRec u).tolerance →
      exec (.indexCrossing u) s = .next (s.setUnit u (zeroed 0)).finish) ∧
    (w.referenced = true → w.state ≠ .rest → ((s.swingRec u).tolerance : Int) < |w.angle| → w.slips < 2 →
      exec (.indexCrossing u) s = .next (s.setUnit u (zeroed (w.slips + 1))).finish) ∧
    (w.referenced = true → w.state ≠ .rest → w.state ≠ .fault → ((s.swingRec u).tolerance : Int) < |w.angle| →
      w.slips = 2 →
      exec (.indexCrossing u) s = .next ((s.setUnit u (zeroed 3)).enterFault u .encoderSlip).finish) ∧
    (w.referenced = true → w.state = .fault → ((s.swingRec u).tolerance : Int) < |w.angle| → w.slips = 2 →
      exec (.indexCrossing u) s = .next (s.setUnit u (zeroed 3)).finish)) ∧
  (∀ (u : Fin 6) (s : State) (instant : Nat), s.ready = true →
      let t := s.runTo instant
      ((s.unit u).state = .raising → (s.unit u).raiseLimit = some instant →
        exec (.raiseLimitExpiry u) s = .next (t.enterFault u .raiseTimeout).finish) ∧
      ((s.unit u).state = .lowering → (s.unit u).lowerLimit = some instant →
        exec (.lowerLimitExpiry u) s = .next (t.enterFault u .lowerTimeout).finish) ∧
      ((s.unit u).state = .lowering → (s.unit u).noTurn = some instant →
        exec (.noTurnTimeout u) s = .next (t.enterSettling u .noTurn).finish) ∧
      ((s.unit u).state = .raising ∨ (s.unit u).state = .swinging → (s.unit u).ringEnd = some instant →
        exec (.ringEnd u) s = .next ((t.cutDrive u).lowerUnit u .normal .ringEnd).finish) ∧
      (∀ dir braking, (s.unit u).drive = .waiting dir (some instant) braking →
        exec (.driveWindowExpiry u) s =
          .next ((t.setUnit u { t.unit u with drive := .idle }).withdraw (.swing u)).finish) ∧
      (∀ dir, (s.unit u).drive = .impulse dir instant →
        exec (.driveImpulseEnd u) s =
          .next ((t.setUnit u { t.unit u with drive := .idle }).releaseAll (.swing u)).finish)) ∧
  (∀ (u : Fin 6) (s : State) (instant : Nat), s.running = true → (s.unit u).state = .settling →
      (s.unit u).settle = some instant →
      let t := s.runTo instant
      ∃ w, exec (.settleTimerExpiry u) s = .next (((t.setUnit u w).moveClaim u .free).unitNotice u .settling .settled).finish ∧
        w.state = .rest ∧ w.referenced = true ∧ w.owner = none ∧ w.turns = 0 ∧ w.settle = none ∧
        ((t.unit u).referenced = true → w.angle = (t.unit u).angle) ∧ ((t.unit u).referenced = false → w.angle = 0)) ∧
  (∀ (u : Nat) (s : State) (cause : UnitCause),
      let kicks := ∃ dir braking, (s.unit u).drive = .waiting dir none braking
      let swings (t : State) : SwingUnit := { t.unit u with state := .swinging, raiseLimit := none }
      let v := s.cutDrive u
      let settles := { v.unit u with
        state := .settling, lowKind := none, lowerLimit := none, noTurn := none, turned := false
        settle := some (s.now + (s.swingRec u).settle * 1000) }
      let n (old : UnitState) (cause : UnitCause) (w : SwingUnit) : NoticeBody :=
        .unit u (s.bellOfUnit u) old w.state cause w.owner w.amplitude w.lowKind w.fault
      let swung (t : State) : State := (t.setUnit u (swings t)).notify (n .raising .target (swings t))
      (kicks → s.enterSwinging u = swung (s.cutDrive u)) ∧ (¬kicks → s.enterSwinging u = swung s) ∧
      (∀ b, s.bellOfUnit u = some b →
        s.enterSettling u cause = (((v.setUnit u settles).setBell b { s.bell b with claim := .settling u }).post
          (.report b)).notify (n (s.unit u).state cause settles)) ∧
      (s.bellOfUnit u = none →
        s.enterSettling u cause = (v.setUnit u settles).notify (n (s.unit u).state cause settles)))

/-- Entering FAULT: the drive is stopped, the fault and its new mark are set, the timers stop, the bell is SWUNG, and
the FAULT notice goes before the UNIT notice. A start of a unit is refused in the rule's order of reasons, and granted
on a FREE bell, or on its own unit's SETTLING one, at once; a STRUCK bell makes it pending, under PREEMPT with the abort
of the performance. A unit that enters RAISING has its ring end, its raise limit and, from REST or where no turn was
taken in SETTLING since it was entered (log 21's reading of R99), its kick. -/
def Obligations.UnitFaultAndStart : Prop :=
  (∀ (s : State) (u : Nat) (f : UnitFault),
      let t := s.enterFault u f
      (t.unit u).state = .fault ∧ (t.unit u).fault = f ∧ (t.unit u).newMark = true ∧ (t.unit u).drive = .idle ∧
        (t.unit u).ringEnd = none ∧ (t.unit u).raiseLimit = none ∧ (t.unit u).lowerLimit = none ∧
        (t.unit u).settle = none ∧ (∀ v, v ≠ u → t.unit v = s.unit v) ∧
        (∀ b, s.bellOfUnit u = some b → (t.bell b).claim = .swung u) ∧
        (∃ pre n1 n2, t.agenda = pre ++ [.notice n1, .notice n2] ∧ n1.cls = 7 ∧ n2.cls = 3)) ∧
  (∀ (s : State) (u : Nat) (owner : Owner) (p : Precedence) (minutes : Nat),
      (s.bellOfUnit u = none → s.startUnit u owner p minutes = (s, .refused .noBell)) ∧
      (∀ b, s.bellOfUnit u = some b →
        (s.accessClear = false → s.startUnit u owner p minutes = (s, .refused .access)) ∧
        (s.accessClear = true → s.mainsNormal = false → s.startUnit u owner p minutes = (s, .refused .reserve)) ∧
        (s.accessClear = true → s.mainsNormal = true → (s.unit u).state ≠ .fault →
          (s.unit u).rings = true ∨ (s.unit u).state = .lowering ∨ (s.unit u).startPending = true →
          s.startUnit u owner p minutes = (s, .refused .inUse)) ∧
        (s.accessClear = true → s.mainsNormal = true → (s.unit u).state = .rest ∨ (s.unit u).state = .settling →
          (s.unit u).startPending = false →
          ((s.unit u).referenced = false → s.startUnit u owner p minutes = (s, .refused .notReady)) ∧
          ((s.unit u).referenced = true →
            ((s.bell b).claim = .free ∨ (s.bell b).claim = .settling u →
              s.startUnit u owner p minutes = ((((s.setBell b { s.bell b with claim := .swung u }).post
                (.report b)).enterRaising u owner minutes .start), .started)) ∧
            (∀ v, (s.bell b).claim = .swung v ∨ (s.bell b).claim = .settling v ∧ v ≠ u →
              s.startUnit u owner p minutes = (s, .refused .inUse)) ∧
            (∀ id, (s.bell b).claim = .struck id →
              let t := (((s.setBell b { s.bell b with pending := true }).setUnit u
                { s.unit u with startPending := true, owner := some owner, minutes := minutes }).notify
                  (.pending u (some b) none))
              s.startUnit u owner p minutes =
                ((match p with | .wait => t | .preempt => t.post (.abort .preempted (some id))), .pending)))))) ∧
  (∀ (s : State) (u : Nat) (owner : Owner) (minutes : Nat) (cause : UnitCause),
      let w := s.unit u
      let kick := w.drive = .idle ∧ (w.state = .rest ∨ w.turned = false)
      let t := s.setUnit u { w with
        state := .raising, startPending := false, owner := some owner, minutes := 0, settle := none
        ringEnd := if owner = .ring then some (s.now + minutes * 60000) else none
        raiseLimit := some (s.now + (s.swingRec u).raise * 1000)
        drive := if kick then .waiting .positive none false else w.drive }
      s.enterRaising u owner minutes cause =
        (if kick then t.request (.swing u) (s.swingRec u).units else t).notify
          (.unit u (s.bellOfUnit u) w.state .raising cause (some owner) w.amplitude w.lowKind w.fault))

/-- RING: RANGE, IN_USE for a unit of the plan being run, the refusals of its start (NO_BELL as NO_ENTRY, NOT_READY as BUSY),
each without effect, and OK with STARTED or PENDING. HALT is answered OK in every state: it lowers a ringing unit with its
drive cut, a waiting request withdrawn and an impulse's units released, cancels a pending start whose bell is not handed
over yet, and marks the unit halted where its start step in a run in STARTING is still to come. Lowering a unit sets its
kind and its timers and is reported. -/
def Obligations.RingAndHalt : Prop :=
  (∀ (u minutes : Byte) (s : State), slotFree s →
    let n := u.toNat
    let w := s.unit n
    let refused (status : Status) : Prop :=
      exec (.ring [u, minutes]) s = .next (answered 0x20 status [] (taken s)).finish
    (¬(n < 6 ∧ 1 ≤ minutes.toNat ∧ minutes.toNat ≤ 240) → refused .range) ∧
    (n < 6 → 1 ≤ minutes.toNat → minutes.toNat ≤ 240 →
      (s.inRun n = true → refused .inUse) ∧
      (s.inRun n = false → s.bellOfUnit n = none → refused .noEntry) ∧
      (∀ b, s.inRun n = false → s.bellOfUnit n = some b →
        (s.accessClear = false → refused .access) ∧
        (s.accessClear = true → s.mainsNormal = false → refused .reserve) ∧
        (s.accessClear = true → s.mainsNormal = true →
          (w.rings = true ∨ w.state = .lowering ∨ w.state = .fault ∨ w.startPending = true → refused .inUse) ∧
          (w.state = .rest ∨ w.state = .settling → w.startPending = false →
            (w.referenced = false → refused .busy) ∧
            (w.referenced = true →
              (∀ v, (s.bell b).claim = .swung v ∨ (s.bell b).claim = .settling v ∧ v ≠ n → refused .inUse) ∧
              ((s.bell b).claim = .free ∨ (s.bell b).claim = .settling n →
                exec (.ring [u, minutes]) s = .next (answered 0x20 .ok [0]
                  ((((taken s).setBell b { s.bell b with claim := .swung n }).post (.report b)).enterRaising n .ring
                    minutes.toNat .start)).finish) ∧
              (∀ id, (s.bell b).claim = .struck id →
                exec (.ring [u, minutes]) s = .next (answered 0x20 .ok [1]
                  ((((taken s).setBell b { s.bell b with pending := true }).setUnit n
                    { w with startPending := true, owner := some .ring, minutes := minutes.toNat }).notify
                      (.pending n (some b) none))).finish))))))) ∧
  (∀ (u : Byte) (s : State), slotFree s →
    let n := u.toNat
    let halted : State := ((taken s).stopUnit n .normal .halt).cancelStart n .halt
    (6 ≤ n → exec (.halt [u]) s = .next (answered 0x21 .range [] (taken s)).finish) ∧
    (n < 6 →
      (s.run.state = .starting ∧ n ∈ (s.planRec s.run.plan).units.drop s.run.steps →
        exec (.halt [u]) s = .next (answered 0x21 .ok []
          (halted.withRun { s.run with halted := s.run.halted ++ [n] })).finish) ∧
      (¬(s.run.state = .starting ∧ n ∈ (s.planRec s.run.plan).units.drop s.run.steps) →
        exec (.halt [u]) s = .next (answered 0x21 .ok [] halted).finish))) ∧
  (∀ (s : State) (u : Nat) (kind : LowKind) (cause : UnitCause) (reason : FailReason),
    let w := s.unit u
    let idled := s.setUnit u { w with drive := .idle }
    (w.drive = .idle → s.cutDrive u = s) ∧
    (∀ dir window braking, w.drive = .waiting dir window braking → s.cutDrive u = idled.withdraw (.swing u)) ∧
    (∀ dir ends, w.drive = .impulse dir ends → s.cutDrive u = idled.release (.swing u) (s.held (.swing u))) ∧
    (w.rings = true → s.stopUnit u kind cause = (s.cutDrive u).lowerUnit u kind cause) ∧
    (w.rings = false → s.stopUnit u kind cause = s) ∧
    s.lowerUnit u kind cause = (s.setUnit u { w with
      state := .lowering, lowKind := some kind, ringEnd := none, raiseLimit := none, noTurn := some (s.now + 10000)
      lowerLimit := if kind = .reserve then none else some (s.now + (s.swingRec u).lower * 1000) }).notify
        (.unit u (s.bellOfUnit u) w.state .lowering cause w.owner w.amplitude (some kind) w.fault) ∧
    (w.startPending = false → s.cancelStart u reason = s) ∧
    (∀ b, w.startPending = true → s.bellOfUnit u = some b → (s.bell b).pending = true →
      s.cancelStart u reason = ((s.setBell b { s.bell b with pending := false }).setUnit u
        { w with startPending := false, owner := none, minutes := 0 }).notify (.pending u (some b) (some reason))) ∧
    (w.startPending = true → (∀ b, s.bellOfUnit u = some b → (s.bell b).pending = false) → s.cancelStart u reason = s))

/-- PEAL: its refusals in the rule's order, each without effect, and the run STARTING with its first start step at once (the
RUN notice before that step's work: log 47). ENDPEAL: NO_ENTRY without a run, OK in STOPPING without effect, else the run
enters STOPPING. -/
def Obligations.PealRequests : Prop :=
  (∀ (p : Byte) (s : State), slotFree s →
    let refused (status : Status) : Prop := exec (.peal [p]) s = .next (answered 0x22 status [] (taken s)).finish
    (8 ≤ p.toNat → refused .range) ∧
    (p.toNat < 8 →
      let plan := s.planRec p.toNat
      let rung (u : Nat) : Prop := (s.unit u).rings = true ∨ (s.unit u).state = .lowering ∨ (s.unit u).startPending = true
      (plan.used = false → refused .noEntry) ∧
      (plan.used = true → s.run.state ≠ .idle → refused .busy) ∧
      (plan.used = true → s.run.state = .idle →
        (s.accessClear = false → refused .access) ∧
        (s.accessClear = true → s.mainsNormal = false → refused .reserve) ∧
        (s.accessClear = true → s.mainsNormal = true → (∃ u ∈ plan.units, rung u) → refused .inUse) ∧
        (s.accessClear = true → s.mainsNormal = true → (∀ u ∈ plan.units, ¬rung u) →
          exec (.peal [p]) s = .next (answered 0x22 .ok [] ((((taken s).withRun
            { state := .starting, plan := p.toNat, first := s.now, ends := s.now + plan.duration * 60000, steps := 0,
              members := [], halted := [], stops := [], nextStop := 0, stopGap := 0 }).notify
                (.run p.toNat .idle .starting .accepted)).post .startStep)).finish)))) ∧
  (∀ s : State, slotFree s →
    (s.run.state = .idle → exec (.endpeal []) s = .next (answered 0x23 .noEntry [] (taken s)).finish) ∧
    (s.run.state = .stopping → exec (.endpeal []) s = .next (answered 0x23 .ok [] (taken s)).finish) ∧
    (s.run.state = .starting ∨ s.run.state = .running →
      exec (.endpeal []) s = .next (answered 0x23 .ok []
        ((taken s).stopRun .endpeal ((s.planRec s.run.plan).stopGap * 1000))).finish))

/-- The steps of a run. A start step at its stagger from the first: a halted unit is skipped, a refused one is skipped with
its reason, one granted or pending is a member, and the last step enters RUNNING. Entering STOPPING lays out the members
in the stop order; without a stagger every stop step is taken in unit order before the RUN notice, with one the first
follows it (log 47). A run whose members are at rest, settling or in fault returns to IDLE once its last stop step is
taken (log 46), and from RUNNING by way of STOPPING. (A command whose instant has passed acts late: log 1.) -/
def Obligations.PealSteps : Prop :=
  (∀ s : State, s.ready = true →
    (s.run.state = .starting →
      exec .startStep s = .next (takeStartStep
        (s.runTo (s.run.first + s.run.steps * (s.planRec s.run.plan).startGap * 1000))).finish) ∧
    (s.run.state = .starting ∨ s.run.state = .running →
      exec .pealEndInstant s =
        .next ((s.runTo s.run.ends).stopRun .duration ((s.planRec s.run.plan).stopGap * 1000)).finish) ∧
    (s.run.state = .stopping → s.run.stops ≠ [] →
      exec .stopStep s = .next ((takeStopStep (s.runTo s.run.nextStop)).settleRun).finish)) ∧
  (∀ (s : State) (u : Nat), s.run.state = .starting → (s.planRec s.run.plan).units[s.run.steps]? = some u →
    let plan := s.planRec s.run.plan
    let t := s.withRun { s.run with steps := s.run.steps + 1 }
    let a := t.startUnit u .peal plan.precedence 0
    let stepped : State :=
      if u ∈ s.run.halted then t.notify (.step s.run.plan s.run.steps u .halted)
      else match a.2 with
        | .refused reason => a.1.notify (.step s.run.plan s.run.steps u reason)
        | .started | .pending => a.1.withRun { t.run with members := s.run.members ++ [u] }
    (s.run.steps + 1 < plan.units.length → takeStartStep s = stepped) ∧
    (s.run.steps + 1 = plan.units.length →
      takeStartStep s = ((stepped.withRun { stepped.run with state := .running }).notify
        (.run s.run.plan .starting .running .lastStep)).settleRun)) ∧
  (∀ (s : State) (cause : RunCause) (gap : Nat),
    let plan := s.planRec s.run.plan
    let entered := s.withRun { s.run with
      state := .stopping, stops := if plan.reverse then s.run.members.reverse else s.run.members, nextStop := s.now
      stopGap := gap }
    let notice : NoticeBody := .run s.run.plan s.run.state .stopping cause
    let stopped (u : Nat) (t : State) : State := (t.stopUnit u .normal .pealStop).cancelStart u .pealStop
    (gap = 0 → s.stopRun cause gap = (((entered.withRun { entered.run with stops := [] }).each
      ([0, 1, 2, 3, 4, 5].filter fun u => u ∈ s.run.members) stopped).notify notice).settleRun) ∧
    (gap ≠ 0 → s.stopRun cause gap = (takeStopStep (entered.notify notice)).settleRun) ∧
    (s.run.stops = [] → takeStopStep s = s) ∧
    (∀ u rest, s.run.stops = u :: rest → takeStopStep s = stopped u (s.withRun { s.run with
      stops := rest, nextStop := s.run.nextStop + s.run.stopGap }))) ∧
  (∀ s : State,
    let allDown := ∀ u ∈ s.run.members,
      (s.unit u).state = .rest ∧ (s.unit u).startPending = false ∨ (s.unit u).state = .settling ∨ (s.unit u).state = .fault
    let idle (t : State) : State := (t.withRun pealRun0).notify (.run s.run.plan .stopping .idle .membersDone)
    let idled := idle s
    let passed := idle ((s.withRun { s.run with state := .stopping }).notify
      (.run s.run.plan .running .stopping .membersDone))
    (s.run.state = .stopping → s.run.stops = [] → allDown → s.settleRun = idled ∧ s.standing = some idled) ∧
    (s.run.state = .running → allDown → s.settleRun = passed ∧ s.standing = some passed) ∧
    (¬allDown ∨ s.run.state = .idle ∨ s.run.state = .starting ∨ s.run.state = .stopping ∧ s.run.stops ≠ [] →
      s.settleRun = s))

/-! ## Dials (chapter 6) -/

/-- The end of an impulse: the position moves one step, the next polarity is the other one, nothing is in flight, the units
are released; then a repeat is classified (with the cause MAINS_RETURN: log 43), a stopped dial stops, and another is
judged by its new difference. The end of the spacing: the dial asks for its next impulse where one is due. A rise of the
target makes an IN_STEP dial that is 2 or more behind ADVANCING and a HOLDING one that it reaches IN_STEP; only a
completion makes an ADVANCING dial IN_STEP; what a completion does to a dial that is not ADVANCING is log 52's. A dial is
classified by the steps its hands must move forward: none is IN_STEP, up to the hold window ADVANCING, more HOLDING; and
the difference is below a full turn and leads to the target. (A command whose instant has passed acts late: log 1.) -/
def Obligations.DialImpulses : Prop :=
  (∀ (d : Fin 4) (s : State) (again : Bool) (ends : Nat), s.ready = true → (s.dial d).drive = .impulse again ends →
      let t := (s.runTo ends).releaseAll (.dial d)
      let u := t.setDial d { t.dial d with
        position := (t.dial d).position.map fun p => (p + 1) % (43200 / (t.dialRec d).interval)
        next := (t.dial d).next.map Dir.other, inFlight := false, drive := .idle }
      exec (.dialImpulseEnd d) s = .next (
        if again then u.classify d .mainsReturn
        else if (u.dial d).stop = true ∧ (u.dial d).state.moves = true then u.moveDial d .stopped .dialstop
        else u.judgeDial d).finish) ∧
  (∀ (d : Fin 4) (s : State) (instant : Nat), s.ready = true → (s.dial d).spacing = some instant →
      let t := s.runTo instant
      let u := t.setDial d { t.dial d with spacing := none }
      exec (.dialSpacingExpiry d) s = .next (
        if ((u.dial d).state = .inStep ∨ (u.dial d).state = .advancing) ∧ (u.dial d).drive = .idle ∧
            (∃ n, u.difference d = some n ∧ 1 ≤ n) then
          (u.setDial d { u.dial d with drive := .waiting false }).request (.dial d) (u.dialRec d).units
        else u).finish) ∧
  (∀ (s : State) (d n : Nat), s.difference d = some n →
      let state := (s.dial d).state
      (state = .inStep → s.riseDial d = if 2 ≤ n then (s.moveDial d .advancing .fellBehind).askDial d else s.askDial d) ∧
      (state = .advancing → s.riseDial d = s.askDial d ∧
        s.judgeDial d = if n = 0 then s.moveDial d .inStep .caughtUp else s.askDial d) ∧
      (state = .holding → s.riseDial d = if n = 0 then s.moveDial d .inStep .targetReached else s) ∧
      (state = .stopped ∨ state = .unknown → s.riseDial d = s) ∧
      (state ≠ .advancing → s.judgeDial d = s.riseDial d)) ∧
  (∀ (r : DialRec) (target position : Nat), r.interval = 30 ∨ r.interval = 60 → target < r.steps → position < r.steps →
      r.ahead target position < r.steps ∧ (position + r.ahead target position) % r.steps = target ∧
      (r.classFor (r.ahead target position) = .inStep ↔ position = target) ∧
      (r.classFor (r.ahead target position) = .advancing ↔
        position ≠ target ∧ r.ahead target position * r.interval ≤ r.hold * 60))

/-- The refusals of DIALSET and DIALSTOP, and their effect: the face and polarity are taken, a waiting request withdrawn, and
the dial classified; the reply carries the state, and the difference with a presence mark (log 18). A STOP sets the mark,
withdraws a waiting request that is not a repeat's (log 22) and stops a moving dial whose drive is IDLE then, an impulse
running on; a RELEASE clears it, and a STOPPED dial is classified. -/
def Obligations.DialRequests : Prop :=
  (∀ (polarity : Fin 2) (d hour minute second : Byte) (s : State), slotFree s →
    let body := [byte polarity, d, hour, minute, second]
    let answer := exec (.dialset body) s
    let good := d.toNat < 4 ∧ 1 ≤ hour.toNat ∧ hour.toNat ≤ 12 ∧ minute.toNat < 60 ∧ second.toNat < 60
    let w := s.dial d.toNat
    let next : Dir := if polarity = 0 then .positive else .negative
    let clash := w.last = some next ∧ w.inFlight = false
    (¬good ∨ clash → answer = .next (answered 0x28 .range [] (taken s)).finish) ∧
    (good → ¬clash → s.keyOn = false → answer = .next (answered 0x28 .locked [] (taken s)).finish) ∧
    (good → ¬clash → s.keyOn = true → (s.dialRec d.toNat).inUse = false →
      answer = .next (answered 0x28 .noEntry [] (taken s)).finish) ∧
    (good → ¬clash → s.keyOn = true → (s.dialRec d.toNat).inUse = true → w.drive.impulsing = true →
      answer = .next (answered 0x28 .busy [] (taken s)).finish) ∧
    (good → ¬clash → s.keyOn = true → (s.dialRec d.toNat).inUse = true → w.drive.impulsing = false →
      let r := s.dialRec d.toNat
      let set := (taken s).setDial d.toNat { w with
        drive := .idle, position := some ((hour.toNat % 12 * 3600 + minute.toNat * 60 + second.toNat) / r.interval)
        next := some next, inFlight := false, kept := some r.interval }
      let t := if w.drive = .idle then set else set.withdraw (.dial d.toNat)
      let u := (t.moveDial d.toNat (t.dialClass d.toNat).1 .dialset).askDial d.toNat
      let difference := u.difference d.toNat
      answer = .next (answered 0x28 .ok
        (byte ((u.dial d.toNat).state.ctorIdx + 8 * difference.isSome.toNat) :: beBytes 2 (difference.getD 0)) u).finish)) ∧
  (∀ (act : Fin 2) (d : Byte) (s : State), slotFree s →
    let answer := exec (.dialstop [byte act, d]) s
    (4 ≤ d.toNat → answer = .next (answered 0x29 .range [] (taken s)).finish) ∧
    (d.toNat < 4 → s.keyOn = false → answer = .next (answered 0x29 .locked [] (taken s)).finish) ∧
    (d.toNat < 4 → s.keyOn = true →
      let w := s.dial d.toNat
      let marked (stop : Bool) : State := (taken s).setDial d.toNat { w with stop := stop }
      let freed := ((taken s).setDial d.toNat { w with stop := true, drive := .idle }).withdraw (.dial d.toNat)
      let stops (t : State) : State := if w.state.moves then t.moveDial d.toNat .stopped .dialstop else t
      (act = 0 →
        (w.drive = .idle → answer = .next (answered 0x29 .ok [] (stops (marked true))).finish) ∧
        (w.drive = .waiting false → answer = .next (answered 0x29 .ok [] (stops freed)).finish) ∧
        (w.drive = .waiting true ∨ w.drive.impulsing = true →
          answer = .next (answered 0x29 .ok [] (marked true)).finish)) ∧
      (act = 1 → answer = .next (answered 0x29 .ok []
        (if w.state = .stopped then (marked false).classify d.toNat .dialstop else marked false)).finish)))

/-- The dials and the time base, the mains and the start. A civil step classifies every dial that is not UNKNOWN or STOPPED,
the time-set event every STOPPED one, with the target of the new civil time; with the time UNSET the targets are gone, a
waiting request of a dial that moves is withdrawn and it is STOPPED. When mains is NORMAL again a dial in use with its
in-flight mark set asks for a repeat impulse, and any other is classified. A classification: the class, the withdrawal of a
waiting request that is not wanted (a waiting repeat is kept: log 22), the change with its notice, and the impulse asked
for. -/
def Obligations.DialsAndTime : Prop :=
  (∀ (s : State) (civil : Nat),
      let aimed (half : Option Nat) : State := s.withDials { s.dials with half := half }
      let face := some (civil / 30000 % 1440)
      stepDials civil s = (aimed face).each [0, 1, 2, 3] (fun d t =>
        if (t.dial d).state = .stopped ∨ (t.dial d).state = .unknown then t else t.classify d .step) ∧
      timeSetDials civil s = (aimed face).each [0, 1, 2, 3] (fun d t =>
        if (t.dial d).state = .stopped then t.classify d .timeSet else t) ∧
      unsetDials s = (aimed none).each [0, 1, 2, 3] (fun d t =>
        if (t.dial d).state = .stopped ∨ (t.dial d).state = .unknown then t
        else (t.withdrawDial d).moveDial d .stopped .timeUnset)) ∧
  (∀ (s : State) (cause : DialCause),
      returnDials cause s = s.each [0, 1, 2, 3] (fun d t =>
        if t.mainsNormal = true ∧ (t.dialRec d).inUse = true ∧ (t.dial d).inFlight = true ∧ (t.dial d).drive = .idle then
          (t.setDial d { t.dial d with drive := .waiting true }).request (.dial d) (t.dialRec d).units
        else t.classify d cause)) ∧
  (∀ (s : State) (d : Nat) (cause : DialCause),
      let w := s.dial d
      let r := s.dialRec d
      let stopped := r.inUse = false ∨ s.mainsNormal = false ∨ w.stop = true ∨ s.dials.half = none ∨ w.position = none ∨
        w.inFlight = true ∧ ∀ ends, w.drive ≠ .impulse false ends
      let toward (t : State) (state : DialState) : State := (t.moveDial d state cause).askDial d
      (w.state = .unknown → s.classify d cause = s) ∧
      (w.state ≠ .unknown → stopped → s.classify d cause = toward (s.withdrawDial d) .stopped) ∧
      (∀ half position, w.state ≠ .unknown → ¬stopped → s.dials.half = some half → w.position = some position →
        let at_ := if w.drive.impulsing then position + 1 else position
        let n := r.ahead (half * 30 / r.interval) at_
        (n = 0 → s.classify d cause = toward (s.withdrawDial d) .inStep) ∧
        (n ≠ 0 → n * r.interval ≤ r.hold * 60 → s.classify d cause = toward s .advancing) ∧
        (r.hold * 60 < n * r.interval → s.classify d cause = toward (s.withdrawDial d) .holding)) ∧
      (∀ state, (w.state = state → s.moveDial d state cause = s) ∧
        (w.state ≠ state → s.moveDial d state cause = (s.setDial d { w with state := state }).notify
          (.dial d w.state state cause w.position (s.dials.half.map fun h => h * 30 / r.interval) (s.difference d)
            w.next))) ∧
      (w.drive = .waiting false → s.withdrawDial d = (s.setDial d { w with drive := .idle }).withdraw (.dial d)) ∧
      (w.drive ≠ .waiting false → s.withdrawDial d = s))

/-! ## Floodlights (chapter 7) -/

/-- SCENE: RANGE, NO_ENTRY for an unused scene, else its levels are written and the changed circuits judged. OVERRIDE: RANGE
(also for a RELEASE with a level byte other than 0: log 18), NO_ENTRY for a circuit not in use, else the override is set
or removed and the circuit judged. The demand of a circuit: 100 for access lighting with access ACTIVE, else its
override's level, else its scene level; 0 where it is not in use. Circuits judged together take their demands first, and
then act on them in order (the order of their notices: log 59), mains being NORMAL. A SWITCHED circuit acts by its state:
OFF with demand it waits for its surge; without demand a waiting one is OFF, its request withdrawn, and a struck one
cools, its units released; a SHED mark it still has from its time as a DIMMED one goes first (log 38). While the time is
UNSET, DARK activates the fallback scene where it is set and used, LIGHT clears every scene level, and UNKNOWN changes
none; a transition with time set changes none; and the time becoming UNSET does as DARK or LIGHT does. -/
def Obligations.ScenesAndDemand : Prop :=
  ((∀ (i : Byte) (s : State), slotFree s →
      (16 ≤ i.toNat → exec (.scene [i]) s = .next (answered 0x30 .range [] (taken s)).finish) ∧
      (i.toNat < 16 → (s.sceneRec i.toNat).used = false →
        exec (.scene [i]) s = .next (answered 0x30 .noEntry [] (taken s)).finish) ∧
      (i.toNat < 16 → (s.sceneRec i.toNat).used = true →
        ∃ t, exec (.scene [i]) s = .next (answered 0x30 .ok [] t).finish ∧ t.floods.lastScene = some i.toNat ∧
          t.agenda = s.agenda ++ [.judgeCircuits ((List.range 12).filter fun c =>
            ((s.sceneRec i.toNat).levels.getD c none).any fun l => l ≠ (s.circuit c).sceneLevel) .demand] ∧
          ∀ c < 12, (t.circuit c).sceneLevel =
            ((s.sceneRec i.toNat).levels.getD c none).getD (s.circuit c).sceneLevel)) ∧
    (∀ (named : Fin 2) (c level dh dl : Byte) (s : State), slotFree s →
      let duration := dh.toNat * 256 + dl.toNat
      let answer := exec (.override [byte named, c, level, dh, dl]) s
      let good := c.toNat < 12 ∧ duration ≤ 1440 ∧ (if named = 1 then level = 0 else level.toNat ≤ 100)
      (¬good → answer = .next (answered 0x31 .range [] (taken s)).finish) ∧
      (good → (s.circuitRec c.toNat).inUse = false → answer = .next (answered 0x31 .noEntry [] (taken s)).finish) ∧
      (good → (s.circuitRec c.toNat).inUse = true →
        let o : Option Override := if named = 1 then none else
          some { level := level.toNat, expiry := if duration = 0 then none else some (s.now + duration * 60000) }
        answer = .next (answered 0x31 .ok []
          (((taken s).setCircuit c.toNat { s.circuit c.toNat with override := o }).post
            (.judgeCircuits [c.toNat] .demand))).finish))) ∧
  (∀ (s : State) (c : Nat),
      ((s.circuitRec c).inUse = false → (s.demandOf c).1 = 0) ∧
      ((s.circuitRec c).inUse = true →
        ((s.circuitRec c).accessLight = true → s.power.access = .active → s.demandOf c = (100, .access)) ∧
        ((s.circuitRec c).accessLight = false ∨ s.power.access = .clear →
          (∀ o, (s.circuit c).override = some o → s.demandOf c = (o.level, .override)) ∧
          ((s.circuit c).override = none → s.demandOf c = ((s.circuit c).sceneLevel, .scene))))) ∧
  (∀ (s : State) (l : List Nat) (cause : FloodCause),
      let t := s.each l fun c t => t.setCircuit c { t.circuit c with demand := (t.demandOf c).1, source := (t.demandOf c).2 }
      judgeCircuits l cause s = if s.mainsNormal then t.eachCircuit l fun c t => t.actCircuit c cause else t) ∧
  (∀ (s : State) (c : Nat) (cause : FloodCause),
      let r := s.circuitRec c
      let w := s.circuit c
      let moved (new : Circuit) (units : Nat) : State := (s.setCircuit c new).notify
        (.flood c w.state new.state cause w.demand w.source (new.output .switched) units)
      let unshed := (s.setCircuit c { w with shed := false }).notify
        (.flood c w.state w.state .restored w.demand w.source (w.output .switched) (s.held (.flood c)))
      (r.kind = .dimmed → s.actCircuit c cause = s.actDimmed c cause) ∧
      (r.kind = .switched →
        s.actCircuit c cause = (if w.shed then unshed else s).actSwitched c cause ∧
        (w.state = .off → 1 ≤ w.demand → s.actSwitched c cause =
          (moved { w with state := .waiting, timer := none } (s.held (.flood c))).request (.flood c) r.surge) ∧
        (w.state = .waiting → w.demand = 0 →
          s.actSwitched c cause = (moved { w with state := .off } 0).withdraw (.flood c)) ∧
        (w.state = .warming ∨ w.state = .on → w.demand = 0 → s.actSwitched c cause =
          (moved { w with state := .cooling, timer := some (s.now + r.restrike * 1000) } 0).releaseAll (.flood c)) ∧
        (w.state = .off ∧ w.demand = 0 ∨ (w.state = .waiting ∨ w.state = .warming ∨ w.state = .on) ∧ 1 ≤ w.demand ∨
          w.state = .cooling → s.actSwitched c cause = s))) ∧
  (∀ s : State,
      let takes (t : State) (levels : List (Option Nat)) (last : Option Nat) : Prop :=
        t.floods.lastScene = last ∧ t.floods.shedSeen = s.floods.shedSeen ∧
        (∀ c < 12, t.circuit c = { s.circuit c with
          sceneLevel := (levels.getD c none).getD (s.circuit c).sceneLevel }) ∧
        t.agenda = s.agenda ++ [.judgeCircuits ((List.range 12).filter fun c =>
          (levels.getD c none).any fun l => l ≠ (s.circuit c).sceneLevel) .demand] ∧
        t.tables = s.tables ∧ t.supply = s.supply ∧ t.dials = s.dials ∧ t.time = s.time
      let falls (t : State) : Prop :=
        (s.tables.light.fallback = none → t = s) ∧
        ∀ i, s.tables.light.fallback = some i →
          ((s.sceneRec i).used = false → t = s) ∧
          ((s.sceneRec i).used = true → takes t (s.sceneRec i).levels (some i))
      let cleared (t : State) : Prop := takes t (List.replicate 12 (some 0)) none
      (s.time.state = .unset →
        falls (transitionFloods .dark s) ∧ cleared (transitionFloods .light s) ∧ transitionFloods .unknown s = s) ∧
      (∀ state, s.time.state ≠ .unset → transitionFloods state s = s) ∧
      (s.light.state = .dark → falls (unsetFloods s)) ∧
      (s.light.state ≠ .dark → cleared (unsetFloods s)))

/-- The timers of a circuit: the end of warm-up is ON, reported before the surge above the rated units is released; the end of
the restrike time lights again on demand, with mains; an override's expiry removes it. A fade step moves the level of a
DIMMED circuit one percent toward its target; at 0 with the target 0 it is OFF; a step down releases the units above the
new level's. (A command whose instant has passed acts late: log 1.) -/
def Obligations.CircuitTimers : Prop :=
  (∀ (c : Fin 12) (s : State) (instant : Nat), s.ready = true →
      let t := s.runTo instant
      ((s.circuit c).state = .warming → (s.circuit c).timer = some instant →
        let surplus := (s.circuitRec c).surge - (s.circuitRec c).rated
        let w : Circuit := { s.circuit c with state := .on, timer := none }
        exec (.warmUpEnd c) s = .next (((t.setCircuit c w).notify (.flood c .warming .on .warmed w.demand w.source
          (w.output (s.circuitRec c).kind) (s.held (.flood c) - surplus))).release (.flood c) surplus).finish) ∧
      ((s.circuit c).state = .cooling → (s.circuit c).timer = some instant →
        (1 ≤ (s.circuit c).demand → s.mainsNormal = true →
          exec (.restrikeEnd c) s = .next ((t.moveCircuit c { t.circuit c with
            state := .waiting, timer := none } .restrikeEnd).request (.flood c) (s.circuitRec c).surge).finish) ∧
        ((s.circuit c).demand = 0 ∨ s.mainsNormal = false →
          exec (.restrikeEnd c) s = .next (t.moveCircuit c { t.circuit c with
            state := .off, timer := none } .restrikeEnd).finish)) ∧
      (∀ level, (s.circuit c).override = some { level := level, expiry := some instant } →
        exec (.overrideExpiry c) s = .next ((t.setCircuit c { t.circuit c with override := none }).post
          (.judgeCircuits [c] .demand)).finish)) ∧
  (∀ (c : Fin 12) (s : State) (instant : Nat), s.ready = true → (s.circuitRec c).kind = .dimmed →
      (s.circuit c).state = .on → (s.circuit c).fade = some instant →
      let t := s.runTo instant
      let w := t.circuit c
      let stepTime := 1000 / (s.circuitRec c).fade
      let at_ (level : Nat) : State := t.setCircuit c { w with
        level := level, fade := if level = w.target then none else some (t.now + stepTime) }
      (w.level < w.target → exec (.fadeStep c) s = .next (at_ (w.level + 1)).finish) ∧
      (w.target < w.level → w.level ≠ 1 →
        exec (.fadeStep c) s = .next ((at_ (w.level - 1)).release (.flood c)
          (s.held (.flood c) - ((s.circuitRec c).rated * (w.level - 1) + 99) / 100)).finish) ∧
      (w.target = 0 → w.level = 1 →
        ∃ u : State, exec (.fadeStep c) s = .next u.finish ∧ (u.circuit c).state = .off ∧ (u.circuit c).level = 0))

/-! ## Light monitor and converter (chapter 8) -/

/-- A sample instant asks for a LIGHT conversion, unless one waits or is in flight, and the timer begins again. The end of a
conversion gives the reading to its requester, and the next conversion begins. A coil result: below the open threshold the
count rises, and the third is an OPEN fault; above the short threshold it is a SHORT fault, which cuts a pulse with all
that a pulse's end brings; between them the count is 0. A fault is set with its new mark, the FAULT notice, a strikeable
report, and a held blow refused FAULT. A bell with a fault only keeps the reading. (A command whose instant has passed
acts late: log 1.) -/
def Obligations.SamplesAndReadings : Prop :=
  (∀ (s : State) (instant : Nat), s.ready = true → s.light.sample = some instant →
    let t := s.runTo instant
    let u := if s.converting .light then t else t.queueConversion .light
    exec .sampleInstant s = .next (u.withLight { u.light with
      sample := some (u.now + s.tables.light.interval * 1000) }).finish) ∧
  (∀ (s : State) (reading : Fin 1024) (c : Conversion) (ends : Nat), s.ready = true →
    s.converter.inFlight = some (c, ends) →
    let t := s.runTo ends
    let u := t.withConverter (match s.converter.queue with
      | [] => { queue := [], inFlight := none }
      | q :: rest => { queue := rest, inFlight := some (q, t.now + 1) })
    exec (.conversionEnd reading) s = .next ((match c with
      | .coil b => coilResult b reading u
      | .light => if 5 ≤ reading.val ∧ reading.val ≤ 1018 then goodLight reading u else outLight reading u)).finish) ∧
  (∀ (b reading : Nat) (s : State),
      let w := { s.bell b with reading := some reading }
      let t := s.setBell b w
      let faulted (f : HammerFault) (opens : Nat) : State :=
        let u := ((t.setBell b { w with opens := opens, fault := f, newMark := true }).notify
          (.faultBell b f reading w.claim)).post (.report b)
        if w.held.isSome then (u.setBell b { u.bell b with held := none }).blowFaulted b else u
      ((s.bell b).fault ≠ .none → coilResult b reading s = t) ∧
      ((s.bell b).fault = .none →
        (s.tables.hammerCheck.opened ≤ reading → reading ≤ s.tables.hammerCheck.short →
          coilResult b reading s = t.setBell b { w with opens := 0 }) ∧
        (reading < s.tables.hammerCheck.opened → (s.bell b).opens + 1 ≠ 3 →
          coilResult b reading s = t.setBell b { w with opens := (s.bell b).opens + 1 }) ∧
        (reading < s.tables.hammerCheck.opened → (s.bell b).opens = 2 → coilResult b reading s = faulted .opened 3) ∧
        (s.tables.hammerCheck.opened ≤ reading → s.tables.hammerCheck.short < reading →
          (w.hammer.pulses = false → coilResult b reading s = faulted .short w.opens) ∧
          (w.hammer.pulses = true → coilResult b reading s = pulseDone b (faulted .short w.opens)))))

/-- A good reading: the runs of readings, the window of six, the fault that six good readings clear, and with a full window
the average and what it makes of the light state and its runs; a transition is handed on before its LIGHT notice (log 16). An
out-of-range reading is not entered: the third in a row is the sensor fault, which empties the window, makes the state UNKNOWN
and is reported; under the fault each one empties the window. The light state changes when averages at or past a threshold
have come for the confirm count in a row, another average setting the run to 0, and from UNKNOWN at once by the middle of the
thresholds. PUT of the LIGHT group: the runs are 0 where a threshold or the confirm count changes, and stand where not. -/
def Obligations.LightReadings : Prop :=
  (∀ (new : LightSettings) (s : State),
      let old := s.tables.light
      let t := s.withTables { s.tables with light := new }
      let same := old.dusk = new.dusk ∧ old.dawn = new.dawn ∧ old.confirm = new.confirm
      (same → s.newLightSettings new = t) ∧
      (¬same → s.newLightSettings new = t.withLight { s.light with darkRun := 0, lightRun := 0 })) ∧
  (∀ (r : Nat) (s : State),
      let l := s.light
      let window := (if 6 ≤ l.window.length then l.window.drop 1 else l.window) ++ [r]
      let run := min 6 (l.goodRun + 1)
      let restored := l.fault = true ∧ run = 6
      let read : Light := { l with
        reading := some r, outRun := 0, goodRun := run, window := window, fault := if restored then false else l.fault }
      (window.length ≠ 6 → goodLight r s = s.withLight read) ∧
      (window.length = 6 →
        let average := window.sum / 6
        let d := decideLight s.tables.light read average
        let t := s.withLight { read with average := some average, state := d.1, darkRun := d.2.1, lightRun := d.2.2 }
        let told := if l.state = d.1 then t else t.postAll [.transitionDay d.1, .transitionFloods d.1]
        (l.state = d.1 → ¬restored → goodLight r s = t) ∧
        (restored → goodLight r s = told.notify (.light l.state d.1 .sensorRestored (some average) false)) ∧
        (l.state ≠ d.1 → ¬restored → goodLight r s = told.notify
          (.light l.state d.1 (if l.state = .unknown then .decided else .confirmed) (some average) l.fault)))) ∧
  (∀ (r : Nat) (s : State),
      let l := { s.light with reading := some r, goodRun := 0 }
      (l.fault = true → outLight r s = s.withLight { l with window := [], average := none }) ∧
      (l.fault = false → l.outRun < 2 → outLight r s = s.withLight { l with outRun := l.outRun + 1 }) ∧
      (l.fault = false → 2 ≤ l.outRun →
        let t := s.withLight { l with
          fault := true, newMark := true, window := [], average := none, state := .unknown, darkRun := 0, lightRun := 0
          outRun := 0 }
        let told := if l.state = .unknown then t else t.postAll [.transitionDay .unknown, .transitionFloods .unknown]
        outLight r s = (told.notify (.light l.state .unknown .sensorFault none true)).notify (.faultLight r l.state))) ∧
  (∀ (t : LightSettings) (l : Light) (average : Nat),
      let decided := decideLight t l average
      (l.state = .unknown → decided = (if average ≤ (t.dusk + t.dawn) / 2 then .dark else .light, 0, 0)) ∧
      (l.state = .light →
        (average ≤ t.dusk → t.confirm ≤ l.darkRun + 1 → decided = (.dark, 0, 0)) ∧
        (average ≤ t.dusk → l.darkRun + 1 < t.confirm → decided = (.light, l.darkRun + 1, l.lightRun)) ∧
        (t.dusk < average → decided = (.light, 0, l.lightRun))) ∧
      (l.state = .dark →
        (t.dawn ≤ average → t.confirm ≤ l.lightRun + 1 → decided = (.light, 0, 0)) ∧
        (t.dawn ≤ average → l.lightRun + 1 < t.confirm → decided = (.dark, l.darkRun, l.lightRun + 1)) ∧
        (average < t.dawn → decided = (.dark, l.darkRun, 0))))

/-! ## Supply arbiter (chapter 9) -/

/-- The service walks the waiting list from its head: an oversize entry stays, an entry that fits is granted, and the first
other entry stops the service. The claimants granted are told in that order, and where a HAMMER or DIAL request was
granted the shed signal is judged: it is cleared, with its notice, where none of them that can be met waits. A request
takes the place of the claimant's earlier one, which is withdrawn first; it joins at the tail of its class: no request
before it has a lower class, and none after it a higher or equal one, where the list was in order; every other claimant's
request keeps its place. An oversize one is reported. A HAMMER's or DIAL's carries its shed timer while it waits. Then the
service runs. A release takes units off the claimant's grant and runs the service; of 0 units it changes nothing.
Withdrawals made together leave the list together, the shed signal is judged, and one service follows; a claimant with
nothing waiting withdraws without effect. -/
def Obligations.SupplyService : Prop :=
  (∀ (budget : Nat) (r : SupplyRequest) (l : List SupplyRequest) (g : Table Nat),
      let held := Table.get 0 g r.claimant.number
      (budget < r.units + held → serviceWalk budget (r :: l) g =
        { serviceWalk budget l g with waiting := r :: (serviceWalk budget l g).waiting }) ∧
      (r.units + held ≤ budget → r.units + Table.sum g ≤ budget →
        let g' := Table.put 0 g r.claimant.number (held + r.units)
        serviceWalk budget (r :: l) g =
          { serviceWalk budget l g' with granted := r :: (serviceWalk budget l g').granted }) ∧
      (r.units + held ≤ budget → budget < r.units + Table.sum g → serviceWalk budget (r :: l) g = ⟨r :: l, [], g⟩)) ∧
  (∀ (r : SupplyRequest) (l : List SupplyRequest),
      l.Pairwise (fun a b => (supplyClass a.claimant).rank ≤ (supplyClass b.claimant).rank) →
      ∃ before after, l = before ++ after ∧ joinList r l = before ++ r :: after ∧
        (∀ q ∈ before, (supplyClass q.claimant).rank ≤ (supplyClass r.claimant).rank) ∧
        ∀ q ∈ after, (supplyClass r.claimant).rank < (supplyClass q.claimant).rank) ∧
  (∀ (s : State) (c : Claimant) (units : Nat),
      s.release c 0 = s ∧
      (units ≠ 0 → s.release c units = (s.withSupply { s.supply with
        grants := Table.put 0 s.supply.grants c.number (s.held c - units) }).serve) ∧
      ((∀ r ∈ s.supply.waiting, r.claimant ≠ c) → s.withdraw c = s) ∧
      (∀ r ∈ (s.withdraw c).supply.waiting, r.claimant ≠ c)) ∧
  (∀ s : State,
      let budget := s.tables.supply.budget
      let w := serviceWalk budget s.supply.waiting s.supply.grants
      let t := (s.withSupply { s.supply with waiting := w.waiting, grants := w.grants }).postAll
        (w.granted.map fun r => .granted r.claimant r.units)
      let pressed := ∃ r ∈ s.supply.waiting, presses r.claimant = true ∧ r.units + s.held r.claimant ≤ budget
      ((∃ r ∈ w.granted, presses r.claimant = true) → s.serve = t.shedCheck) ∧
      ((∀ r ∈ w.granted, presses r.claimant = false) → s.serve = t) ∧
      (s.supply.shed = false ∨ pressed → s.shedCheck = s) ∧
      (s.supply.shed = true → ¬pressed →
        s.shedCheck = (supplyTells .shedClear none (s.withSupply { s.supply with shed := false })).post .shedClear)) ∧
  (∀ (s : State) (l : List Claimant) (c : Claimant),
      let left := s.withSupply { s.supply with waiting := s.supply.waiting.filter fun r => r.claimant ∉ l }
      s.withdraw c = s.withdrawAll [c] ∧
      ((∀ r ∈ s.supply.waiting, r.claimant ∉ l) → s.withdrawAll l = s) ∧
      ((∃ r ∈ s.supply.waiting, r.claimant ∈ l) →
        s.withdrawAll l = (if ∃ c ∈ l, presses c = true then left.shedCheck else left).serve)) ∧
  (∀ (s : State) (c : Claimant) (units : Nat),
      let t := s.withdraw c
      let r : SupplyRequest := { claimant := c, units := units, joined := s.now
                                 shedAt := if presses c then some (s.now + s.tables.supply.delay) else none }
      let joined := t.withSupply { t.supply with waiting := joinList r t.supply.waiting }
      (units + t.held c ≤ s.tables.supply.budget → s.request c units = joined.serve) ∧
      (s.tables.supply.budget < units + t.held c →
        s.request c units = (supplyTells .oversize (some (c, units)) joined).serve) ∧
      (∀ q ∈ (s.request c units).supply.waiting, q.claimant = c → q = r))

/-- A shed timer's expiry: the timer stops, and the signal is set with its notice and handed to the floodlights (the notice
first: log 16), unless it stands or the request is oversize; with the request gone it finds nothing. SET marks every
sheddable DIMMED circuit whose demand is above its shed level: the level drops to the shed level at once, the notice is
sent (with the level and units after it: log 64), the units above are released and then the target becomes the shed level
(with the cause SHED where that makes it OFF: log 64). CLEAR clears every mark, and the target is the demand again;
without mains the mark alone goes (R142, log 38). The circuits act in their order, each told the grants its own act drew;
their notices go before what they set going for others (log 59). While the signal is set a demand that comes to exceed the
shed level is capped the same way, and one that falls to it is followed. A new target asks for the units it lacks, or
fades, a fade timer that runs being kept (log 24's reading of R138), or goes dark at once. (A command whose instant has
passed acts late: log 1.) -/
def Obligations.ShedSignal : Prop :=
  (∀ (c : Claimant) (s : State), s.ready = true →
    ((∀ r ∈ s.supply.waiting, r.claimant ≠ c) → exec (.shedTimerExpiry c) s = .next s.finish) ∧
    (∀ r instant, s.supply.waiting.find? (fun r => r.claimant = c) = some r → r.shedAt = some instant →
      let t := s.runTo instant
      let waiting := t.supply.waiting.map fun q => if q.claimant = c then { q with shedAt := none } else q
      (s.supply.shed = true ∨ s.tables.supply.budget < r.units + s.held c →
        exec (.shedTimerExpiry c) s = .next (t.withSupply { t.supply with waiting := waiting }).finish) ∧
      (s.supply.shed = false → r.units + s.held c ≤ s.tables.supply.budget →
        let u := t.withSupply { t.supply with waiting := waiting, shed := true }
        exec (.shedTimerExpiry c) s = .next ((u.notify (.supply .shedSet u.tables.supply.budget u.supply.total
          waiting.length (waiting.head?.map fun r => (r.claimant, r.units)) none)).post .shedSet).finish))) ∧
  (∀ s : State,
    let due (c : Nat) : Prop := (s.circuitRec c).kind = .dimmed ∧ (s.circuitRec c).sheddable = true ∧
      (s.circuitRec c).shed < (s.circuit c).demand ∧ (s.circuit c).shed = false
    shedSet s = (s.withFloods { s.floods with shedSeen := true }).eachCircuit ((List.range 12).filter fun c => due c)
      (fun c t => t.cap c .shed) ∧
    shedClear s = (s.withFloods { s.floods with shedSeen := false }).eachCircuit
      ((List.range 12).filter fun c => (s.circuit c).shed) (fun c t => t.uncap c)) ∧
  (∀ (s : State) (l : List Nat) (f : Nat → State → State), s.agenda = [] →
    let notice (m : Msg) : Bool := match m with
      | .notice _ => true
      | _ => false
    let own (c : Nat) (m : Msg) : Option Nat := match m with
      | .granted (.flood d) units => if d = c then some units else none
      | _ => none
    let t := s.each l fun c u =>
      ((f c u).agenda.filterMap (own c)).foldl (fun v units => floodGranted c units v)
        ((f c u).withAgenda ((f c u).agenda.filter fun m => (own c m).isNone))
    s.eachCircuit l f = t.withAgenda (t.agenda.filter notice ++ t.agenda.filter fun m => !notice m)) ∧
  (∀ (s : State) (c : Nat) (cause : FloodCause), (s.circuitRec c).kind = .dimmed →
    let r := s.circuitRec c
    let w := s.circuit c
    let held := s.held (.flood c)
    let unitsAt (level : Nat) : Nat := (r.rated * level + 99) / 100
    let dropped := (s.setCircuit c { w with shed := true, level := r.shed, fade := none }).notify
      (.flood c w.state w.state .shed w.demand w.source r.shed (min held (unitsAt r.shed)))
    let marked := (s.setCircuit c { w with shed := true }).notify
      (.flood c w.state w.state .shed w.demand w.source w.level held)
    let unmarked := (s.setCircuit c { w with shed := false }).notify
      (.flood c w.state w.state .restored w.demand w.source w.level held)
    (w.shed = false → r.shed < w.level →
      s.cap c cause = (dropped.release (.flood c) (held - unitsAt r.shed)).retarget c r.shed cause) ∧
    (w.shed = false → w.level ≤ r.shed → s.cap c cause = marked.retarget c r.shed cause) ∧
    (w.shed = true → s.cap c cause = s.retarget c r.shed cause) ∧
    (s.uncap c = if s.mainsNormal then unmarked.retarget c w.demand .restored else unmarked) ∧
    (s.floods.shedSeen = true → r.sheddable = true → r.shed < w.demand → s.actDimmed c cause = s.cap c cause) ∧
    (s.floods.shedSeen = false ∨ r.sheddable = false ∨ w.demand ≤ r.shed →
      s.actDimmed c cause = (if w.shed then unmarked else s).retarget c w.demand cause) ∧
    (∀ target : Nat,
      let need := unitsAt target
      let t := s.setCircuit c { w with
        target := target, fade := none, state := if w.state = .off then .waiting else w.state }
      let told := if w.state = .off then t.notify (.flood c .off .waiting cause w.demand w.source w.level held) else t
      let fading := ((s.setCircuit c { w with target := target }).withdraw (.flood c)).runFade c
      let dark := s.setCircuit c { w with state := .off, level := 0, target := 0, fade := none }
      let toldDark := if w.state = .off then dark else dark.notify (.flood c w.state .off cause w.demand w.source 0 0)
      (held < need →
        (s.requested c = some (need - held) → s.retarget c target cause = told) ∧
        (s.requested c ≠ some (need - held) → s.retarget c target cause = told.request (.flood c) (need - held))) ∧
      (need ≤ held → target = 0 → w.state ≠ .on ∨ w.level = 0 →
        s.retarget c target cause = (toldDark.withdraw (.flood c)).releaseAll (.flood c)) ∧
      (need ≤ held → ¬(target = 0 ∧ (w.state ≠ .on ∨ w.level = 0)) →
        (w.level ≤ target → s.retarget c target cause = fading.release (.flood c) (held - need)) ∧
        (target < w.level → s.retarget c target cause = fading))) ∧
    (s.runFade c = s.setCircuit c { w with
      fade := if w.level = w.target then none else some (w.fade.getD (s.now + 1000 / r.fade)) }))

/-! ## Power monitor (10.1, 10.2) -/

/-- The mains line: absent makes the state RESERVE at once, present starts the settle from RESERVE alone. At a loss from
NORMAL the notice goes first, and every block takes the loss at once, in log 31's order: every grant and request is gone
and nothing is driven before any message is handled. The settle timer's end: NORMAL, with the notice, and the return is
handed to the blocks. The access and key switches: a level shown that differs from the state starts the timer, one that
agrees stops it; the timer's end takes the level, of access with a notice and for the blocks. (A command whose instant has
passed acts late: log 1.) -/
def Obligations.PowerMonitor : Prop :=
  (∀ s : State, s.ready = true →
      (s.power.mains = .returning →
        exec .mainsLineAbsent s = .next ((s.withPower { s.power with
          linePresent := false, mains := .reserve, settle := none }).notify (.mains .returning .reserve s.now)).finish) ∧
      (s.power.mains = .reserve →
        exec .mainsLineAbsent s = .next (s.withPower { s.power with linePresent := false }).finish ∧
        exec .mainsLinePresent s = .next ((s.withPower { s.power with
          linePresent := true, mains := .returning, settle := some (s.now + 2000) }).notify
            (.mains .reserve .returning s.now)).finish) ∧
      (s.power.mains ≠ .reserve →
        exec .mainsLinePresent s = .next (s.withPower { s.power with linePresent := true }).finish) ∧
      (s.power.mains = .normal →
        let u := (s.withPower { s.power with linePresent := false, mains := .reserve, settle := none }).notify
          (.mains .normal .reserve s.now)
        let t := lightLoss (converterLoss (supplyLoss (lossFloods (lossDials (lossRun (lossSwing
          (abortPlaying .reserve none (lossBells u))))))))
        exec .mainsLineAbsent s = .next t.finish ∧
          t.power = { s.power with linePresent := false, mains := .reserve, settle := none } ∧
          t.supply = { grants := [], waiting := [], shed := false } ∧ t.converter = { queue := [], inFlight := none } ∧
          t.light.sample = none ∧ t.dark ∧ t.tables = s.tables ∧ t.time = s.time)) ∧
  (∀ (s : State) (instant : Nat), s.ready = true → s.power.mains = .returning → s.power.settle = some instant →
      let t := s.runTo instant
      exec .mainsSettleExpiry s = .next (((t.withPower { s.power with mains := .normal, settle := none }).notify
        (.mains .returning .normal t.now)).postAll
          ((List.range 16).map Msg.report ++ [.returnDials .mainsReturn, .returnFloods .mainsReturn, .returnLight])).finish) ∧
  (∀ (shows : Access) (s : State), s.ready = true → s.power.accessShows ≠ shows →
    exec (.accessSwitchChange shows) s = .next (s.withPower { s.power with
      accessShows := shows, accessTimer := if shows = s.power.access then none else some (s.now + 500) }).finish) ∧
  (∀ (shows : Key) (s : State), s.ready = true → s.power.keyShows ≠ shows →
    exec (.keySwitchChange shows) s = .next (s.withPower { s.power with
      keyShows := shows, keyTimer := if shows = s.power.key then none else some (s.now + 100) }).finish) ∧
  (∀ (s : State) (instant : Nat), s.ready = true → s.power.accessTimer = some instant →
    let t := s.runTo instant
    exec .accessTimerExpiry s = .next (((t.withPower { s.power with
      access := s.power.accessShows, accessTimer := none }).notify
        (.access s.power.access s.power.accessShows t.now)).postAll
          (match s.power.accessShows with
            | .active => [.accessBells, .abort .access none, .accessSwing, .accessRun, .accessFloods]
            | .clear => [.accessBells, .accessSwing, .accessRun, .accessFloods])).finish) ∧
  (∀ (s : State) (instant : Nat), s.ready = true → s.power.keyTimer = some instant →
    let t := s.runTo instant
    exec .keyTimerExpiry s = .next (t.withPower { s.power with key := s.power.keyShows, keyTimer := none }).finish)

/-- What access becoming ACTIVE does to the hammers, the units and the run, and a mains loss to these and the dials and
the circuits. A blow held or waiting is gone, under access a pulse runs on, at a mains loss it is cut into RECOVERY. A
unit that rings is lowered with the kind of the cause, a pending start is cancelled, every drive is cut (of a braking
impulse under access: log 36); at a mains loss a lowering unit takes kind RESERVE and counts no limit, and no units are
released. The run takes every stop step at once. A dial that moves stops and keeps its position, its polarity and its
in-flight mark. A lamp cools, a dimmed circuit is off (its fade target 0: log 53). -/
def Obligations.AccessAndMainsLoss : Prop :=
  (∀ s : State, s.power.access = .active →
    (∀ b < 16, (accessBells s).bell b = { s.bell b with
      held := none, hammer := match (s.bell b).hammer with | .waiting _ _ => .idle | h => h }) ∧
    (∀ u < 6,
      let w := s.unit u
      let v := (accessSwing s).unit u
      v.drive = .idle ∧
      (w.rings = true → v.state = .lowering ∧ v.lowKind = some .access ∧ v.ringEnd = none ∧ v.raiseLimit = none ∧
        v.lowerLimit = some (s.now + (s.swingRec u).lower * 1000)) ∧
      (w.rings = false → w.startPending = false → v = { w with drive := .idle }) ∧
      (∀ b < 16, w.rings = false → w.startPending = true → s.bellOfUnit u = some b → (s.bell b).pending = true →
        v = { w with drive := .idle, startPending := false, owner := none, minutes := 0 } ∧
          ((accessSwing s).bell b).pending = false)) ∧
    (s.run.state = .idle → accessRun s = s) ∧
    (s.run.state = .starting ∨ s.run.state = .running → accessRun s = s.stopRun .access 0) ∧
    (s.run.state = .stopping → (accessRun s).run.stops = [])) ∧
  (∀ s : State, s.power.access = .clear →
    accessBells s = s.postAll ((List.range 16).map .report) ∧ accessRun s = s ∧
    ∀ u < 6, (accessSwing s).unit u = { s.unit u with
      drive := match (s.unit u).drive with | .waiting _ _ _ => .idle | d => d }) ∧
  (∀ s : State,
    (∀ b < 16, (lossBells s).bell b = { s.bell b with
      held := none
      hammer := match (s.bell b).hammer with
        | .waiting _ _ => .idle
        | .pulse _ _ => .recovery (s.now + (s.bellRec b).recovery)
        | h => h }) ∧
    (lossBells s).supply = s.supply ∧ (lossSwing s).supply = s.supply ∧
    (∀ u < 6,
      let w := s.unit u
      let v := (lossSwing s).unit u
      v.drive = .idle ∧
      (w.rings = true ∨ w.state = .lowering → v.state = .lowering ∧ v.lowKind = some .reserve ∧ v.lowerLimit = none) ∧
      (w.rings = false → w.state ≠ .lowering → w.startPending = false → v = { w with drive := .idle }) ∧
      (∀ b < 16, w.rings = false → w.state ≠ .lowering → w.startPending = true → s.bellOfUnit u = some b →
        (s.bell b).pending = true →
        v = { w with drive := .idle, startPending := false, owner := none, minutes := 0 } ∧
          ((lossSwing s).bell b).pending = false)) ∧
    (s.run.state = .idle → lossRun s = s) ∧
    (s.run.state = .starting ∨ s.run.state = .running → lossRun s = s.stopRun .reserve 0) ∧
    (s.run.state = .stopping → (lossRun s).run.stops = []) ∧
    (∀ d < 4, (lossDials s).dial d = { s.dial d with
      drive := .idle, state := if (s.dial d).state.moves then .stopped else (s.dial d).state }) ∧
    (∀ c < 12,
      let r := s.circuitRec c
      let w := s.circuit c
      let v := (lossFloods s).circuit c
      (r.kind = .switched → w.state = .warming ∨ w.state = .on →
        v = { w with state := .cooling, timer := some (s.now + r.restrike * 1000) }) ∧
      (r.kind = .switched → w.state = .waiting → v = { w with state := .off }) ∧
      (r.kind = .dimmed → w.state = .waiting ∨ w.state = .on →
        v = { w with state := .off, level := 0, target := 0, fade := none, shed := false }) ∧
      (w.state = .off ∨ r.kind = .switched ∧ w.state = .cooling → v = w)))

/-! ## Start (10.4) -/

/-- The opening of LOADING, after the reset line, after the supply and after a RESTART: elapsed time 0, the tables
loaded (right here: log 7), the lines taken as they show, the link, the supply arbiter, the converter and the queue
afresh, and nothing driven. The causes, and that retained memory stands where it stood before and through the failure,
are log 39's. -/
def Obligations.LoadingOpens : Prop :=
  ∀ s : State,
    let opened (cause : StartCause) (t : State) : Prop :=
      t.start.phase = .loading ∧ t.start.cause = cause ∧ t.start.failed = s.store.bad ∧ t.running = true ∧
      t.time.elapsed = 0 ∧ t.time.kept = s.time.kept ∧ t.time.trim = s.time.trim ∧ t.time.slew = 0 ∧
      t.tables = s.store.load ∧ t.refs = refMonitor0 ∧ t.run = pealRun0 ∧ t.supply = supply0 ∧ t.light = light0 ∧
      t.converter = converter0 ∧ t.link = link0 ∧ t.agenda = [] ∧ t.chime.queue = [] ∧ t.chime.playing = none ∧
      t.power.mains = (if s.power.linePresent then .returning else .reserve) ∧
      t.power.access = s.power.accessShows ∧ t.power.key = s.power.keyShows ∧ t.store.saving = none ∧ t.dark ∧
      t.pending = s.pending
    (s.start.resetHeld = true → s.start.supplied = true →
      ∃ t, exec .resetLineRelease s = .next t ∧ opened .resetLine t) ∧
    (∀ retained, s.start.resetHeld = false → s.start.supplied = false →
      ∃ t, exec (.powerOn retained) s = .next t ∧ opened .powerOn t ∧
        t.start.retainedGood = (s.start.retainedGood && retained))

/-- The reset line held, or the supply lost: the part does not run, and nothing else changes; a command from then on, but for
the lines and the supply, has no effect, and in LOADING none but those the part takes there (log 33). -/
def Obligations.PartDoesNotRun : Prop :=
  (∀ s : State, exec .resetLineHeld s = .next (s.withStart { s.start with resetHeld := true }) ∧
    exec .supplyFailure s = .next (s.withStart { s.start with supplied := false }) ∧
    (s.withStart { s.start with resetHeld := true }).running = false ∧
    (s.withStart { s.start with supplied := false }).running = false) ∧
  (∀ (i : Instr) (s : State), s.running = false → outside i = false → exec i s = .next s) ∧
  (∀ (i : Instr) (s : State), s.running = true → s.start.phase = .loading → takenInLoading i = false →
    exec i s = .next s)

/-- The end of LOADING: READY, warm where retained memory is valid and cold where it is not, and the START notice goes
before the blocks' work, whose order is the model's choice (logs 3, 57). A cold start clears the time, the dials'
positions and the scene levels. -/
def Obligations.LoadingEnds : Prop :=
  ∀ s : State, s.running = true → s.start.phase = .loading →
    ∃ t : State, exec .loadingEnd s = .next t.finish ∧ t.start.phase = .ready ∧ t.start.retainedGood = true ∧
      t.tables = s.tables ∧
      t.agenda = s.agenda ++ [.notice (.start s.start.cause s.start.retainedGood s.start.failed s.power.mains
        s.power.access s.power.key), .readyTime, .readyDay, .readyStrike, .readyDials, .returnFloods .start,
        .returnLight] ∧
      (s.start.retainedGood = true → t.time = s.time ∧ t.dials = s.dials ∧ t.floods = s.floods) ∧
      (s.start.retainedGood = false → t.time.state = .unset ∧ t.time.kept = none ∧ t.time.trim = 0 ∧
        t.time.elapsed = s.time.elapsed ∧ t.day = dayProgramme0 ∧ t.chime.quarterGuard = none ∧ t.dials.dials = [] ∧
        (∀ c < 12, (t.circuit c).sceneLevel = 0) ∧ ∀ b < 16, (t.bell b).fault = .none ∧ (t.bell b).opens = 0)
end

