-- ==== Sys2Proof/Laws/Tables.lean ====
section
/-! SUPPORT. What reading and writing a table does: an entry written is read back, every other entry stands, the canonical
form is kept, and the sum of a table of numbers moves by no more than the entry does. -/

namespace Sys2Proof

variable {α : Type}

/-! ## Reading -/

theorem Table.get_remove_self (d : α) (t : Table α) (i : Nat) : Table.get d (Table.remove t i) i = d := by
  induction t with
  | nil => rfl
  | cons e t ih =>
    obtain ⟨k, w⟩ := e
    by_cases h : k = i
    · simpa [Table.remove, List.filter, h] using ih
    · simpa [Table.remove, List.filter, h, Table.get] using ih

theorem Table.get_remove_other (d : α) (t : Table α) {i j : Nat} (h : i ≠ j) :
    Table.get d (Table.remove t i) j = Table.get d t j := by
  induction t with
  | nil => rfl
  | cons e t ih =>
    obtain ⟨k, w⟩ := e
    simp only [Table.remove, List.filter] at ih ⊢
    by_cases hk : k = i
    · have hj : k ≠ j := hk ▸ h
      simpa [hk, Table.get, hj, h] using ih
    · simp only [ne_eq, hk, not_false_eq_true, decide_true, Table.get]
      split
      · rfl
      · exact ih

theorem Table.get_insert_self (d : α) (t : Table α) (i : Nat) (v : α) (h : ∀ e ∈ t, e.1 ≠ i) :
    Table.get d (Table.insert t i v) i = v := by
  induction t with
  | nil => simp [Table.insert, Table.get]
  | cons e t ih =>
    obtain ⟨k, w⟩ := e
    have hk : k ≠ i := h (k, w) (by simp)
    have ht : ∀ e ∈ t, e.1 ≠ i := fun e he => h e (by simp [he])
    simp only [Table.insert]
    split
    · simp [Table.get]
    · simp [Table.get, hk, ih ht]

theorem Table.get_insert_other (d : α) (t : Table α) {i j : Nat} (v : α) (h : i ≠ j) :
    Table.get d (Table.insert t i v) j = Table.get d t j := by
  induction t with
  | nil => simp [Table.insert, Table.get, h]
  | cons e t ih =>
    obtain ⟨k, w⟩ := e
    simp only [Table.insert]
    split
    · simp [Table.get, h]
    · simp only [Table.get, ih]

theorem Table.remove_index (t : Table α) (i : Nat) : ∀ e ∈ Table.remove t i, e.1 ≠ i := by
  intro e he
  simpa using (List.mem_filter.mp he).2

/-- The entry written is the entry read. -/
@[simp] theorem Table.get_put_self [DecidableEq α] (d : α) (t : Table α) (i : Nat) (v : α) :
    Table.get d (Table.put d t i v) i = v := by
  unfold Table.put
  split
  · rename_i h
    rw [h]
    exact Table.get_remove_self d t i
  · exact Table.get_insert_self d _ i v (Table.remove_index t i)

/-- Every other entry stands. -/
theorem Table.get_put_other [DecidableEq α] (d : α) (t : Table α) {i j : Nat} (v : α) (h : i ≠ j) :
    Table.get d (Table.put d t i v) j = Table.get d t j := by
  unfold Table.put
  split
  · exact Table.get_remove_other d t h
  · rw [Table.get_insert_other d _ v h, Table.get_remove_other d t h]

/-- An entry after a write. -/
theorem Table.get_put [DecidableEq α] (d : α) (t : Table α) (i j : Nat) (v : α) :
    Table.get d (Table.put d t i v) j = if i = j then v else Table.get d t j := by
  split
  · rename_i h
    rw [h, Table.get_put_self]
  · rename_i h
    exact Table.get_put_other d t v h

/-- Removing what was inserted among other indices leaves them. -/
theorem Table.remove_insert (t : Table α) (i : Nat) (v : α) (h : ∀ e ∈ t, e.1 ≠ i) :
    Table.remove (Table.insert t i v) i = t := by
  have hf : ∀ l : Table α, (∀ e ∈ l, e.1 ≠ i) → Table.remove l i = l := fun l hl =>
    List.filter_eq_self.mpr fun x hx => by simpa using hl x hx
  induction t with
  | nil => simp [Table.insert, Table.remove]
  | cons e t ih =>
    have he : e.1 ≠ i := h e (by simp)
    unfold Table.insert
    split
    · have := hf (e :: t) h
      simpa [Table.remove] using this
    · have := ih fun x hx => h x (by simp [hx])
      have k : Table.remove (e :: Table.insert t i v) i = e :: Table.remove (Table.insert t i v) i :=
        List.filter_cons_of_pos (by simpa using he)
      rw [k, this]

/-- An entry put at an index twice is the last one. -/
@[simp] theorem Table.put_put [DecidableEq α] (d : α) (t : Table α) (i : Nat) (v w : α) :
    Table.put d (Table.put d t i v) i w = Table.put d t i w := by
  have e : Table.remove (Table.put d t i v) i = Table.remove t i := by
    unfold Table.put
    split
    · simp [Table.remove]
    · exact Table.remove_insert _ i v (Table.remove_index t i)
  show (if w = d then _ else _) = if w = d then _ else _
  rw [e]

/-! ## The canonical form -/

theorem Table.wfAbove_weaken [DecidableEq α] (d : α) (t : Table α) {b c : Option Nat}
    (h : ∀ k, (∀ n ∈ b, n < k) → ∀ n ∈ c, n < k) (ht : Table.wfAbove d b t = true) : Table.wfAbove d c t = true := by
  cases t with
  | nil => rfl
  | cons e t =>
    obtain ⟨k, v⟩ := e
    simp only [Table.wfAbove, Bool.and_eq_true, decide_eq_true_eq] at ht ⊢
    exact ⟨⟨h k ht.1.1, ht.1.2⟩, ht.2⟩

theorem Table.wfAbove_remove [DecidableEq α] (d : α) (t : Table α) (i : Nat) (b : Option Nat)
    (ht : Table.wfAbove d b t = true) : Table.wfAbove d b (Table.remove t i) = true := by
  induction t generalizing b with
  | nil => rfl
  | cons e t ih =>
    obtain ⟨k, v⟩ := e
    simp only [Table.wfAbove, Bool.and_eq_true, decide_eq_true_eq] at ht
    by_cases hk : k = i
    · have hw : Table.wfAbove d b t = true := by
        refine Table.wfAbove_weaken d t ?_ ht.2
        intro m hm n hn
        exact lt_trans (ht.1.1 n hn) (hm k rfl)
      simpa [Table.remove, List.filter, hk] using ih b hw
    · have := ih (some k) ht.2
      simp only [Table.remove, List.filter, ne_eq, hk, not_false_eq_true, decide_true, Table.wfAbove, Bool.and_eq_true,
        decide_eq_true_eq]
      exact ⟨ht.1, this⟩

theorem Table.wfAbove_insert [DecidableEq α] (d : α) (t : Table α) (i : Nat) (v : α) (b : Option Nat) (hv : v ≠ d)
    (hb : ∀ n ∈ b, n < i) (hi : ∀ e ∈ t, e.1 ≠ i) (ht : Table.wfAbove d b t = true) :
    Table.wfAbove d b (Table.insert t i v) = true := by
  induction t generalizing b with
  | nil =>
    simp only [Table.insert, Table.wfAbove, Bool.and_eq_true, decide_eq_true_eq]
    exact ⟨⟨hb, hv⟩, trivial⟩
  | cons e t ih =>
    obtain ⟨k, w⟩ := e
    simp only [Table.wfAbove, Bool.and_eq_true, decide_eq_true_eq] at ht
    simp only [Table.insert]
    split
    · rename_i h
      simp only [Table.wfAbove, Bool.and_eq_true, decide_eq_true_eq]
      exact ⟨⟨hb, hv⟩, ⟨⟨by simpa using h, ht.1.2⟩, ht.2⟩⟩
    · rename_i h
      have hk : k ≠ i := hi (k, w) (by simp)
      have hlt : k < i := by omega
      simp only [Table.wfAbove, Bool.and_eq_true, decide_eq_true_eq]
      exact ⟨ht.1, ih (some k) (by simpa using hlt) (fun e he => hi e (by simp [he])) ht.2⟩

/-- A write keeps the canonical form. -/
theorem Table.wf_put [DecidableEq α] (d : α) (t : Table α) (i : Nat) (v : α) (ht : Table.wf d t = true) :
    Table.wf d (Table.put d t i v) = true := by
  unfold Table.put
  split
  · exact Table.wfAbove_remove d t i none ht
  · rename_i h
    exact Table.wfAbove_insert d _ i v none h (by simp) (Table.remove_index t i) (Table.wfAbove_remove d t i none ht)

/-! ## Sums -/

theorem Table.sum_insert (t : Table Nat) (i v : Nat) : Table.sum (Table.insert t i v) = Table.sum t + v := by
  induction t with
  | nil => simp [Table.insert, Table.sum]
  | cons e t ih =>
    obtain ⟨k, w⟩ := e
    simp only [Table.insert]
    split
    · simp [Table.sum]; omega
    · simp only [Table.sum, List.map_cons, List.sum_cons] at ih ⊢
      omega

/-- Removing an entry takes at least its number from the sum. -/
theorem Table.sum_remove (t : Table Nat) (i : Nat) : Table.sum (Table.remove t i) + Table.get 0 t i ≤ Table.sum t := by
  induction t with
  | nil => simp [Table.remove, Table.sum, Table.get]
  | cons e t ih =>
    obtain ⟨k, w⟩ := e
    by_cases h : k = i
    · simp only [Table.remove, List.filter, h, Table.get, Table.sum, ne_eq, not_true_eq_false, decide_false, if_true,
        List.map_cons, List.sum_cons] at ih ⊢
      omega
    · simp only [Table.remove, List.filter, h, Table.get, Table.sum, ne_eq, not_false_eq_true, decide_true, if_false,
        List.map_cons, List.sum_cons] at ih ⊢
      omega

/-- A write moves the sum by no more than the entry moves. -/
theorem Table.sum_put_le (t : Table Nat) (i v : Nat) :
    Table.sum (Table.put 0 t i v) + Table.get 0 t i ≤ Table.sum t + v := by
  have := Table.sum_remove t i
  unfold Table.put
  split
  · omega
  · rw [Table.sum_insert]; omega

end Sys2Proof
end

