-- ==== Sys2Proof/Laws/State.lean ====
section
/-! SUPPORT. Each field of the state after each update of one field: true by `rfl`, so that no proof unfolds an update. -/

namespace Sys2Proof.Machine

/-! ## withTables -/

@[simp] theorem State.withTables_tables (s : State) (v : Tables) : (s.withTables v).tables = v := rfl
@[simp] theorem State.withTables_time (s : State) (v : Tables) : (s.withTables v).time = s.time := rfl
@[simp] theorem State.withTables_refs (s : State) (v : Tables) : (s.withTables v).refs = s.refs := rfl
@[simp] theorem State.withTables_day (s : State) (v : Tables) : (s.withTables v).day = s.day := rfl
@[simp] theorem State.withTables_chime (s : State) (v : Tables) : (s.withTables v).chime = s.chime := rfl
@[simp] theorem State.withTables_bells (s : State) (v : Tables) : (s.withTables v).bells = s.bells := rfl
@[simp] theorem State.withTables_units (s : State) (v : Tables) : (s.withTables v).units = s.units := rfl
@[simp] theorem State.withTables_run (s : State) (v : Tables) : (s.withTables v).run = s.run := rfl
@[simp] theorem State.withTables_dials (s : State) (v : Tables) : (s.withTables v).dials = s.dials := rfl
@[simp] theorem State.withTables_floods (s : State) (v : Tables) : (s.withTables v).floods = s.floods := rfl
@[simp] theorem State.withTables_light (s : State) (v : Tables) : (s.withTables v).light = s.light := rfl
@[simp] theorem State.withTables_converter (s : State) (v : Tables) : (s.withTables v).converter = s.converter := rfl
@[simp] theorem State.withTables_supply (s : State) (v : Tables) : (s.withTables v).supply = s.supply := rfl
@[simp] theorem State.withTables_power (s : State) (v : Tables) : (s.withTables v).power = s.power := rfl
@[simp] theorem State.withTables_store (s : State) (v : Tables) : (s.withTables v).store = s.store := rfl
@[simp] theorem State.withTables_start (s : State) (v : Tables) : (s.withTables v).start = s.start := rfl
@[simp] theorem State.withTables_link (s : State) (v : Tables) : (s.withTables v).link = s.link := rfl
@[simp] theorem State.withTables_agenda (s : State) (v : Tables) : (s.withTables v).agenda = s.agenda := rfl
@[simp] theorem State.withTables_pending (s : State) (v : Tables) : (s.withTables v).pending = s.pending := rfl

/-! ## withTime -/

@[simp] theorem State.withTime_tables (s : State) (v : TimeBase) : (s.withTime v).tables = s.tables := rfl
@[simp] theorem State.withTime_time (s : State) (v : TimeBase) : (s.withTime v).time = v := rfl
@[simp] theorem State.withTime_refs (s : State) (v : TimeBase) : (s.withTime v).refs = s.refs := rfl
@[simp] theorem State.withTime_day (s : State) (v : TimeBase) : (s.withTime v).day = s.day := rfl
@[simp] theorem State.withTime_chime (s : State) (v : TimeBase) : (s.withTime v).chime = s.chime := rfl
@[simp] theorem State.withTime_bells (s : State) (v : TimeBase) : (s.withTime v).bells = s.bells := rfl
@[simp] theorem State.withTime_units (s : State) (v : TimeBase) : (s.withTime v).units = s.units := rfl
@[simp] theorem State.withTime_run (s : State) (v : TimeBase) : (s.withTime v).run = s.run := rfl
@[simp] theorem State.withTime_dials (s : State) (v : TimeBase) : (s.withTime v).dials = s.dials := rfl
@[simp] theorem State.withTime_floods (s : State) (v : TimeBase) : (s.withTime v).floods = s.floods := rfl
@[simp] theorem State.withTime_light (s : State) (v : TimeBase) : (s.withTime v).light = s.light := rfl
@[simp] theorem State.withTime_converter (s : State) (v : TimeBase) : (s.withTime v).converter = s.converter := rfl
@[simp] theorem State.withTime_supply (s : State) (v : TimeBase) : (s.withTime v).supply = s.supply := rfl
@[simp] theorem State.withTime_power (s : State) (v : TimeBase) : (s.withTime v).power = s.power := rfl
@[simp] theorem State.withTime_store (s : State) (v : TimeBase) : (s.withTime v).store = s.store := rfl
@[simp] theorem State.withTime_start (s : State) (v : TimeBase) : (s.withTime v).start = s.start := rfl
@[simp] theorem State.withTime_link (s : State) (v : TimeBase) : (s.withTime v).link = s.link := rfl
@[simp] theorem State.withTime_agenda (s : State) (v : TimeBase) : (s.withTime v).agenda = s.agenda := rfl
@[simp] theorem State.withTime_pending (s : State) (v : TimeBase) : (s.withTime v).pending = s.pending := rfl

/-! ## withRefs -/

@[simp] theorem State.withRefs_tables (s : State) (v : RefMonitor) : (s.withRefs v).tables = s.tables := rfl
@[simp] theorem State.withRefs_time (s : State) (v : RefMonitor) : (s.withRefs v).time = s.time := rfl
@[simp] theorem State.withRefs_refs (s : State) (v : RefMonitor) : (s.withRefs v).refs = v := rfl
@[simp] theorem State.withRefs_day (s : State) (v : RefMonitor) : (s.withRefs v).day = s.day := rfl
@[simp] theorem State.withRefs_chime (s : State) (v : RefMonitor) : (s.withRefs v).chime = s.chime := rfl
@[simp] theorem State.withRefs_bells (s : State) (v : RefMonitor) : (s.withRefs v).bells = s.bells := rfl
@[simp] theorem State.withRefs_units (s : State) (v : RefMonitor) : (s.withRefs v).units = s.units := rfl
@[simp] theorem State.withRefs_run (s : State) (v : RefMonitor) : (s.withRefs v).run = s.run := rfl
@[simp] theorem State.withRefs_dials (s : State) (v : RefMonitor) : (s.withRefs v).dials = s.dials := rfl
@[simp] theorem State.withRefs_floods (s : State) (v : RefMonitor) : (s.withRefs v).floods = s.floods := rfl
@[simp] theorem State.withRefs_light (s : State) (v : RefMonitor) : (s.withRefs v).light = s.light := rfl
@[simp] theorem State.withRefs_converter (s : State) (v : RefMonitor) : (s.withRefs v).converter = s.converter := rfl
@[simp] theorem State.withRefs_supply (s : State) (v : RefMonitor) : (s.withRefs v).supply = s.supply := rfl
@[simp] theorem State.withRefs_power (s : State) (v : RefMonitor) : (s.withRefs v).power = s.power := rfl
@[simp] theorem State.withRefs_store (s : State) (v : RefMonitor) : (s.withRefs v).store = s.store := rfl
@[simp] theorem State.withRefs_start (s : State) (v : RefMonitor) : (s.withRefs v).start = s.start := rfl
@[simp] theorem State.withRefs_link (s : State) (v : RefMonitor) : (s.withRefs v).link = s.link := rfl
@[simp] theorem State.withRefs_agenda (s : State) (v : RefMonitor) : (s.withRefs v).agenda = s.agenda := rfl
@[simp] theorem State.withRefs_pending (s : State) (v : RefMonitor) : (s.withRefs v).pending = s.pending := rfl

/-! ## withDay -/

@[simp] theorem State.withDay_tables (s : State) (v : DayProgramme) : (s.withDay v).tables = s.tables := rfl
@[simp] theorem State.withDay_time (s : State) (v : DayProgramme) : (s.withDay v).time = s.time := rfl
@[simp] theorem State.withDay_refs (s : State) (v : DayProgramme) : (s.withDay v).refs = s.refs := rfl
@[simp] theorem State.withDay_day (s : State) (v : DayProgramme) : (s.withDay v).day = v := rfl
@[simp] theorem State.withDay_chime (s : State) (v : DayProgramme) : (s.withDay v).chime = s.chime := rfl
@[simp] theorem State.withDay_bells (s : State) (v : DayProgramme) : (s.withDay v).bells = s.bells := rfl
@[simp] theorem State.withDay_units (s : State) (v : DayProgramme) : (s.withDay v).units = s.units := rfl
@[simp] theorem State.withDay_run (s : State) (v : DayProgramme) : (s.withDay v).run = s.run := rfl
@[simp] theorem State.withDay_dials (s : State) (v : DayProgramme) : (s.withDay v).dials = s.dials := rfl
@[simp] theorem State.withDay_floods (s : State) (v : DayProgramme) : (s.withDay v).floods = s.floods := rfl
@[simp] theorem State.withDay_light (s : State) (v : DayProgramme) : (s.withDay v).light = s.light := rfl
@[simp] theorem State.withDay_converter (s : State) (v : DayProgramme) : (s.withDay v).converter = s.converter := rfl
@[simp] theorem State.withDay_supply (s : State) (v : DayProgramme) : (s.withDay v).supply = s.supply := rfl
@[simp] theorem State.withDay_power (s : State) (v : DayProgramme) : (s.withDay v).power = s.power := rfl
@[simp] theorem State.withDay_store (s : State) (v : DayProgramme) : (s.withDay v).store = s.store := rfl
@[simp] theorem State.withDay_start (s : State) (v : DayProgramme) : (s.withDay v).start = s.start := rfl
@[simp] theorem State.withDay_link (s : State) (v : DayProgramme) : (s.withDay v).link = s.link := rfl
@[simp] theorem State.withDay_agenda (s : State) (v : DayProgramme) : (s.withDay v).agenda = s.agenda := rfl
@[simp] theorem State.withDay_pending (s : State) (v : DayProgramme) : (s.withDay v).pending = s.pending := rfl

/-! ## withChime -/

@[simp] theorem State.withChime_tables (s : State) (v : Chime) : (s.withChime v).tables = s.tables := rfl
@[simp] theorem State.withChime_time (s : State) (v : Chime) : (s.withChime v).time = s.time := rfl
@[simp] theorem State.withChime_refs (s : State) (v : Chime) : (s.withChime v).refs = s.refs := rfl
@[simp] theorem State.withChime_day (s : State) (v : Chime) : (s.withChime v).day = s.day := rfl
@[simp] theorem State.withChime_chime (s : State) (v : Chime) : (s.withChime v).chime = v := rfl
@[simp] theorem State.withChime_bells (s : State) (v : Chime) : (s.withChime v).bells = s.bells := rfl
@[simp] theorem State.withChime_units (s : State) (v : Chime) : (s.withChime v).units = s.units := rfl
@[simp] theorem State.withChime_run (s : State) (v : Chime) : (s.withChime v).run = s.run := rfl
@[simp] theorem State.withChime_dials (s : State) (v : Chime) : (s.withChime v).dials = s.dials := rfl
@[simp] theorem State.withChime_floods (s : State) (v : Chime) : (s.withChime v).floods = s.floods := rfl
@[simp] theorem State.withChime_light (s : State) (v : Chime) : (s.withChime v).light = s.light := rfl
@[simp] theorem State.withChime_converter (s : State) (v : Chime) : (s.withChime v).converter = s.converter := rfl
@[simp] theorem State.withChime_supply (s : State) (v : Chime) : (s.withChime v).supply = s.supply := rfl
@[simp] theorem State.withChime_power (s : State) (v : Chime) : (s.withChime v).power = s.power := rfl
@[simp] theorem State.withChime_store (s : State) (v : Chime) : (s.withChime v).store = s.store := rfl
@[simp] theorem State.withChime_start (s : State) (v : Chime) : (s.withChime v).start = s.start := rfl
@[simp] theorem State.withChime_link (s : State) (v : Chime) : (s.withChime v).link = s.link := rfl
@[simp] theorem State.withChime_agenda (s : State) (v : Chime) : (s.withChime v).agenda = s.agenda := rfl
@[simp] theorem State.withChime_pending (s : State) (v : Chime) : (s.withChime v).pending = s.pending := rfl

/-! ## withBells -/

@[simp] theorem State.withBells_tables (s : State) (v : Table Bell) : (s.withBells v).tables = s.tables := rfl
@[simp] theorem State.withBells_time (s : State) (v : Table Bell) : (s.withBells v).time = s.time := rfl
@[simp] theorem State.withBells_refs (s : State) (v : Table Bell) : (s.withBells v).refs = s.refs := rfl
@[simp] theorem State.withBells_day (s : State) (v : Table Bell) : (s.withBells v).day = s.day := rfl
@[simp] theorem State.withBells_chime (s : State) (v : Table Bell) : (s.withBells v).chime = s.chime := rfl
@[simp] theorem State.withBells_bells (s : State) (v : Table Bell) : (s.withBells v).bells = v := rfl
@[simp] theorem State.withBells_units (s : State) (v : Table Bell) : (s.withBells v).units = s.units := rfl
@[simp] theorem State.withBells_run (s : State) (v : Table Bell) : (s.withBells v).run = s.run := rfl
@[simp] theorem State.withBells_dials (s : State) (v : Table Bell) : (s.withBells v).dials = s.dials := rfl
@[simp] theorem State.withBells_floods (s : State) (v : Table Bell) : (s.withBells v).floods = s.floods := rfl
@[simp] theorem State.withBells_light (s : State) (v : Table Bell) : (s.withBells v).light = s.light := rfl
@[simp] theorem State.withBells_converter (s : State) (v : Table Bell) : (s.withBells v).converter = s.converter := rfl
@[simp] theorem State.withBells_supply (s : State) (v : Table Bell) : (s.withBells v).supply = s.supply := rfl
@[simp] theorem State.withBells_power (s : State) (v : Table Bell) : (s.withBells v).power = s.power := rfl
@[simp] theorem State.withBells_store (s : State) (v : Table Bell) : (s.withBells v).store = s.store := rfl
@[simp] theorem State.withBells_start (s : State) (v : Table Bell) : (s.withBells v).start = s.start := rfl
@[simp] theorem State.withBells_link (s : State) (v : Table Bell) : (s.withBells v).link = s.link := rfl
@[simp] theorem State.withBells_agenda (s : State) (v : Table Bell) : (s.withBells v).agenda = s.agenda := rfl
@[simp] theorem State.withBells_pending (s : State) (v : Table Bell) : (s.withBells v).pending = s.pending := rfl

/-! ## withUnits -/

@[simp] theorem State.withUnits_tables (s : State) (v : Table SwingUnit) : (s.withUnits v).tables = s.tables := rfl
@[simp] theorem State.withUnits_time (s : State) (v : Table SwingUnit) : (s.withUnits v).time = s.time := rfl
@[simp] theorem State.withUnits_refs (s : State) (v : Table SwingUnit) : (s.withUnits v).refs = s.refs := rfl
@[simp] theorem State.withUnits_day (s : State) (v : Table SwingUnit) : (s.withUnits v).day = s.day := rfl
@[simp] theorem State.withUnits_chime (s : State) (v : Table SwingUnit) : (s.withUnits v).chime = s.chime := rfl
@[simp] theorem State.withUnits_bells (s : State) (v : Table SwingUnit) : (s.withUnits v).bells = s.bells := rfl
@[simp] theorem State.withUnits_units (s : State) (v : Table SwingUnit) : (s.withUnits v).units = v := rfl
@[simp] theorem State.withUnits_run (s : State) (v : Table SwingUnit) : (s.withUnits v).run = s.run := rfl
@[simp] theorem State.withUnits_dials (s : State) (v : Table SwingUnit) : (s.withUnits v).dials = s.dials := rfl
@[simp] theorem State.withUnits_floods (s : State) (v : Table SwingUnit) : (s.withUnits v).floods = s.floods := rfl
@[simp] theorem State.withUnits_light (s : State) (v : Table SwingUnit) : (s.withUnits v).light = s.light := rfl
@[simp] theorem State.withUnits_converter (s : State) (v : Table SwingUnit) :
     (s.withUnits v).converter = s.converter := rfl
@[simp] theorem State.withUnits_supply (s : State) (v : Table SwingUnit) : (s.withUnits v).supply = s.supply := rfl
@[simp] theorem State.withUnits_power (s : State) (v : Table SwingUnit) : (s.withUnits v).power = s.power := rfl
@[simp] theorem State.withUnits_store (s : State) (v : Table SwingUnit) : (s.withUnits v).store = s.store := rfl
@[simp] theorem State.withUnits_start (s : State) (v : Table SwingUnit) : (s.withUnits v).start = s.start := rfl
@[simp] theorem State.withUnits_link (s : State) (v : Table SwingUnit) : (s.withUnits v).link = s.link := rfl
@[simp] theorem State.withUnits_agenda (s : State) (v : Table SwingUnit) : (s.withUnits v).agenda = s.agenda := rfl
@[simp] theorem State.withUnits_pending (s : State) (v : Table SwingUnit) : (s.withUnits v).pending = s.pending := rfl

/-! ## withRun -/

@[simp] theorem State.withRun_tables (s : State) (v : PealRun) : (s.withRun v).tables = s.tables := rfl
@[simp] theorem State.withRun_time (s : State) (v : PealRun) : (s.withRun v).time = s.time := rfl
@[simp] theorem State.withRun_refs (s : State) (v : PealRun) : (s.withRun v).refs = s.refs := rfl
@[simp] theorem State.withRun_day (s : State) (v : PealRun) : (s.withRun v).day = s.day := rfl
@[simp] theorem State.withRun_chime (s : State) (v : PealRun) : (s.withRun v).chime = s.chime := rfl
@[simp] theorem State.withRun_bells (s : State) (v : PealRun) : (s.withRun v).bells = s.bells := rfl
@[simp] theorem State.withRun_units (s : State) (v : PealRun) : (s.withRun v).units = s.units := rfl
@[simp] theorem State.withRun_run (s : State) (v : PealRun) : (s.withRun v).run = v := rfl
@[simp] theorem State.withRun_dials (s : State) (v : PealRun) : (s.withRun v).dials = s.dials := rfl
@[simp] theorem State.withRun_floods (s : State) (v : PealRun) : (s.withRun v).floods = s.floods := rfl
@[simp] theorem State.withRun_light (s : State) (v : PealRun) : (s.withRun v).light = s.light := rfl
@[simp] theorem State.withRun_converter (s : State) (v : PealRun) : (s.withRun v).converter = s.converter := rfl
@[simp] theorem State.withRun_supply (s : State) (v : PealRun) : (s.withRun v).supply = s.supply := rfl
@[simp] theorem State.withRun_power (s : State) (v : PealRun) : (s.withRun v).power = s.power := rfl
@[simp] theorem State.withRun_store (s : State) (v : PealRun) : (s.withRun v).store = s.store := rfl
@[simp] theorem State.withRun_start (s : State) (v : PealRun) : (s.withRun v).start = s.start := rfl
@[simp] theorem State.withRun_link (s : State) (v : PealRun) : (s.withRun v).link = s.link := rfl
@[simp] theorem State.withRun_agenda (s : State) (v : PealRun) : (s.withRun v).agenda = s.agenda := rfl
@[simp] theorem State.withRun_pending (s : State) (v : PealRun) : (s.withRun v).pending = s.pending := rfl

/-! ## withDials -/

@[simp] theorem State.withDials_tables (s : State) (v : DialDriveState) : (s.withDials v).tables = s.tables := rfl
@[simp] theorem State.withDials_time (s : State) (v : DialDriveState) : (s.withDials v).time = s.time := rfl
@[simp] theorem State.withDials_refs (s : State) (v : DialDriveState) : (s.withDials v).refs = s.refs := rfl
@[simp] theorem State.withDials_day (s : State) (v : DialDriveState) : (s.withDials v).day = s.day := rfl
@[simp] theorem State.withDials_chime (s : State) (v : DialDriveState) : (s.withDials v).chime = s.chime := rfl
@[simp] theorem State.withDials_bells (s : State) (v : DialDriveState) : (s.withDials v).bells = s.bells := rfl
@[simp] theorem State.withDials_units (s : State) (v : DialDriveState) : (s.withDials v).units = s.units := rfl
@[simp] theorem State.withDials_run (s : State) (v : DialDriveState) : (s.withDials v).run = s.run := rfl
@[simp] theorem State.withDials_dials (s : State) (v : DialDriveState) : (s.withDials v).dials = v := rfl
@[simp] theorem State.withDials_floods (s : State) (v : DialDriveState) : (s.withDials v).floods = s.floods := rfl
@[simp] theorem State.withDials_light (s : State) (v : DialDriveState) : (s.withDials v).light = s.light := rfl
@[simp] theorem State.withDials_converter (s : State) (v : DialDriveState) :
     (s.withDials v).converter = s.converter := rfl
@[simp] theorem State.withDials_supply (s : State) (v : DialDriveState) : (s.withDials v).supply = s.supply := rfl
@[simp] theorem State.withDials_power (s : State) (v : DialDriveState) : (s.withDials v).power = s.power := rfl
@[simp] theorem State.withDials_store (s : State) (v : DialDriveState) : (s.withDials v).store = s.store := rfl
@[simp] theorem State.withDials_start (s : State) (v : DialDriveState) : (s.withDials v).start = s.start := rfl
@[simp] theorem State.withDials_link (s : State) (v : DialDriveState) : (s.withDials v).link = s.link := rfl
@[simp] theorem State.withDials_agenda (s : State) (v : DialDriveState) : (s.withDials v).agenda = s.agenda := rfl
@[simp] theorem State.withDials_pending (s : State) (v : DialDriveState) : (s.withDials v).pending = s.pending := rfl

/-! ## withFloods -/

@[simp] theorem State.withFloods_tables (s : State) (v : Floods) : (s.withFloods v).tables = s.tables := rfl
@[simp] theorem State.withFloods_time (s : State) (v : Floods) : (s.withFloods v).time = s.time := rfl
@[simp] theorem State.withFloods_refs (s : State) (v : Floods) : (s.withFloods v).refs = s.refs := rfl
@[simp] theorem State.withFloods_day (s : State) (v : Floods) : (s.withFloods v).day = s.day := rfl
@[simp] theorem State.withFloods_chime (s : State) (v : Floods) : (s.withFloods v).chime = s.chime := rfl
@[simp] theorem State.withFloods_bells (s : State) (v : Floods) : (s.withFloods v).bells = s.bells := rfl
@[simp] theorem State.withFloods_units (s : State) (v : Floods) : (s.withFloods v).units = s.units := rfl
@[simp] theorem State.withFloods_run (s : State) (v : Floods) : (s.withFloods v).run = s.run := rfl
@[simp] theorem State.withFloods_dials (s : State) (v : Floods) : (s.withFloods v).dials = s.dials := rfl
@[simp] theorem State.withFloods_floods (s : State) (v : Floods) : (s.withFloods v).floods = v := rfl
@[simp] theorem State.withFloods_light (s : State) (v : Floods) : (s.withFloods v).light = s.light := rfl
@[simp] theorem State.withFloods_converter (s : State) (v : Floods) : (s.withFloods v).converter = s.converter := rfl
@[simp] theorem State.withFloods_supply (s : State) (v : Floods) : (s.withFloods v).supply = s.supply := rfl
@[simp] theorem State.withFloods_power (s : State) (v : Floods) : (s.withFloods v).power = s.power := rfl
@[simp] theorem State.withFloods_store (s : State) (v : Floods) : (s.withFloods v).store = s.store := rfl
@[simp] theorem State.withFloods_start (s : State) (v : Floods) : (s.withFloods v).start = s.start := rfl
@[simp] theorem State.withFloods_link (s : State) (v : Floods) : (s.withFloods v).link = s.link := rfl
@[simp] theorem State.withFloods_agenda (s : State) (v : Floods) : (s.withFloods v).agenda = s.agenda := rfl
@[simp] theorem State.withFloods_pending (s : State) (v : Floods) : (s.withFloods v).pending = s.pending := rfl

/-! ## withLight -/

@[simp] theorem State.withLight_tables (s : State) (v : Light) : (s.withLight v).tables = s.tables := rfl
@[simp] theorem State.withLight_time (s : State) (v : Light) : (s.withLight v).time = s.time := rfl
@[simp] theorem State.withLight_refs (s : State) (v : Light) : (s.withLight v).refs = s.refs := rfl
@[simp] theorem State.withLight_day (s : State) (v : Light) : (s.withLight v).day = s.day := rfl
@[simp] theorem State.withLight_chime (s : State) (v : Light) : (s.withLight v).chime = s.chime := rfl
@[simp] theorem State.withLight_bells (s : State) (v : Light) : (s.withLight v).bells = s.bells := rfl
@[simp] theorem State.withLight_units (s : State) (v : Light) : (s.withLight v).units = s.units := rfl
@[simp] theorem State.withLight_run (s : State) (v : Light) : (s.withLight v).run = s.run := rfl
@[simp] theorem State.withLight_dials (s : State) (v : Light) : (s.withLight v).dials = s.dials := rfl
@[simp] theorem State.withLight_floods (s : State) (v : Light) : (s.withLight v).floods = s.floods := rfl
@[simp] theorem State.withLight_light (s : State) (v : Light) : (s.withLight v).light = v := rfl
@[simp] theorem State.withLight_converter (s : State) (v : Light) : (s.withLight v).converter = s.converter := rfl
@[simp] theorem State.withLight_supply (s : State) (v : Light) : (s.withLight v).supply = s.supply := rfl
@[simp] theorem State.withLight_power (s : State) (v : Light) : (s.withLight v).power = s.power := rfl
@[simp] theorem State.withLight_store (s : State) (v : Light) : (s.withLight v).store = s.store := rfl
@[simp] theorem State.withLight_start (s : State) (v : Light) : (s.withLight v).start = s.start := rfl
@[simp] theorem State.withLight_link (s : State) (v : Light) : (s.withLight v).link = s.link := rfl
@[simp] theorem State.withLight_agenda (s : State) (v : Light) : (s.withLight v).agenda = s.agenda := rfl
@[simp] theorem State.withLight_pending (s : State) (v : Light) : (s.withLight v).pending = s.pending := rfl

/-! ## withConverter -/

@[simp] theorem State.withConverter_tables (s : State) (v : Converter) : (s.withConverter v).tables = s.tables := rfl
@[simp] theorem State.withConverter_time (s : State) (v : Converter) : (s.withConverter v).time = s.time := rfl
@[simp] theorem State.withConverter_refs (s : State) (v : Converter) : (s.withConverter v).refs = s.refs := rfl
@[simp] theorem State.withConverter_day (s : State) (v : Converter) : (s.withConverter v).day = s.day := rfl
@[simp] theorem State.withConverter_chime (s : State) (v : Converter) : (s.withConverter v).chime = s.chime := rfl
@[simp] theorem State.withConverter_bells (s : State) (v : Converter) : (s.withConverter v).bells = s.bells := rfl
@[simp] theorem State.withConverter_units (s : State) (v : Converter) : (s.withConverter v).units = s.units := rfl
@[simp] theorem State.withConverter_run (s : State) (v : Converter) : (s.withConverter v).run = s.run := rfl
@[simp] theorem State.withConverter_dials (s : State) (v : Converter) : (s.withConverter v).dials = s.dials := rfl
@[simp] theorem State.withConverter_floods (s : State) (v : Converter) : (s.withConverter v).floods = s.floods := rfl
@[simp] theorem State.withConverter_light (s : State) (v : Converter) : (s.withConverter v).light = s.light := rfl
@[simp] theorem State.withConverter_converter (s : State) (v : Converter) : (s.withConverter v).converter = v := rfl
@[simp] theorem State.withConverter_supply (s : State) (v : Converter) : (s.withConverter v).supply = s.supply := rfl
@[simp] theorem State.withConverter_power (s : State) (v : Converter) : (s.withConverter v).power = s.power := rfl
@[simp] theorem State.withConverter_store (s : State) (v : Converter) : (s.withConverter v).store = s.store := rfl
@[simp] theorem State.withConverter_start (s : State) (v : Converter) : (s.withConverter v).start = s.start := rfl
@[simp] theorem State.withConverter_link (s : State) (v : Converter) : (s.withConverter v).link = s.link := rfl
@[simp] theorem State.withConverter_agenda (s : State) (v : Converter) : (s.withConverter v).agenda = s.agenda := rfl
@[simp] theorem State.withConverter_pending (s : State) (v : Converter) : (s.withConverter v).pending = s.pending := rfl

/-! ## withSupply -/

@[simp] theorem State.withSupply_tables (s : State) (v : Supply) : (s.withSupply v).tables = s.tables := rfl
@[simp] theorem State.withSupply_time (s : State) (v : Supply) : (s.withSupply v).time = s.time := rfl
@[simp] theorem State.withSupply_refs (s : State) (v : Supply) : (s.withSupply v).refs = s.refs := rfl
@[simp] theorem State.withSupply_day (s : State) (v : Supply) : (s.withSupply v).day = s.day := rfl
@[simp] theorem State.withSupply_chime (s : State) (v : Supply) : (s.withSupply v).chime = s.chime := rfl
@[simp] theorem State.withSupply_bells (s : State) (v : Supply) : (s.withSupply v).bells = s.bells := rfl
@[simp] theorem State.withSupply_units (s : State) (v : Supply) : (s.withSupply v).units = s.units := rfl
@[simp] theorem State.withSupply_run (s : State) (v : Supply) : (s.withSupply v).run = s.run := rfl
@[simp] theorem State.withSupply_dials (s : State) (v : Supply) : (s.withSupply v).dials = s.dials := rfl
@[simp] theorem State.withSupply_floods (s : State) (v : Supply) : (s.withSupply v).floods = s.floods := rfl
@[simp] theorem State.withSupply_light (s : State) (v : Supply) : (s.withSupply v).light = s.light := rfl
@[simp] theorem State.withSupply_converter (s : State) (v : Supply) : (s.withSupply v).converter = s.converter := rfl
@[simp] theorem State.withSupply_supply (s : State) (v : Supply) : (s.withSupply v).supply = v := rfl
@[simp] theorem State.withSupply_power (s : State) (v : Supply) : (s.withSupply v).power = s.power := rfl
@[simp] theorem State.withSupply_store (s : State) (v : Supply) : (s.withSupply v).store = s.store := rfl
@[simp] theorem State.withSupply_start (s : State) (v : Supply) : (s.withSupply v).start = s.start := rfl
@[simp] theorem State.withSupply_link (s : State) (v : Supply) : (s.withSupply v).link = s.link := rfl
@[simp] theorem State.withSupply_agenda (s : State) (v : Supply) : (s.withSupply v).agenda = s.agenda := rfl
@[simp] theorem State.withSupply_pending (s : State) (v : Supply) : (s.withSupply v).pending = s.pending := rfl

/-! ## withPower -/

@[simp] theorem State.withPower_tables (s : State) (v : Power) : (s.withPower v).tables = s.tables := rfl
@[simp] theorem State.withPower_time (s : State) (v : Power) : (s.withPower v).time = s.time := rfl
@[simp] theorem State.withPower_refs (s : State) (v : Power) : (s.withPower v).refs = s.refs := rfl
@[simp] theorem State.withPower_day (s : State) (v : Power) : (s.withPower v).day = s.day := rfl
@[simp] theorem State.withPower_chime (s : State) (v : Power) : (s.withPower v).chime = s.chime := rfl
@[simp] theorem State.withPower_bells (s : State) (v : Power) : (s.withPower v).bells = s.bells := rfl
@[simp] theorem State.withPower_units (s : State) (v : Power) : (s.withPower v).units = s.units := rfl
@[simp] theorem State.withPower_run (s : State) (v : Power) : (s.withPower v).run = s.run := rfl
@[simp] theorem State.withPower_dials (s : State) (v : Power) : (s.withPower v).dials = s.dials := rfl
@[simp] theorem State.withPower_floods (s : State) (v : Power) : (s.withPower v).floods = s.floods := rfl
@[simp] theorem State.withPower_light (s : State) (v : Power) : (s.withPower v).light = s.light := rfl
@[simp] theorem State.withPower_converter (s : State) (v : Power) : (s.withPower v).converter = s.converter := rfl
@[simp] theorem State.withPower_supply (s : State) (v : Power) : (s.withPower v).supply = s.supply := rfl
@[simp] theorem State.withPower_power (s : State) (v : Power) : (s.withPower v).power = v := rfl
@[simp] theorem State.withPower_store (s : State) (v : Power) : (s.withPower v).store = s.store := rfl
@[simp] theorem State.withPower_start (s : State) (v : Power) : (s.withPower v).start = s.start := rfl
@[simp] theorem State.withPower_link (s : State) (v : Power) : (s.withPower v).link = s.link := rfl
@[simp] theorem State.withPower_agenda (s : State) (v : Power) : (s.withPower v).agenda = s.agenda := rfl
@[simp] theorem State.withPower_pending (s : State) (v : Power) : (s.withPower v).pending = s.pending := rfl

/-! ## withStore -/

@[simp] theorem State.withStore_tables (s : State) (v : Store) : (s.withStore v).tables = s.tables := rfl
@[simp] theorem State.withStore_time (s : State) (v : Store) : (s.withStore v).time = s.time := rfl
@[simp] theorem State.withStore_refs (s : State) (v : Store) : (s.withStore v).refs = s.refs := rfl
@[simp] theorem State.withStore_day (s : State) (v : Store) : (s.withStore v).day = s.day := rfl
@[simp] theorem State.withStore_chime (s : State) (v : Store) : (s.withStore v).chime = s.chime := rfl
@[simp] theorem State.withStore_bells (s : State) (v : Store) : (s.withStore v).bells = s.bells := rfl
@[simp] theorem State.withStore_units (s : State) (v : Store) : (s.withStore v).units = s.units := rfl
@[simp] theorem State.withStore_run (s : State) (v : Store) : (s.withStore v).run = s.run := rfl
@[simp] theorem State.withStore_dials (s : State) (v : Store) : (s.withStore v).dials = s.dials := rfl
@[simp] theorem State.withStore_floods (s : State) (v : Store) : (s.withStore v).floods = s.floods := rfl
@[simp] theorem State.withStore_light (s : State) (v : Store) : (s.withStore v).light = s.light := rfl
@[simp] theorem State.withStore_converter (s : State) (v : Store) : (s.withStore v).converter = s.converter := rfl
@[simp] theorem State.withStore_supply (s : State) (v : Store) : (s.withStore v).supply = s.supply := rfl
@[simp] theorem State.withStore_power (s : State) (v : Store) : (s.withStore v).power = s.power := rfl
@[simp] theorem State.withStore_store (s : State) (v : Store) : (s.withStore v).store = v := rfl
@[simp] theorem State.withStore_start (s : State) (v : Store) : (s.withStore v).start = s.start := rfl
@[simp] theorem State.withStore_link (s : State) (v : Store) : (s.withStore v).link = s.link := rfl
@[simp] theorem State.withStore_agenda (s : State) (v : Store) : (s.withStore v).agenda = s.agenda := rfl
@[simp] theorem State.withStore_pending (s : State) (v : Store) : (s.withStore v).pending = s.pending := rfl

/-! ## withStart -/

@[simp] theorem State.withStart_tables (s : State) (v : Start) : (s.withStart v).tables = s.tables := rfl
@[simp] theorem State.withStart_time (s : State) (v : Start) : (s.withStart v).time = s.time := rfl
@[simp] theorem State.withStart_refs (s : State) (v : Start) : (s.withStart v).refs = s.refs := rfl
@[simp] theorem State.withStart_day (s : State) (v : Start) : (s.withStart v).day = s.day := rfl
@[simp] theorem State.withStart_chime (s : State) (v : Start) : (s.withStart v).chime = s.chime := rfl
@[simp] theorem State.withStart_bells (s : State) (v : Start) : (s.withStart v).bells = s.bells := rfl
@[simp] theorem State.withStart_units (s : State) (v : Start) : (s.withStart v).units = s.units := rfl
@[simp] theorem State.withStart_run (s : State) (v : Start) : (s.withStart v).run = s.run := rfl
@[simp] theorem State.withStart_dials (s : State) (v : Start) : (s.withStart v).dials = s.dials := rfl
@[simp] theorem State.withStart_floods (s : State) (v : Start) : (s.withStart v).floods = s.floods := rfl
@[simp] theorem State.withStart_light (s : State) (v : Start) : (s.withStart v).light = s.light := rfl
@[simp] theorem State.withStart_converter (s : State) (v : Start) : (s.withStart v).converter = s.converter := rfl
@[simp] theorem State.withStart_supply (s : State) (v : Start) : (s.withStart v).supply = s.supply := rfl
@[simp] theorem State.withStart_power (s : State) (v : Start) : (s.withStart v).power = s.power := rfl
@[simp] theorem State.withStart_store (s : State) (v : Start) : (s.withStart v).store = s.store := rfl
@[simp] theorem State.withStart_start (s : State) (v : Start) : (s.withStart v).start = v := rfl
@[simp] theorem State.withStart_link (s : State) (v : Start) : (s.withStart v).link = s.link := rfl
@[simp] theorem State.withStart_agenda (s : State) (v : Start) : (s.withStart v).agenda = s.agenda := rfl
@[simp] theorem State.withStart_pending (s : State) (v : Start) : (s.withStart v).pending = s.pending := rfl

/-! ## withLink -/

@[simp] theorem State.withLink_tables (s : State) (v : Link) : (s.withLink v).tables = s.tables := rfl
@[simp] theorem State.withLink_time (s : State) (v : Link) : (s.withLink v).time = s.time := rfl
@[simp] theorem State.withLink_refs (s : State) (v : Link) : (s.withLink v).refs = s.refs := rfl
@[simp] theorem State.withLink_day (s : State) (v : Link) : (s.withLink v).day = s.day := rfl
@[simp] theorem State.withLink_chime (s : State) (v : Link) : (s.withLink v).chime = s.chime := rfl
@[simp] theorem State.withLink_bells (s : State) (v : Link) : (s.withLink v).bells = s.bells := rfl
@[simp] theorem State.withLink_units (s : State) (v : Link) : (s.withLink v).units = s.units := rfl
@[simp] theorem State.withLink_run (s : State) (v : Link) : (s.withLink v).run = s.run := rfl
@[simp] theorem State.withLink_dials (s : State) (v : Link) : (s.withLink v).dials = s.dials := rfl
@[simp] theorem State.withLink_floods (s : State) (v : Link) : (s.withLink v).floods = s.floods := rfl
@[simp] theorem State.withLink_light (s : State) (v : Link) : (s.withLink v).light = s.light := rfl
@[simp] theorem State.withLink_converter (s : State) (v : Link) : (s.withLink v).converter = s.converter := rfl
@[simp] theorem State.withLink_supply (s : State) (v : Link) : (s.withLink v).supply = s.supply := rfl
@[simp] theorem State.withLink_power (s : State) (v : Link) : (s.withLink v).power = s.power := rfl
@[simp] theorem State.withLink_store (s : State) (v : Link) : (s.withLink v).store = s.store := rfl
@[simp] theorem State.withLink_start (s : State) (v : Link) : (s.withLink v).start = s.start := rfl
@[simp] theorem State.withLink_link (s : State) (v : Link) : (s.withLink v).link = v := rfl
@[simp] theorem State.withLink_agenda (s : State) (v : Link) : (s.withLink v).agenda = s.agenda := rfl
@[simp] theorem State.withLink_pending (s : State) (v : Link) : (s.withLink v).pending = s.pending := rfl

/-! ## withAgenda -/

@[simp] theorem State.withAgenda_tables (s : State) (v : List Msg) : (s.withAgenda v).tables = s.tables := rfl
@[simp] theorem State.withAgenda_time (s : State) (v : List Msg) : (s.withAgenda v).time = s.time := rfl
@[simp] theorem State.withAgenda_refs (s : State) (v : List Msg) : (s.withAgenda v).refs = s.refs := rfl
@[simp] theorem State.withAgenda_day (s : State) (v : List Msg) : (s.withAgenda v).day = s.day := rfl
@[simp] theorem State.withAgenda_chime (s : State) (v : List Msg) : (s.withAgenda v).chime = s.chime := rfl
@[simp] theorem State.withAgenda_bells (s : State) (v : List Msg) : (s.withAgenda v).bells = s.bells := rfl
@[simp] theorem State.withAgenda_units (s : State) (v : List Msg) : (s.withAgenda v).units = s.units := rfl
@[simp] theorem State.withAgenda_run (s : State) (v : List Msg) : (s.withAgenda v).run = s.run := rfl
@[simp] theorem State.withAgenda_dials (s : State) (v : List Msg) : (s.withAgenda v).dials = s.dials := rfl
@[simp] theorem State.withAgenda_floods (s : State) (v : List Msg) : (s.withAgenda v).floods = s.floods := rfl
@[simp] theorem State.withAgenda_light (s : State) (v : List Msg) : (s.withAgenda v).light = s.light := rfl
@[simp] theorem State.withAgenda_converter (s : State) (v : List Msg) : (s.withAgenda v).converter = s.converter := rfl
@[simp] theorem State.withAgenda_supply (s : State) (v : List Msg) : (s.withAgenda v).supply = s.supply := rfl
@[simp] theorem State.withAgenda_power (s : State) (v : List Msg) : (s.withAgenda v).power = s.power := rfl
@[simp] theorem State.withAgenda_store (s : State) (v : List Msg) : (s.withAgenda v).store = s.store := rfl
@[simp] theorem State.withAgenda_start (s : State) (v : List Msg) : (s.withAgenda v).start = s.start := rfl
@[simp] theorem State.withAgenda_link (s : State) (v : List Msg) : (s.withAgenda v).link = s.link := rfl
@[simp] theorem State.withAgenda_agenda (s : State) (v : List Msg) : (s.withAgenda v).agenda = v := rfl
@[simp] theorem State.withAgenda_pending (s : State) (v : List Msg) : (s.withAgenda v).pending = s.pending := rfl

/-! ## setBell -/

@[simp] theorem State.setBell_tables (s : State) (b : Nat) (v : Bell) : (s.setBell b v).tables = s.tables := rfl
@[simp] theorem State.setBell_time (s : State) (b : Nat) (v : Bell) : (s.setBell b v).time = s.time := rfl
@[simp] theorem State.setBell_refs (s : State) (b : Nat) (v : Bell) : (s.setBell b v).refs = s.refs := rfl
@[simp] theorem State.setBell_day (s : State) (b : Nat) (v : Bell) : (s.setBell b v).day = s.day := rfl
@[simp] theorem State.setBell_chime (s : State) (b : Nat) (v : Bell) : (s.setBell b v).chime = s.chime := rfl
@[simp] theorem State.setBell_bells (s : State) (b : Nat) (v : Bell) :
     (s.setBell b v).bells = Table.put bell0 s.bells b v := rfl
@[simp] theorem State.setBell_units (s : State) (b : Nat) (v : Bell) : (s.setBell b v).units = s.units := rfl
@[simp] theorem State.setBell_run (s : State) (b : Nat) (v : Bell) : (s.setBell b v).run = s.run := rfl
@[simp] theorem State.setBell_dials (s : State) (b : Nat) (v : Bell) : (s.setBell b v).dials = s.dials := rfl
@[simp] theorem State.setBell_floods (s : State) (b : Nat) (v : Bell) : (s.setBell b v).floods = s.floods := rfl
@[simp] theorem State.setBell_light (s : State) (b : Nat) (v : Bell) : (s.setBell b v).light = s.light := rfl
@[simp] theorem State.setBell_converter (s : State) (b : Nat) (v : Bell) :
     (s.setBell b v).converter = s.converter := rfl
@[simp] theorem State.setBell_supply (s : State) (b : Nat) (v : Bell) : (s.setBell b v).supply = s.supply := rfl
@[simp] theorem State.setBell_power (s : State) (b : Nat) (v : Bell) : (s.setBell b v).power = s.power := rfl
@[simp] theorem State.setBell_store (s : State) (b : Nat) (v : Bell) : (s.setBell b v).store = s.store := rfl
@[simp] theorem State.setBell_start (s : State) (b : Nat) (v : Bell) : (s.setBell b v).start = s.start := rfl
@[simp] theorem State.setBell_link (s : State) (b : Nat) (v : Bell) : (s.setBell b v).link = s.link := rfl
@[simp] theorem State.setBell_agenda (s : State) (b : Nat) (v : Bell) : (s.setBell b v).agenda = s.agenda := rfl
@[simp] theorem State.setBell_pending (s : State) (b : Nat) (v : Bell) : (s.setBell b v).pending = s.pending := rfl

/-! ## setUnit -/

@[simp] theorem State.setUnit_tables (s : State) (u : Nat) (v : SwingUnit) : (s.setUnit u v).tables = s.tables := rfl
@[simp] theorem State.setUnit_time (s : State) (u : Nat) (v : SwingUnit) : (s.setUnit u v).time = s.time := rfl
@[simp] theorem State.setUnit_refs (s : State) (u : Nat) (v : SwingUnit) : (s.setUnit u v).refs = s.refs := rfl
@[simp] theorem State.setUnit_day (s : State) (u : Nat) (v : SwingUnit) : (s.setUnit u v).day = s.day := rfl
@[simp] theorem State.setUnit_chime (s : State) (u : Nat) (v : SwingUnit) : (s.setUnit u v).chime = s.chime := rfl
@[simp] theorem State.setUnit_bells (s : State) (u : Nat) (v : SwingUnit) : (s.setUnit u v).bells = s.bells := rfl
@[simp] theorem State.setUnit_units (s : State) (u : Nat) (v : SwingUnit) :
     (s.setUnit u v).units = Table.put unit0 s.units u v := rfl
@[simp] theorem State.setUnit_run (s : State) (u : Nat) (v : SwingUnit) : (s.setUnit u v).run = s.run := rfl
@[simp] theorem State.setUnit_dials (s : State) (u : Nat) (v : SwingUnit) : (s.setUnit u v).dials = s.dials := rfl
@[simp] theorem State.setUnit_floods (s : State) (u : Nat) (v : SwingUnit) : (s.setUnit u v).floods = s.floods := rfl
@[simp] theorem State.setUnit_light (s : State) (u : Nat) (v : SwingUnit) : (s.setUnit u v).light = s.light := rfl
@[simp] theorem State.setUnit_converter (s : State) (u : Nat) (v : SwingUnit) :
     (s.setUnit u v).converter = s.converter := rfl
@[simp] theorem State.setUnit_supply (s : State) (u : Nat) (v : SwingUnit) : (s.setUnit u v).supply = s.supply := rfl
@[simp] theorem State.setUnit_power (s : State) (u : Nat) (v : SwingUnit) : (s.setUnit u v).power = s.power := rfl
@[simp] theorem State.setUnit_store (s : State) (u : Nat) (v : SwingUnit) : (s.setUnit u v).store = s.store := rfl
@[simp] theorem State.setUnit_start (s : State) (u : Nat) (v : SwingUnit) : (s.setUnit u v).start = s.start := rfl
@[simp] theorem State.setUnit_link (s : State) (u : Nat) (v : SwingUnit) : (s.setUnit u v).link = s.link := rfl
@[simp] theorem State.setUnit_agenda (s : State) (u : Nat) (v : SwingUnit) : (s.setUnit u v).agenda = s.agenda := rfl
@[simp] theorem State.setUnit_pending (s : State) (u : Nat) (v : SwingUnit) : (s.setUnit u v).pending = s.pending := rfl

/-! ## setDial -/

@[simp] theorem State.setDial_tables (s : State) (d : Nat) (v : Dial) : (s.setDial d v).tables = s.tables := rfl
@[simp] theorem State.setDial_time (s : State) (d : Nat) (v : Dial) : (s.setDial d v).time = s.time := rfl
@[simp] theorem State.setDial_refs (s : State) (d : Nat) (v : Dial) : (s.setDial d v).refs = s.refs := rfl
@[simp] theorem State.setDial_day (s : State) (d : Nat) (v : Dial) : (s.setDial d v).day = s.day := rfl
@[simp] theorem State.setDial_chime (s : State) (d : Nat) (v : Dial) : (s.setDial d v).chime = s.chime := rfl
@[simp] theorem State.setDial_bells (s : State) (d : Nat) (v : Dial) : (s.setDial d v).bells = s.bells := rfl
@[simp] theorem State.setDial_units (s : State) (d : Nat) (v : Dial) : (s.setDial d v).units = s.units := rfl
@[simp] theorem State.setDial_run (s : State) (d : Nat) (v : Dial) : (s.setDial d v).run = s.run := rfl
@[simp] theorem State.setDial_dials (s : State) (d : Nat) (v : Dial) :
     (s.setDial d v).dials = { s.dials with dials := Table.put dial0 s.dials.dials d v } := rfl
@[simp] theorem State.setDial_floods (s : State) (d : Nat) (v : Dial) : (s.setDial d v).floods = s.floods := rfl
@[simp] theorem State.setDial_light (s : State) (d : Nat) (v : Dial) : (s.setDial d v).light = s.light := rfl
@[simp] theorem State.setDial_converter (s : State) (d : Nat) (v : Dial) :
     (s.setDial d v).converter = s.converter := rfl
@[simp] theorem State.setDial_supply (s : State) (d : Nat) (v : Dial) : (s.setDial d v).supply = s.supply := rfl
@[simp] theorem State.setDial_power (s : State) (d : Nat) (v : Dial) : (s.setDial d v).power = s.power := rfl
@[simp] theorem State.setDial_store (s : State) (d : Nat) (v : Dial) : (s.setDial d v).store = s.store := rfl
@[simp] theorem State.setDial_start (s : State) (d : Nat) (v : Dial) : (s.setDial d v).start = s.start := rfl
@[simp] theorem State.setDial_link (s : State) (d : Nat) (v : Dial) : (s.setDial d v).link = s.link := rfl
@[simp] theorem State.setDial_agenda (s : State) (d : Nat) (v : Dial) : (s.setDial d v).agenda = s.agenda := rfl
@[simp] theorem State.setDial_pending (s : State) (d : Nat) (v : Dial) : (s.setDial d v).pending = s.pending := rfl

/-! ## setCircuit -/

@[simp] theorem State.setCircuit_tables (s : State) (c : Nat) (v : Circuit) :
     (s.setCircuit c v).tables = s.tables := rfl
@[simp] theorem State.setCircuit_time (s : State) (c : Nat) (v : Circuit) : (s.setCircuit c v).time = s.time := rfl
@[simp] theorem State.setCircuit_refs (s : State) (c : Nat) (v : Circuit) : (s.setCircuit c v).refs = s.refs := rfl
@[simp] theorem State.setCircuit_day (s : State) (c : Nat) (v : Circuit) : (s.setCircuit c v).day = s.day := rfl
@[simp] theorem State.setCircuit_chime (s : State) (c : Nat) (v : Circuit) : (s.setCircuit c v).chime = s.chime := rfl
@[simp] theorem State.setCircuit_bells (s : State) (c : Nat) (v : Circuit) : (s.setCircuit c v).bells = s.bells := rfl
@[simp] theorem State.setCircuit_units (s : State) (c : Nat) (v : Circuit) : (s.setCircuit c v).units = s.units := rfl
@[simp] theorem State.setCircuit_run (s : State) (c : Nat) (v : Circuit) : (s.setCircuit c v).run = s.run := rfl
@[simp] theorem State.setCircuit_dials (s : State) (c : Nat) (v : Circuit) : (s.setCircuit c v).dials = s.dials := rfl
@[simp] theorem State.setCircuit_floods (s : State) (c : Nat) (v : Circuit) :
     (s.setCircuit c v).floods = { s.floods with circuits := Table.put circuit0 s.floods.circuits c v } := rfl
@[simp] theorem State.setCircuit_light (s : State) (c : Nat) (v : Circuit) : (s.setCircuit c v).light = s.light := rfl
@[simp] theorem State.setCircuit_converter (s : State) (c : Nat) (v : Circuit) :
     (s.setCircuit c v).converter = s.converter := rfl
@[simp] theorem State.setCircuit_supply (s : State) (c : Nat) (v : Circuit) :
     (s.setCircuit c v).supply = s.supply := rfl
@[simp] theorem State.setCircuit_power (s : State) (c : Nat) (v : Circuit) : (s.setCircuit c v).power = s.power := rfl
@[simp] theorem State.setCircuit_store (s : State) (c : Nat) (v : Circuit) : (s.setCircuit c v).store = s.store := rfl
@[simp] theorem State.setCircuit_start (s : State) (c : Nat) (v : Circuit) : (s.setCircuit c v).start = s.start := rfl
@[simp] theorem State.setCircuit_link (s : State) (c : Nat) (v : Circuit) : (s.setCircuit c v).link = s.link := rfl
@[simp] theorem State.setCircuit_agenda (s : State) (c : Nat) (v : Circuit) :
     (s.setCircuit c v).agenda = s.agenda := rfl
@[simp] theorem State.setCircuit_pending (s : State) (c : Nat) (v : Circuit) :
     (s.setCircuit c v).pending = s.pending := rfl

/-! ## setGuard -/

@[simp] theorem State.setGuard_tables (s : State) (e : Nat) (v : Option Nat) : (s.setGuard e v).tables = s.tables := rfl
@[simp] theorem State.setGuard_time (s : State) (e : Nat) (v : Option Nat) : (s.setGuard e v).time = s.time := rfl
@[simp] theorem State.setGuard_refs (s : State) (e : Nat) (v : Option Nat) : (s.setGuard e v).refs = s.refs := rfl
@[simp] theorem State.setGuard_day (s : State) (e : Nat) (v : Option Nat) :
     (s.setGuard e v).day = { s.day with guards := Table.put none s.day.guards e v } := rfl
@[simp] theorem State.setGuard_chime (s : State) (e : Nat) (v : Option Nat) : (s.setGuard e v).chime = s.chime := rfl
@[simp] theorem State.setGuard_bells (s : State) (e : Nat) (v : Option Nat) : (s.setGuard e v).bells = s.bells := rfl
@[simp] theorem State.setGuard_units (s : State) (e : Nat) (v : Option Nat) : (s.setGuard e v).units = s.units := rfl
@[simp] theorem State.setGuard_run (s : State) (e : Nat) (v : Option Nat) : (s.setGuard e v).run = s.run := rfl
@[simp] theorem State.setGuard_dials (s : State) (e : Nat) (v : Option Nat) : (s.setGuard e v).dials = s.dials := rfl
@[simp] theorem State.setGuard_floods (s : State) (e : Nat) (v : Option Nat) : (s.setGuard e v).floods = s.floods := rfl
@[simp] theorem State.setGuard_light (s : State) (e : Nat) (v : Option Nat) : (s.setGuard e v).light = s.light := rfl
@[simp] theorem State.setGuard_converter (s : State) (e : Nat) (v : Option Nat) :
     (s.setGuard e v).converter = s.converter := rfl
@[simp] theorem State.setGuard_supply (s : State) (e : Nat) (v : Option Nat) : (s.setGuard e v).supply = s.supply := rfl
@[simp] theorem State.setGuard_power (s : State) (e : Nat) (v : Option Nat) : (s.setGuard e v).power = s.power := rfl
@[simp] theorem State.setGuard_store (s : State) (e : Nat) (v : Option Nat) : (s.setGuard e v).store = s.store := rfl
@[simp] theorem State.setGuard_start (s : State) (e : Nat) (v : Option Nat) : (s.setGuard e v).start = s.start := rfl
@[simp] theorem State.setGuard_link (s : State) (e : Nat) (v : Option Nat) : (s.setGuard e v).link = s.link := rfl
@[simp] theorem State.setGuard_agenda (s : State) (e : Nat) (v : Option Nat) : (s.setGuard e v).agenda = s.agenda := rfl
@[simp] theorem State.setGuard_pending (s : State) (e : Nat) (v : Option Nat) :
     (s.setGuard e v).pending = s.pending := rfl

/-! ## post -/

@[simp] theorem State.post_tables (s : State) (m : Msg) : (s.post m).tables = s.tables := rfl
@[simp] theorem State.post_time (s : State) (m : Msg) : (s.post m).time = s.time := rfl
@[simp] theorem State.post_refs (s : State) (m : Msg) : (s.post m).refs = s.refs := rfl
@[simp] theorem State.post_day (s : State) (m : Msg) : (s.post m).day = s.day := rfl
@[simp] theorem State.post_chime (s : State) (m : Msg) : (s.post m).chime = s.chime := rfl
@[simp] theorem State.post_bells (s : State) (m : Msg) : (s.post m).bells = s.bells := rfl
@[simp] theorem State.post_units (s : State) (m : Msg) : (s.post m).units = s.units := rfl
@[simp] theorem State.post_run (s : State) (m : Msg) : (s.post m).run = s.run := rfl
@[simp] theorem State.post_dials (s : State) (m : Msg) : (s.post m).dials = s.dials := rfl
@[simp] theorem State.post_floods (s : State) (m : Msg) : (s.post m).floods = s.floods := rfl
@[simp] theorem State.post_light (s : State) (m : Msg) : (s.post m).light = s.light := rfl
@[simp] theorem State.post_converter (s : State) (m : Msg) : (s.post m).converter = s.converter := rfl
@[simp] theorem State.post_supply (s : State) (m : Msg) : (s.post m).supply = s.supply := rfl
@[simp] theorem State.post_power (s : State) (m : Msg) : (s.post m).power = s.power := rfl
@[simp] theorem State.post_store (s : State) (m : Msg) : (s.post m).store = s.store := rfl
@[simp] theorem State.post_start (s : State) (m : Msg) : (s.post m).start = s.start := rfl
@[simp] theorem State.post_link (s : State) (m : Msg) : (s.post m).link = s.link := rfl
@[simp] theorem State.post_agenda (s : State) (m : Msg) : (s.post m).agenda = s.agenda ++ [m] := rfl
@[simp] theorem State.post_pending (s : State) (m : Msg) : (s.post m).pending = s.pending := rfl

/-! ## postAll -/

@[simp] theorem State.postAll_tables (s : State) (l : List Msg) : (s.postAll l).tables = s.tables := rfl
@[simp] theorem State.postAll_time (s : State) (l : List Msg) : (s.postAll l).time = s.time := rfl
@[simp] theorem State.postAll_refs (s : State) (l : List Msg) : (s.postAll l).refs = s.refs := rfl
@[simp] theorem State.postAll_day (s : State) (l : List Msg) : (s.postAll l).day = s.day := rfl
@[simp] theorem State.postAll_chime (s : State) (l : List Msg) : (s.postAll l).chime = s.chime := rfl
@[simp] theorem State.postAll_bells (s : State) (l : List Msg) : (s.postAll l).bells = s.bells := rfl
@[simp] theorem State.postAll_units (s : State) (l : List Msg) : (s.postAll l).units = s.units := rfl
@[simp] theorem State.postAll_run (s : State) (l : List Msg) : (s.postAll l).run = s.run := rfl
@[simp] theorem State.postAll_dials (s : State) (l : List Msg) : (s.postAll l).dials = s.dials := rfl
@[simp] theorem State.postAll_floods (s : State) (l : List Msg) : (s.postAll l).floods = s.floods := rfl
@[simp] theorem State.postAll_light (s : State) (l : List Msg) : (s.postAll l).light = s.light := rfl
@[simp] theorem State.postAll_converter (s : State) (l : List Msg) : (s.postAll l).converter = s.converter := rfl
@[simp] theorem State.postAll_supply (s : State) (l : List Msg) : (s.postAll l).supply = s.supply := rfl
@[simp] theorem State.postAll_power (s : State) (l : List Msg) : (s.postAll l).power = s.power := rfl
@[simp] theorem State.postAll_store (s : State) (l : List Msg) : (s.postAll l).store = s.store := rfl
@[simp] theorem State.postAll_start (s : State) (l : List Msg) : (s.postAll l).start = s.start := rfl
@[simp] theorem State.postAll_link (s : State) (l : List Msg) : (s.postAll l).link = s.link := rfl
@[simp] theorem State.postAll_agenda (s : State) (l : List Msg) : (s.postAll l).agenda = s.agenda ++ l := rfl
@[simp] theorem State.postAll_pending (s : State) (l : List Msg) : (s.postAll l).pending = s.pending := rfl

/-! ## notify -/

@[simp] theorem State.notify_tables (s : State) (n : NoticeBody) : (s.notify n).tables = s.tables := rfl
@[simp] theorem State.notify_time (s : State) (n : NoticeBody) : (s.notify n).time = s.time := rfl
@[simp] theorem State.notify_refs (s : State) (n : NoticeBody) : (s.notify n).refs = s.refs := rfl
@[simp] theorem State.notify_day (s : State) (n : NoticeBody) : (s.notify n).day = s.day := rfl
@[simp] theorem State.notify_chime (s : State) (n : NoticeBody) : (s.notify n).chime = s.chime := rfl
@[simp] theorem State.notify_bells (s : State) (n : NoticeBody) : (s.notify n).bells = s.bells := rfl
@[simp] theorem State.notify_units (s : State) (n : NoticeBody) : (s.notify n).units = s.units := rfl
@[simp] theorem State.notify_run (s : State) (n : NoticeBody) : (s.notify n).run = s.run := rfl
@[simp] theorem State.notify_dials (s : State) (n : NoticeBody) : (s.notify n).dials = s.dials := rfl
@[simp] theorem State.notify_floods (s : State) (n : NoticeBody) : (s.notify n).floods = s.floods := rfl
@[simp] theorem State.notify_light (s : State) (n : NoticeBody) : (s.notify n).light = s.light := rfl
@[simp] theorem State.notify_converter (s : State) (n : NoticeBody) : (s.notify n).converter = s.converter := rfl
@[simp] theorem State.notify_supply (s : State) (n : NoticeBody) : (s.notify n).supply = s.supply := rfl
@[simp] theorem State.notify_power (s : State) (n : NoticeBody) : (s.notify n).power = s.power := rfl
@[simp] theorem State.notify_store (s : State) (n : NoticeBody) : (s.notify n).store = s.store := rfl
@[simp] theorem State.notify_start (s : State) (n : NoticeBody) : (s.notify n).start = s.start := rfl
@[simp] theorem State.notify_link (s : State) (n : NoticeBody) : (s.notify n).link = s.link := rfl
@[simp] theorem State.notify_agenda (s : State) (n : NoticeBody) : (s.notify n).agenda = s.agenda ++ [.notice n] := rfl
@[simp] theorem State.notify_pending (s : State) (n : NoticeBody) : (s.notify n).pending = s.pending := rfl

/-! ## runTo -/

@[simp] theorem State.runTo_tables (s : State) (instant : Nat) : (s.runTo instant).tables = s.tables := rfl
@[simp] theorem State.runTo_time (s : State) (instant : Nat) :
     (s.runTo instant).time = s.time.advance (instant - s.time.elapsed) := rfl
@[simp] theorem State.runTo_refs (s : State) (instant : Nat) : (s.runTo instant).refs = s.refs := rfl
@[simp] theorem State.runTo_day (s : State) (instant : Nat) : (s.runTo instant).day = s.day := rfl
@[simp] theorem State.runTo_chime (s : State) (instant : Nat) : (s.runTo instant).chime = s.chime := rfl
@[simp] theorem State.runTo_bells (s : State) (instant : Nat) : (s.runTo instant).bells = s.bells := rfl
@[simp] theorem State.runTo_units (s : State) (instant : Nat) : (s.runTo instant).units = s.units := rfl
@[simp] theorem State.runTo_run (s : State) (instant : Nat) : (s.runTo instant).run = s.run := rfl
@[simp] theorem State.runTo_dials (s : State) (instant : Nat) : (s.runTo instant).dials = s.dials := rfl
@[simp] theorem State.runTo_floods (s : State) (instant : Nat) : (s.runTo instant).floods = s.floods := rfl
@[simp] theorem State.runTo_light (s : State) (instant : Nat) : (s.runTo instant).light = s.light := rfl
@[simp] theorem State.runTo_converter (s : State) (instant : Nat) : (s.runTo instant).converter = s.converter := rfl
@[simp] theorem State.runTo_supply (s : State) (instant : Nat) : (s.runTo instant).supply = s.supply := rfl
@[simp] theorem State.runTo_power (s : State) (instant : Nat) : (s.runTo instant).power = s.power := rfl
@[simp] theorem State.runTo_store (s : State) (instant : Nat) : (s.runTo instant).store = s.store := rfl
@[simp] theorem State.runTo_start (s : State) (instant : Nat) : (s.runTo instant).start = s.start := rfl
@[simp] theorem State.runTo_link (s : State) (instant : Nat) : (s.runTo instant).link = s.link := rfl
@[simp] theorem State.runTo_agenda (s : State) (instant : Nat) : (s.runTo instant).agenda = s.agenda := rfl
@[simp] theorem State.runTo_pending (s : State) (instant : Nat) : (s.runTo instant).pending = s.pending := rfl

/-! ## runToKept -/

@[simp] theorem State.runToKept_tables (s : State) (target : Nat) : (s.runToKept target).tables = s.tables := rfl
@[simp] theorem State.runToKept_time (s : State) (target : Nat) :
     (s.runToKept target).time = s.time.advance (s.time.msUntil target) := rfl
@[simp] theorem State.runToKept_refs (s : State) (target : Nat) : (s.runToKept target).refs = s.refs := rfl
@[simp] theorem State.runToKept_day (s : State) (target : Nat) : (s.runToKept target).day = s.day := rfl
@[simp] theorem State.runToKept_chime (s : State) (target : Nat) : (s.runToKept target).chime = s.chime := rfl
@[simp] theorem State.runToKept_bells (s : State) (target : Nat) : (s.runToKept target).bells = s.bells := rfl
@[simp] theorem State.runToKept_units (s : State) (target : Nat) : (s.runToKept target).units = s.units := rfl
@[simp] theorem State.runToKept_run (s : State) (target : Nat) : (s.runToKept target).run = s.run := rfl
@[simp] theorem State.runToKept_dials (s : State) (target : Nat) : (s.runToKept target).dials = s.dials := rfl
@[simp] theorem State.runToKept_floods (s : State) (target : Nat) : (s.runToKept target).floods = s.floods := rfl
@[simp] theorem State.runToKept_light (s : State) (target : Nat) : (s.runToKept target).light = s.light := rfl
@[simp] theorem State.runToKept_converter (s : State) (target : Nat) :
     (s.runToKept target).converter = s.converter := rfl
@[simp] theorem State.runToKept_supply (s : State) (target : Nat) : (s.runToKept target).supply = s.supply := rfl
@[simp] theorem State.runToKept_power (s : State) (target : Nat) : (s.runToKept target).power = s.power := rfl
@[simp] theorem State.runToKept_store (s : State) (target : Nat) : (s.runToKept target).store = s.store := rfl
@[simp] theorem State.runToKept_start (s : State) (target : Nat) : (s.runToKept target).start = s.start := rfl
@[simp] theorem State.runToKept_link (s : State) (target : Nat) : (s.runToKept target).link = s.link := rfl
@[simp] theorem State.runToKept_agenda (s : State) (target : Nat) : (s.runToKept target).agenda = s.agenda := rfl
@[simp] theorem State.runToKept_pending (s : State) (target : Nat) : (s.runToKept target).pending = s.pending := rfl

/-! ## Objects read after an update -/

@[simp] theorem State.bell_setBell_self (s : State) (b : Nat) (v : Bell) : (s.setBell b v).bell b = v :=
  Table.get_put_self _ _ _ _
theorem State.bell_setBell (s : State) (b j : Nat) (v : Bell) : (s.setBell b v).bell j = if b = j then v else s.bell j :=
  Table.get_put _ _ _ _ _
@[simp] theorem State.bell_setUnit (s : State) (u : Nat) (v : SwingUnit) (j : Nat) :
     (s.setUnit u v).bell j = s.bell j := rfl
@[simp] theorem State.bell_setDial (s : State) (d : Nat) (v : Dial) (j : Nat) : (s.setDial d v).bell j = s.bell j := rfl
@[simp] theorem State.bell_setCircuit (s : State) (c : Nat) (v : Circuit) (j : Nat) :
     (s.setCircuit c v).bell j = s.bell j := rfl
@[simp] theorem State.bell_setGuard (s : State) (e : Nat) (v : Option Nat) (j : Nat) :
     (s.setGuard e v).bell j = s.bell j := rfl
@[simp] theorem State.bell_post (s : State) (m : Msg) (j : Nat) : (s.post m).bell j = s.bell j := rfl
@[simp] theorem State.bell_postAll (s : State) (l : List Msg) (j : Nat) : (s.postAll l).bell j = s.bell j := rfl
@[simp] theorem State.bell_notify (s : State) (n : NoticeBody) (j : Nat) : (s.notify n).bell j = s.bell j := rfl
@[simp] theorem State.bell_runTo (s : State) (instant : Nat) (j : Nat) : (s.runTo instant).bell j = s.bell j := rfl
@[simp] theorem State.bell_runToKept (s : State) (target : Nat) (j : Nat) :
     (s.runToKept target).bell j = s.bell j := rfl
@[simp] theorem State.bell_withTables (s : State) (v : Tables) (j : Nat) : (s.withTables v).bell j = s.bell j := rfl
@[simp] theorem State.bell_withTime (s : State) (v : TimeBase) (j : Nat) : (s.withTime v).bell j = s.bell j := rfl
@[simp] theorem State.bell_withRefs (s : State) (v : RefMonitor) (j : Nat) : (s.withRefs v).bell j = s.bell j := rfl
@[simp] theorem State.bell_withDay (s : State) (v : DayProgramme) (j : Nat) : (s.withDay v).bell j = s.bell j := rfl
@[simp] theorem State.bell_withChime (s : State) (v : Chime) (j : Nat) : (s.withChime v).bell j = s.bell j := rfl
@[simp] theorem State.bell_withUnits (s : State) (v : Table SwingUnit) (j : Nat) :
     (s.withUnits v).bell j = s.bell j := rfl
@[simp] theorem State.bell_withRun (s : State) (v : PealRun) (j : Nat) : (s.withRun v).bell j = s.bell j := rfl
@[simp] theorem State.bell_withDials (s : State) (v : DialDriveState) (j : Nat) :
     (s.withDials v).bell j = s.bell j := rfl
@[simp] theorem State.bell_withFloods (s : State) (v : Floods) (j : Nat) : (s.withFloods v).bell j = s.bell j := rfl
@[simp] theorem State.bell_withLight (s : State) (v : Light) (j : Nat) : (s.withLight v).bell j = s.bell j := rfl
@[simp] theorem State.bell_withConverter (s : State) (v : Converter) (j : Nat) :
     (s.withConverter v).bell j = s.bell j := rfl
@[simp] theorem State.bell_withSupply (s : State) (v : Supply) (j : Nat) : (s.withSupply v).bell j = s.bell j := rfl
@[simp] theorem State.bell_withPower (s : State) (v : Power) (j : Nat) : (s.withPower v).bell j = s.bell j := rfl
@[simp] theorem State.bell_withStore (s : State) (v : Store) (j : Nat) : (s.withStore v).bell j = s.bell j := rfl
@[simp] theorem State.bell_withStart (s : State) (v : Start) (j : Nat) : (s.withStart v).bell j = s.bell j := rfl
@[simp] theorem State.bell_withLink (s : State) (v : Link) (j : Nat) : (s.withLink v).bell j = s.bell j := rfl
@[simp] theorem State.bell_withAgenda (s : State) (v : List Msg) (j : Nat) : (s.withAgenda v).bell j = s.bell j := rfl

@[simp] theorem State.unit_setUnit_self (s : State) (u : Nat) (v : SwingUnit) : (s.setUnit u v).unit u = v :=
  Table.get_put_self _ _ _ _
theorem State.unit_setUnit (s : State) (u j : Nat) (v : SwingUnit) : (s.setUnit u v).unit j = if u = j then v else s.unit j :=
  Table.get_put _ _ _ _ _
@[simp] theorem State.unit_setBell (s : State) (b : Nat) (v : Bell) (j : Nat) : (s.setBell b v).unit j = s.unit j := rfl
@[simp] theorem State.unit_setDial (s : State) (d : Nat) (v : Dial) (j : Nat) : (s.setDial d v).unit j = s.unit j := rfl
@[simp] theorem State.unit_setCircuit (s : State) (c : Nat) (v : Circuit) (j : Nat) :
     (s.setCircuit c v).unit j = s.unit j := rfl
@[simp] theorem State.unit_setGuard (s : State) (e : Nat) (v : Option Nat) (j : Nat) :
     (s.setGuard e v).unit j = s.unit j := rfl
@[simp] theorem State.unit_post (s : State) (m : Msg) (j : Nat) : (s.post m).unit j = s.unit j := rfl
@[simp] theorem State.unit_postAll (s : State) (l : List Msg) (j : Nat) : (s.postAll l).unit j = s.unit j := rfl
@[simp] theorem State.unit_notify (s : State) (n : NoticeBody) (j : Nat) : (s.notify n).unit j = s.unit j := rfl
@[simp] theorem State.unit_runTo (s : State) (instant : Nat) (j : Nat) : (s.runTo instant).unit j = s.unit j := rfl
@[simp] theorem State.unit_runToKept (s : State) (target : Nat) (j : Nat) :
     (s.runToKept target).unit j = s.unit j := rfl
@[simp] theorem State.unit_withTables (s : State) (v : Tables) (j : Nat) : (s.withTables v).unit j = s.unit j := rfl
@[simp] theorem State.unit_withTime (s : State) (v : TimeBase) (j : Nat) : (s.withTime v).unit j = s.unit j := rfl
@[simp] theorem State.unit_withRefs (s : State) (v : RefMonitor) (j : Nat) : (s.withRefs v).unit j = s.unit j := rfl
@[simp] theorem State.unit_withDay (s : State) (v : DayProgramme) (j : Nat) : (s.withDay v).unit j = s.unit j := rfl
@[simp] theorem State.unit_withChime (s : State) (v : Chime) (j : Nat) : (s.withChime v).unit j = s.unit j := rfl
@[simp] theorem State.unit_withBells (s : State) (v : Table Bell) (j : Nat) : (s.withBells v).unit j = s.unit j := rfl
@[simp] theorem State.unit_withRun (s : State) (v : PealRun) (j : Nat) : (s.withRun v).unit j = s.unit j := rfl
@[simp] theorem State.unit_withDials (s : State) (v : DialDriveState) (j : Nat) :
     (s.withDials v).unit j = s.unit j := rfl
@[simp] theorem State.unit_withFloods (s : State) (v : Floods) (j : Nat) : (s.withFloods v).unit j = s.unit j := rfl
@[simp] theorem State.unit_withLight (s : State) (v : Light) (j : Nat) : (s.withLight v).unit j = s.unit j := rfl
@[simp] theorem State.unit_withConverter (s : State) (v : Converter) (j : Nat) :
     (s.withConverter v).unit j = s.unit j := rfl
@[simp] theorem State.unit_withSupply (s : State) (v : Supply) (j : Nat) : (s.withSupply v).unit j = s.unit j := rfl
@[simp] theorem State.unit_withPower (s : State) (v : Power) (j : Nat) : (s.withPower v).unit j = s.unit j := rfl
@[simp] theorem State.unit_withStore (s : State) (v : Store) (j : Nat) : (s.withStore v).unit j = s.unit j := rfl
@[simp] theorem State.unit_withStart (s : State) (v : Start) (j : Nat) : (s.withStart v).unit j = s.unit j := rfl
@[simp] theorem State.unit_withLink (s : State) (v : Link) (j : Nat) : (s.withLink v).unit j = s.unit j := rfl
@[simp] theorem State.unit_withAgenda (s : State) (v : List Msg) (j : Nat) : (s.withAgenda v).unit j = s.unit j := rfl

@[simp] theorem State.dial_setDial_self (s : State) (d : Nat) (v : Dial) : (s.setDial d v).dial d = v :=
  Table.get_put_self _ _ _ _
theorem State.dial_setDial (s : State) (d j : Nat) (v : Dial) : (s.setDial d v).dial j = if d = j then v else s.dial j :=
  Table.get_put _ _ _ _ _
@[simp] theorem State.dial_setBell (s : State) (b : Nat) (v : Bell) (j : Nat) : (s.setBell b v).dial j = s.dial j := rfl
@[simp] theorem State.dial_setUnit (s : State) (u : Nat) (v : SwingUnit) (j : Nat) :
     (s.setUnit u v).dial j = s.dial j := rfl
@[simp] theorem State.dial_setCircuit (s : State) (c : Nat) (v : Circuit) (j : Nat) :
     (s.setCircuit c v).dial j = s.dial j := rfl
@[simp] theorem State.dial_setGuard (s : State) (e : Nat) (v : Option Nat) (j : Nat) :
     (s.setGuard e v).dial j = s.dial j := rfl
@[simp] theorem State.dial_post (s : State) (m : Msg) (j : Nat) : (s.post m).dial j = s.dial j := rfl
@[simp] theorem State.dial_postAll (s : State) (l : List Msg) (j : Nat) : (s.postAll l).dial j = s.dial j := rfl
@[simp] theorem State.dial_notify (s : State) (n : NoticeBody) (j : Nat) : (s.notify n).dial j = s.dial j := rfl
@[simp] theorem State.dial_runTo (s : State) (instant : Nat) (j : Nat) : (s.runTo instant).dial j = s.dial j := rfl
@[simp] theorem State.dial_runToKept (s : State) (target : Nat) (j : Nat) :
     (s.runToKept target).dial j = s.dial j := rfl
@[simp] theorem State.dial_withTables (s : State) (v : Tables) (j : Nat) : (s.withTables v).dial j = s.dial j := rfl
@[simp] theorem State.dial_withTime (s : State) (v : TimeBase) (j : Nat) : (s.withTime v).dial j = s.dial j := rfl
@[simp] theorem State.dial_withRefs (s : State) (v : RefMonitor) (j : Nat) : (s.withRefs v).dial j = s.dial j := rfl
@[simp] theorem State.dial_withDay (s : State) (v : DayProgramme) (j : Nat) : (s.withDay v).dial j = s.dial j := rfl
@[simp] theorem State.dial_withChime (s : State) (v : Chime) (j : Nat) : (s.withChime v).dial j = s.dial j := rfl
@[simp] theorem State.dial_withBells (s : State) (v : Table Bell) (j : Nat) : (s.withBells v).dial j = s.dial j := rfl
@[simp] theorem State.dial_withUnits (s : State) (v : Table SwingUnit) (j : Nat) :
     (s.withUnits v).dial j = s.dial j := rfl
@[simp] theorem State.dial_withRun (s : State) (v : PealRun) (j : Nat) : (s.withRun v).dial j = s.dial j := rfl
@[simp] theorem State.dial_withFloods (s : State) (v : Floods) (j : Nat) : (s.withFloods v).dial j = s.dial j := rfl
@[simp] theorem State.dial_withLight (s : State) (v : Light) (j : Nat) : (s.withLight v).dial j = s.dial j := rfl
@[simp] theorem State.dial_withConverter (s : State) (v : Converter) (j : Nat) :
     (s.withConverter v).dial j = s.dial j := rfl
@[simp] theorem State.dial_withSupply (s : State) (v : Supply) (j : Nat) : (s.withSupply v).dial j = s.dial j := rfl
@[simp] theorem State.dial_withPower (s : State) (v : Power) (j : Nat) : (s.withPower v).dial j = s.dial j := rfl
@[simp] theorem State.dial_withStore (s : State) (v : Store) (j : Nat) : (s.withStore v).dial j = s.dial j := rfl
@[simp] theorem State.dial_withStart (s : State) (v : Start) (j : Nat) : (s.withStart v).dial j = s.dial j := rfl
@[simp] theorem State.dial_withLink (s : State) (v : Link) (j : Nat) : (s.withLink v).dial j = s.dial j := rfl
@[simp] theorem State.dial_withAgenda (s : State) (v : List Msg) (j : Nat) : (s.withAgenda v).dial j = s.dial j := rfl

@[simp] theorem State.circuit_setCircuit_self (s : State) (c : Nat) (v : Circuit) : (s.setCircuit c v).circuit c = v :=
  Table.get_put_self _ _ _ _
theorem State.circuit_setCircuit (s : State) (c j : Nat) (v : Circuit) : (s.setCircuit c v).circuit j = if c = j then v else s.circuit j :=
  Table.get_put _ _ _ _ _
@[simp] theorem State.circuit_setBell (s : State) (b : Nat) (v : Bell) (j : Nat) :
     (s.setBell b v).circuit j = s.circuit j := rfl
@[simp] theorem State.circuit_setUnit (s : State) (u : Nat) (v : SwingUnit) (j : Nat) :
     (s.setUnit u v).circuit j = s.circuit j := rfl
@[simp] theorem State.circuit_setDial (s : State) (d : Nat) (v : Dial) (j : Nat) :
     (s.setDial d v).circuit j = s.circuit j := rfl
@[simp] theorem State.circuit_setGuard (s : State) (e : Nat) (v : Option Nat) (j : Nat) :
     (s.setGuard e v).circuit j = s.circuit j := rfl
@[simp] theorem State.circuit_post (s : State) (m : Msg) (j : Nat) : (s.post m).circuit j = s.circuit j := rfl
@[simp] theorem State.circuit_postAll (s : State) (l : List Msg) (j : Nat) :
     (s.postAll l).circuit j = s.circuit j := rfl
@[simp] theorem State.circuit_notify (s : State) (n : NoticeBody) (j : Nat) :
     (s.notify n).circuit j = s.circuit j := rfl
@[simp] theorem State.circuit_runTo (s : State) (instant : Nat) (j : Nat) :
     (s.runTo instant).circuit j = s.circuit j := rfl
@[simp] theorem State.circuit_runToKept (s : State) (target : Nat) (j : Nat) :
     (s.runToKept target).circuit j = s.circuit j := rfl
@[simp] theorem State.circuit_withTables (s : State) (v : Tables) (j : Nat) :
     (s.withTables v).circuit j = s.circuit j := rfl
@[simp] theorem State.circuit_withTime (s : State) (v : TimeBase) (j : Nat) :
     (s.withTime v).circuit j = s.circuit j := rfl
@[simp] theorem State.circuit_withRefs (s : State) (v : RefMonitor) (j : Nat) :
     (s.withRefs v).circuit j = s.circuit j := rfl
@[simp] theorem State.circuit_withDay (s : State) (v : DayProgramme) (j : Nat) :
     (s.withDay v).circuit j = s.circuit j := rfl
@[simp] theorem State.circuit_withChime (s : State) (v : Chime) (j : Nat) :
     (s.withChime v).circuit j = s.circuit j := rfl
@[simp] theorem State.circuit_withBells (s : State) (v : Table Bell) (j : Nat) :
     (s.withBells v).circuit j = s.circuit j := rfl
@[simp] theorem State.circuit_withUnits (s : State) (v : Table SwingUnit) (j : Nat) :
     (s.withUnits v).circuit j = s.circuit j := rfl
@[simp] theorem State.circuit_withRun (s : State) (v : PealRun) (j : Nat) : (s.withRun v).circuit j = s.circuit j := rfl
@[simp] theorem State.circuit_withDials (s : State) (v : DialDriveState) (j : Nat) :
     (s.withDials v).circuit j = s.circuit j := rfl
@[simp] theorem State.circuit_withLight (s : State) (v : Light) (j : Nat) :
     (s.withLight v).circuit j = s.circuit j := rfl
@[simp] theorem State.circuit_withConverter (s : State) (v : Converter) (j : Nat) :
     (s.withConverter v).circuit j = s.circuit j := rfl
@[simp] theorem State.circuit_withSupply (s : State) (v : Supply) (j : Nat) :
     (s.withSupply v).circuit j = s.circuit j := rfl
@[simp] theorem State.circuit_withPower (s : State) (v : Power) (j : Nat) :
     (s.withPower v).circuit j = s.circuit j := rfl
@[simp] theorem State.circuit_withStore (s : State) (v : Store) (j : Nat) :
     (s.withStore v).circuit j = s.circuit j := rfl
@[simp] theorem State.circuit_withStart (s : State) (v : Start) (j : Nat) :
     (s.withStart v).circuit j = s.circuit j := rfl
@[simp] theorem State.circuit_withLink (s : State) (v : Link) (j : Nat) : (s.withLink v).circuit j = s.circuit j := rfl
@[simp] theorem State.circuit_withAgenda (s : State) (v : List Msg) (j : Nat) :
     (s.withAgenda v).circuit j = s.circuit j := rfl

@[simp] theorem State.guard_setGuard_self (s : State) (e : Nat) (v : Option Nat) : (s.setGuard e v).guard e = v :=
  Table.get_put_self _ _ _ _
theorem State.guard_setGuard (s : State) (e j : Nat) (v : Option Nat) : (s.setGuard e v).guard j = if e = j then v else s.guard j :=
  Table.get_put _ _ _ _ _
@[simp] theorem State.guard_setBell (s : State) (b : Nat) (v : Bell) (j : Nat) :
     (s.setBell b v).guard j = s.guard j := rfl
@[simp] theorem State.guard_setUnit (s : State) (u : Nat) (v : SwingUnit) (j : Nat) :
     (s.setUnit u v).guard j = s.guard j := rfl
@[simp] theorem State.guard_setDial (s : State) (d : Nat) (v : Dial) (j : Nat) :
     (s.setDial d v).guard j = s.guard j := rfl
@[simp] theorem State.guard_setCircuit (s : State) (c : Nat) (v : Circuit) (j : Nat) :
     (s.setCircuit c v).guard j = s.guard j := rfl
@[simp] theorem State.guard_post (s : State) (m : Msg) (j : Nat) : (s.post m).guard j = s.guard j := rfl
@[simp] theorem State.guard_postAll (s : State) (l : List Msg) (j : Nat) : (s.postAll l).guard j = s.guard j := rfl
@[simp] theorem State.guard_notify (s : State) (n : NoticeBody) (j : Nat) : (s.notify n).guard j = s.guard j := rfl
@[simp] theorem State.guard_runTo (s : State) (instant : Nat) (j : Nat) : (s.runTo instant).guard j = s.guard j := rfl
@[simp] theorem State.guard_runToKept (s : State) (target : Nat) (j : Nat) :
     (s.runToKept target).guard j = s.guard j := rfl
@[simp] theorem State.guard_withTables (s : State) (v : Tables) (j : Nat) : (s.withTables v).guard j = s.guard j := rfl
@[simp] theorem State.guard_withTime (s : State) (v : TimeBase) (j : Nat) : (s.withTime v).guard j = s.guard j := rfl
@[simp] theorem State.guard_withRefs (s : State) (v : RefMonitor) (j : Nat) : (s.withRefs v).guard j = s.guard j := rfl
@[simp] theorem State.guard_withChime (s : State) (v : Chime) (j : Nat) : (s.withChime v).guard j = s.guard j := rfl
@[simp] theorem State.guard_withBells (s : State) (v : Table Bell) (j : Nat) :
     (s.withBells v).guard j = s.guard j := rfl
@[simp] theorem State.guard_withUnits (s : State) (v : Table SwingUnit) (j : Nat) :
     (s.withUnits v).guard j = s.guard j := rfl
@[simp] theorem State.guard_withRun (s : State) (v : PealRun) (j : Nat) : (s.withRun v).guard j = s.guard j := rfl
@[simp] theorem State.guard_withDials (s : State) (v : DialDriveState) (j : Nat) :
     (s.withDials v).guard j = s.guard j := rfl
@[simp] theorem State.guard_withFloods (s : State) (v : Floods) (j : Nat) : (s.withFloods v).guard j = s.guard j := rfl
@[simp] theorem State.guard_withLight (s : State) (v : Light) (j : Nat) : (s.withLight v).guard j = s.guard j := rfl
@[simp] theorem State.guard_withConverter (s : State) (v : Converter) (j : Nat) :
     (s.withConverter v).guard j = s.guard j := rfl
@[simp] theorem State.guard_withSupply (s : State) (v : Supply) (j : Nat) : (s.withSupply v).guard j = s.guard j := rfl
@[simp] theorem State.guard_withPower (s : State) (v : Power) (j : Nat) : (s.withPower v).guard j = s.guard j := rfl
@[simp] theorem State.guard_withStore (s : State) (v : Store) (j : Nat) : (s.withStore v).guard j = s.guard j := rfl
@[simp] theorem State.guard_withStart (s : State) (v : Start) (j : Nat) : (s.withStart v).guard j = s.guard j := rfl
@[simp] theorem State.guard_withLink (s : State) (v : Link) (j : Nat) : (s.withLink v).guard j = s.guard j := rfl
@[simp] theorem State.guard_withAgenda (s : State) (v : List Msg) (j : Nat) :
     (s.withAgenda v).guard j = s.guard j := rfl

/-! ## Records and states read after an update -/

@[simp] theorem State.bellRec_setBell (s : State) (b : Nat) (v : Bell) (j : Nat) :
     (s.setBell b v).bellRec j = s.bellRec j := rfl
@[simp] theorem State.swingRec_setBell (s : State) (b : Nat) (v : Bell) (j : Nat) :
     (s.setBell b v).swingRec j = s.swingRec j := rfl
@[simp] theorem State.planRec_setBell (s : State) (b : Nat) (v : Bell) (j : Nat) :
     (s.setBell b v).planRec j = s.planRec j := rfl
@[simp] theorem State.tuneRec_setBell (s : State) (b : Nat) (v : Bell) (j : Nat) :
     (s.setBell b v).tuneRec j = s.tuneRec j := rfl
@[simp] theorem State.noteRec_setBell (s : State) (b : Nat) (v : Bell) (j : Nat) :
     (s.setBell b v).noteRec j = s.noteRec j := rfl
@[simp] theorem State.dialRec_setBell (s : State) (b : Nat) (v : Bell) (j : Nat) :
     (s.setBell b v).dialRec j = s.dialRec j := rfl
@[simp] theorem State.circuitRec_setBell (s : State) (b : Nat) (v : Bell) (j : Nat) :
     (s.setBell b v).circuitRec j = s.circuitRec j := rfl
@[simp] theorem State.sceneRec_setBell (s : State) (b : Nat) (v : Bell) (j : Nat) :
     (s.setBell b v).sceneRec j = s.sceneRec j := rfl
@[simp] theorem State.entryRec_setBell (s : State) (b : Nat) (v : Bell) (j : Nat) :
     (s.setBell b v).entryRec j = s.entryRec j := rfl
@[simp] theorem State.now_setBell (s : State) (b : Nat) (v : Bell) : (s.setBell b v).now = s.now := rfl
@[simp] theorem State.mainsNormal_setBell (s : State) (b : Nat) (v : Bell) :
     (s.setBell b v).mainsNormal = s.mainsNormal := rfl
@[simp] theorem State.accessClear_setBell (s : State) (b : Nat) (v : Bell) :
     (s.setBell b v).accessClear = s.accessClear := rfl
@[simp] theorem State.keyOn_setBell (s : State) (b : Nat) (v : Bell) : (s.setBell b v).keyOn = s.keyOn := rfl
@[simp] theorem State.running_setBell (s : State) (b : Nat) (v : Bell) : (s.setBell b v).running = s.running := rfl
@[simp] theorem State.ready_setBell (s : State) (b : Nat) (v : Bell) : (s.setBell b v).ready = s.ready := rfl
@[simp] theorem State.bellRec_setUnit (s : State) (u : Nat) (v : SwingUnit) (j : Nat) :
     (s.setUnit u v).bellRec j = s.bellRec j := rfl
@[simp] theorem State.swingRec_setUnit (s : State) (u : Nat) (v : SwingUnit) (j : Nat) :
     (s.setUnit u v).swingRec j = s.swingRec j := rfl
@[simp] theorem State.planRec_setUnit (s : State) (u : Nat) (v : SwingUnit) (j : Nat) :
     (s.setUnit u v).planRec j = s.planRec j := rfl
@[simp] theorem State.tuneRec_setUnit (s : State) (u : Nat) (v : SwingUnit) (j : Nat) :
     (s.setUnit u v).tuneRec j = s.tuneRec j := rfl
@[simp] theorem State.noteRec_setUnit (s : State) (u : Nat) (v : SwingUnit) (j : Nat) :
     (s.setUnit u v).noteRec j = s.noteRec j := rfl
@[simp] theorem State.dialRec_setUnit (s : State) (u : Nat) (v : SwingUnit) (j : Nat) :
     (s.setUnit u v).dialRec j = s.dialRec j := rfl
@[simp] theorem State.circuitRec_setUnit (s : State) (u : Nat) (v : SwingUnit) (j : Nat) :
     (s.setUnit u v).circuitRec j = s.circuitRec j := rfl
@[simp] theorem State.sceneRec_setUnit (s : State) (u : Nat) (v : SwingUnit) (j : Nat) :
     (s.setUnit u v).sceneRec j = s.sceneRec j := rfl
@[simp] theorem State.entryRec_setUnit (s : State) (u : Nat) (v : SwingUnit) (j : Nat) :
     (s.setUnit u v).entryRec j = s.entryRec j := rfl
@[simp] theorem State.now_setUnit (s : State) (u : Nat) (v : SwingUnit) : (s.setUnit u v).now = s.now := rfl
@[simp] theorem State.mainsNormal_setUnit (s : State) (u : Nat) (v : SwingUnit) :
     (s.setUnit u v).mainsNormal = s.mainsNormal := rfl
@[simp] theorem State.accessClear_setUnit (s : State) (u : Nat) (v : SwingUnit) :
     (s.setUnit u v).accessClear = s.accessClear := rfl
@[simp] theorem State.keyOn_setUnit (s : State) (u : Nat) (v : SwingUnit) : (s.setUnit u v).keyOn = s.keyOn := rfl
@[simp] theorem State.running_setUnit (s : State) (u : Nat) (v : SwingUnit) : (s.setUnit u v).running = s.running := rfl
@[simp] theorem State.ready_setUnit (s : State) (u : Nat) (v : SwingUnit) : (s.setUnit u v).ready = s.ready := rfl
@[simp] theorem State.bellRec_setDial (s : State) (d : Nat) (v : Dial) (j : Nat) :
     (s.setDial d v).bellRec j = s.bellRec j := rfl
@[simp] theorem State.swingRec_setDial (s : State) (d : Nat) (v : Dial) (j : Nat) :
     (s.setDial d v).swingRec j = s.swingRec j := rfl
@[simp] theorem State.planRec_setDial (s : State) (d : Nat) (v : Dial) (j : Nat) :
     (s.setDial d v).planRec j = s.planRec j := rfl
@[simp] theorem State.tuneRec_setDial (s : State) (d : Nat) (v : Dial) (j : Nat) :
     (s.setDial d v).tuneRec j = s.tuneRec j := rfl
@[simp] theorem State.noteRec_setDial (s : State) (d : Nat) (v : Dial) (j : Nat) :
     (s.setDial d v).noteRec j = s.noteRec j := rfl
@[simp] theorem State.dialRec_setDial (s : State) (d : Nat) (v : Dial) (j : Nat) :
     (s.setDial d v).dialRec j = s.dialRec j := rfl
@[simp] theorem State.circuitRec_setDial (s : State) (d : Nat) (v : Dial) (j : Nat) :
     (s.setDial d v).circuitRec j = s.circuitRec j := rfl
@[simp] theorem State.sceneRec_setDial (s : State) (d : Nat) (v : Dial) (j : Nat) :
     (s.setDial d v).sceneRec j = s.sceneRec j := rfl
@[simp] theorem State.entryRec_setDial (s : State) (d : Nat) (v : Dial) (j : Nat) :
     (s.setDial d v).entryRec j = s.entryRec j := rfl
@[simp] theorem State.now_setDial (s : State) (d : Nat) (v : Dial) : (s.setDial d v).now = s.now := rfl
@[simp] theorem State.mainsNormal_setDial (s : State) (d : Nat) (v : Dial) :
     (s.setDial d v).mainsNormal = s.mainsNormal := rfl
@[simp] theorem State.accessClear_setDial (s : State) (d : Nat) (v : Dial) :
     (s.setDial d v).accessClear = s.accessClear := rfl
@[simp] theorem State.keyOn_setDial (s : State) (d : Nat) (v : Dial) : (s.setDial d v).keyOn = s.keyOn := rfl
@[simp] theorem State.running_setDial (s : State) (d : Nat) (v : Dial) : (s.setDial d v).running = s.running := rfl
@[simp] theorem State.ready_setDial (s : State) (d : Nat) (v : Dial) : (s.setDial d v).ready = s.ready := rfl
@[simp] theorem State.bellRec_setCircuit (s : State) (c : Nat) (v : Circuit) (j : Nat) :
     (s.setCircuit c v).bellRec j = s.bellRec j := rfl
@[simp] theorem State.swingRec_setCircuit (s : State) (c : Nat) (v : Circuit) (j : Nat) :
     (s.setCircuit c v).swingRec j = s.swingRec j := rfl
@[simp] theorem State.planRec_setCircuit (s : State) (c : Nat) (v : Circuit) (j : Nat) :
     (s.setCircuit c v).planRec j = s.planRec j := rfl
@[simp] theorem State.tuneRec_setCircuit (s : State) (c : Nat) (v : Circuit) (j : Nat) :
     (s.setCircuit c v).tuneRec j = s.tuneRec j := rfl
@[simp] theorem State.noteRec_setCircuit (s : State) (c : Nat) (v : Circuit) (j : Nat) :
     (s.setCircuit c v).noteRec j = s.noteRec j := rfl
@[simp] theorem State.dialRec_setCircuit (s : State) (c : Nat) (v : Circuit) (j : Nat) :
     (s.setCircuit c v).dialRec j = s.dialRec j := rfl
@[simp] theorem State.circuitRec_setCircuit (s : State) (c : Nat) (v : Circuit) (j : Nat) :
     (s.setCircuit c v).circuitRec j = s.circuitRec j := rfl
@[simp] theorem State.sceneRec_setCircuit (s : State) (c : Nat) (v : Circuit) (j : Nat) :
     (s.setCircuit c v).sceneRec j = s.sceneRec j := rfl
@[simp] theorem State.entryRec_setCircuit (s : State) (c : Nat) (v : Circuit) (j : Nat) :
     (s.setCircuit c v).entryRec j = s.entryRec j := rfl
@[simp] theorem State.now_setCircuit (s : State) (c : Nat) (v : Circuit) : (s.setCircuit c v).now = s.now := rfl
@[simp] theorem State.mainsNormal_setCircuit (s : State) (c : Nat) (v : Circuit) :
     (s.setCircuit c v).mainsNormal = s.mainsNormal := rfl
@[simp] theorem State.accessClear_setCircuit (s : State) (c : Nat) (v : Circuit) :
     (s.setCircuit c v).accessClear = s.accessClear := rfl
@[simp] theorem State.keyOn_setCircuit (s : State) (c : Nat) (v : Circuit) : (s.setCircuit c v).keyOn = s.keyOn := rfl
@[simp] theorem State.running_setCircuit (s : State) (c : Nat) (v : Circuit) :
     (s.setCircuit c v).running = s.running := rfl
@[simp] theorem State.ready_setCircuit (s : State) (c : Nat) (v : Circuit) : (s.setCircuit c v).ready = s.ready := rfl
@[simp] theorem State.bellRec_setGuard (s : State) (e : Nat) (v : Option Nat) (j : Nat) :
     (s.setGuard e v).bellRec j = s.bellRec j := rfl
@[simp] theorem State.swingRec_setGuard (s : State) (e : Nat) (v : Option Nat) (j : Nat) :
     (s.setGuard e v).swingRec j = s.swingRec j := rfl
@[simp] theorem State.planRec_setGuard (s : State) (e : Nat) (v : Option Nat) (j : Nat) :
     (s.setGuard e v).planRec j = s.planRec j := rfl
@[simp] theorem State.tuneRec_setGuard (s : State) (e : Nat) (v : Option Nat) (j : Nat) :
     (s.setGuard e v).tuneRec j = s.tuneRec j := rfl
@[simp] theorem State.noteRec_setGuard (s : State) (e : Nat) (v : Option Nat) (j : Nat) :
     (s.setGuard e v).noteRec j = s.noteRec j := rfl
@[simp] theorem State.dialRec_setGuard (s : State) (e : Nat) (v : Option Nat) (j : Nat) :
     (s.setGuard e v).dialRec j = s.dialRec j := rfl
@[simp] theorem State.circuitRec_setGuard (s : State) (e : Nat) (v : Option Nat) (j : Nat) :
     (s.setGuard e v).circuitRec j = s.circuitRec j := rfl
@[simp] theorem State.sceneRec_setGuard (s : State) (e : Nat) (v : Option Nat) (j : Nat) :
     (s.setGuard e v).sceneRec j = s.sceneRec j := rfl
@[simp] theorem State.entryRec_setGuard (s : State) (e : Nat) (v : Option Nat) (j : Nat) :
     (s.setGuard e v).entryRec j = s.entryRec j := rfl
@[simp] theorem State.now_setGuard (s : State) (e : Nat) (v : Option Nat) : (s.setGuard e v).now = s.now := rfl
@[simp] theorem State.mainsNormal_setGuard (s : State) (e : Nat) (v : Option Nat) :
     (s.setGuard e v).mainsNormal = s.mainsNormal := rfl
@[simp] theorem State.accessClear_setGuard (s : State) (e : Nat) (v : Option Nat) :
     (s.setGuard e v).accessClear = s.accessClear := rfl
@[simp] theorem State.keyOn_setGuard (s : State) (e : Nat) (v : Option Nat) : (s.setGuard e v).keyOn = s.keyOn := rfl
@[simp] theorem State.running_setGuard (s : State) (e : Nat) (v : Option Nat) :
     (s.setGuard e v).running = s.running := rfl
@[simp] theorem State.ready_setGuard (s : State) (e : Nat) (v : Option Nat) : (s.setGuard e v).ready = s.ready := rfl
@[simp] theorem State.bellRec_post (s : State) (m : Msg) (j : Nat) : (s.post m).bellRec j = s.bellRec j := rfl
@[simp] theorem State.swingRec_post (s : State) (m : Msg) (j : Nat) : (s.post m).swingRec j = s.swingRec j := rfl
@[simp] theorem State.planRec_post (s : State) (m : Msg) (j : Nat) : (s.post m).planRec j = s.planRec j := rfl
@[simp] theorem State.tuneRec_post (s : State) (m : Msg) (j : Nat) : (s.post m).tuneRec j = s.tuneRec j := rfl
@[simp] theorem State.noteRec_post (s : State) (m : Msg) (j : Nat) : (s.post m).noteRec j = s.noteRec j := rfl
@[simp] theorem State.dialRec_post (s : State) (m : Msg) (j : Nat) : (s.post m).dialRec j = s.dialRec j := rfl
@[simp] theorem State.circuitRec_post (s : State) (m : Msg) (j : Nat) : (s.post m).circuitRec j = s.circuitRec j := rfl
@[simp] theorem State.sceneRec_post (s : State) (m : Msg) (j : Nat) : (s.post m).sceneRec j = s.sceneRec j := rfl
@[simp] theorem State.entryRec_post (s : State) (m : Msg) (j : Nat) : (s.post m).entryRec j = s.entryRec j := rfl
@[simp] theorem State.now_post (s : State) (m : Msg) : (s.post m).now = s.now := rfl
@[simp] theorem State.mainsNormal_post (s : State) (m : Msg) : (s.post m).mainsNormal = s.mainsNormal := rfl
@[simp] theorem State.accessClear_post (s : State) (m : Msg) : (s.post m).accessClear = s.accessClear := rfl
@[simp] theorem State.keyOn_post (s : State) (m : Msg) : (s.post m).keyOn = s.keyOn := rfl
@[simp] theorem State.running_post (s : State) (m : Msg) : (s.post m).running = s.running := rfl
@[simp] theorem State.ready_post (s : State) (m : Msg) : (s.post m).ready = s.ready := rfl
@[simp] theorem State.bellRec_postAll (s : State) (l : List Msg) (j : Nat) :
     (s.postAll l).bellRec j = s.bellRec j := rfl
@[simp] theorem State.swingRec_postAll (s : State) (l : List Msg) (j : Nat) :
     (s.postAll l).swingRec j = s.swingRec j := rfl
@[simp] theorem State.planRec_postAll (s : State) (l : List Msg) (j : Nat) :
     (s.postAll l).planRec j = s.planRec j := rfl
@[simp] theorem State.tuneRec_postAll (s : State) (l : List Msg) (j : Nat) :
     (s.postAll l).tuneRec j = s.tuneRec j := rfl
@[simp] theorem State.noteRec_postAll (s : State) (l : List Msg) (j : Nat) :
     (s.postAll l).noteRec j = s.noteRec j := rfl
@[simp] theorem State.dialRec_postAll (s : State) (l : List Msg) (j : Nat) :
     (s.postAll l).dialRec j = s.dialRec j := rfl
@[simp] theorem State.circuitRec_postAll (s : State) (l : List Msg) (j : Nat) :
     (s.postAll l).circuitRec j = s.circuitRec j := rfl
@[simp] theorem State.sceneRec_postAll (s : State) (l : List Msg) (j : Nat) :
     (s.postAll l).sceneRec j = s.sceneRec j := rfl
@[simp] theorem State.entryRec_postAll (s : State) (l : List Msg) (j : Nat) :
     (s.postAll l).entryRec j = s.entryRec j := rfl
@[simp] theorem State.now_postAll (s : State) (l : List Msg) : (s.postAll l).now = s.now := rfl
@[simp] theorem State.mainsNormal_postAll (s : State) (l : List Msg) : (s.postAll l).mainsNormal = s.mainsNormal := rfl
@[simp] theorem State.accessClear_postAll (s : State) (l : List Msg) : (s.postAll l).accessClear = s.accessClear := rfl
@[simp] theorem State.keyOn_postAll (s : State) (l : List Msg) : (s.postAll l).keyOn = s.keyOn := rfl
@[simp] theorem State.running_postAll (s : State) (l : List Msg) : (s.postAll l).running = s.running := rfl
@[simp] theorem State.ready_postAll (s : State) (l : List Msg) : (s.postAll l).ready = s.ready := rfl
@[simp] theorem State.bellRec_notify (s : State) (n : NoticeBody) (j : Nat) :
     (s.notify n).bellRec j = s.bellRec j := rfl
@[simp] theorem State.swingRec_notify (s : State) (n : NoticeBody) (j : Nat) :
     (s.notify n).swingRec j = s.swingRec j := rfl
@[simp] theorem State.planRec_notify (s : State) (n : NoticeBody) (j : Nat) :
     (s.notify n).planRec j = s.planRec j := rfl
@[simp] theorem State.tuneRec_notify (s : State) (n : NoticeBody) (j : Nat) :
     (s.notify n).tuneRec j = s.tuneRec j := rfl
@[simp] theorem State.noteRec_notify (s : State) (n : NoticeBody) (j : Nat) :
     (s.notify n).noteRec j = s.noteRec j := rfl
@[simp] theorem State.dialRec_notify (s : State) (n : NoticeBody) (j : Nat) :
     (s.notify n).dialRec j = s.dialRec j := rfl
@[simp] theorem State.circuitRec_notify (s : State) (n : NoticeBody) (j : Nat) :
     (s.notify n).circuitRec j = s.circuitRec j := rfl
@[simp] theorem State.sceneRec_notify (s : State) (n : NoticeBody) (j : Nat) :
     (s.notify n).sceneRec j = s.sceneRec j := rfl
@[simp] theorem State.entryRec_notify (s : State) (n : NoticeBody) (j : Nat) :
     (s.notify n).entryRec j = s.entryRec j := rfl
@[simp] theorem State.now_notify (s : State) (n : NoticeBody) : (s.notify n).now = s.now := rfl
@[simp] theorem State.mainsNormal_notify (s : State) (n : NoticeBody) : (s.notify n).mainsNormal = s.mainsNormal := rfl
@[simp] theorem State.accessClear_notify (s : State) (n : NoticeBody) : (s.notify n).accessClear = s.accessClear := rfl
@[simp] theorem State.keyOn_notify (s : State) (n : NoticeBody) : (s.notify n).keyOn = s.keyOn := rfl
@[simp] theorem State.running_notify (s : State) (n : NoticeBody) : (s.notify n).running = s.running := rfl
@[simp] theorem State.ready_notify (s : State) (n : NoticeBody) : (s.notify n).ready = s.ready := rfl
@[simp] theorem State.bellRec_runTo (s : State) (instant : Nat) (j : Nat) :
     (s.runTo instant).bellRec j = s.bellRec j := rfl
@[simp] theorem State.swingRec_runTo (s : State) (instant : Nat) (j : Nat) :
     (s.runTo instant).swingRec j = s.swingRec j := rfl
@[simp] theorem State.planRec_runTo (s : State) (instant : Nat) (j : Nat) :
     (s.runTo instant).planRec j = s.planRec j := rfl
@[simp] theorem State.tuneRec_runTo (s : State) (instant : Nat) (j : Nat) :
     (s.runTo instant).tuneRec j = s.tuneRec j := rfl
@[simp] theorem State.noteRec_runTo (s : State) (instant : Nat) (j : Nat) :
     (s.runTo instant).noteRec j = s.noteRec j := rfl
@[simp] theorem State.dialRec_runTo (s : State) (instant : Nat) (j : Nat) :
     (s.runTo instant).dialRec j = s.dialRec j := rfl
@[simp] theorem State.circuitRec_runTo (s : State) (instant : Nat) (j : Nat) :
     (s.runTo instant).circuitRec j = s.circuitRec j := rfl
@[simp] theorem State.sceneRec_runTo (s : State) (instant : Nat) (j : Nat) :
     (s.runTo instant).sceneRec j = s.sceneRec j := rfl
@[simp] theorem State.entryRec_runTo (s : State) (instant : Nat) (j : Nat) :
     (s.runTo instant).entryRec j = s.entryRec j := rfl
@[simp] theorem State.mainsNormal_runTo (s : State) (instant : Nat) :
     (s.runTo instant).mainsNormal = s.mainsNormal := rfl
@[simp] theorem State.accessClear_runTo (s : State) (instant : Nat) :
     (s.runTo instant).accessClear = s.accessClear := rfl
@[simp] theorem State.keyOn_runTo (s : State) (instant : Nat) : (s.runTo instant).keyOn = s.keyOn := rfl
@[simp] theorem State.running_runTo (s : State) (instant : Nat) : (s.runTo instant).running = s.running := rfl
@[simp] theorem State.ready_runTo (s : State) (instant : Nat) : (s.runTo instant).ready = s.ready := rfl
@[simp] theorem State.bellRec_runToKept (s : State) (target : Nat) (j : Nat) :
     (s.runToKept target).bellRec j = s.bellRec j := rfl
@[simp] theorem State.swingRec_runToKept (s : State) (target : Nat) (j : Nat) :
     (s.runToKept target).swingRec j = s.swingRec j := rfl
@[simp] theorem State.planRec_runToKept (s : State) (target : Nat) (j : Nat) :
     (s.runToKept target).planRec j = s.planRec j := rfl
@[simp] theorem State.tuneRec_runToKept (s : State) (target : Nat) (j : Nat) :
     (s.runToKept target).tuneRec j = s.tuneRec j := rfl
@[simp] theorem State.noteRec_runToKept (s : State) (target : Nat) (j : Nat) :
     (s.runToKept target).noteRec j = s.noteRec j := rfl
@[simp] theorem State.dialRec_runToKept (s : State) (target : Nat) (j : Nat) :
     (s.runToKept target).dialRec j = s.dialRec j := rfl
@[simp] theorem State.circuitRec_runToKept (s : State) (target : Nat) (j : Nat) :
     (s.runToKept target).circuitRec j = s.circuitRec j := rfl
@[simp] theorem State.sceneRec_runToKept (s : State) (target : Nat) (j : Nat) :
     (s.runToKept target).sceneRec j = s.sceneRec j := rfl
@[simp] theorem State.entryRec_runToKept (s : State) (target : Nat) (j : Nat) :
     (s.runToKept target).entryRec j = s.entryRec j := rfl
@[simp] theorem State.mainsNormal_runToKept (s : State) (target : Nat) :
     (s.runToKept target).mainsNormal = s.mainsNormal := rfl
@[simp] theorem State.accessClear_runToKept (s : State) (target : Nat) :
     (s.runToKept target).accessClear = s.accessClear := rfl
@[simp] theorem State.keyOn_runToKept (s : State) (target : Nat) : (s.runToKept target).keyOn = s.keyOn := rfl
@[simp] theorem State.running_runToKept (s : State) (target : Nat) : (s.runToKept target).running = s.running := rfl
@[simp] theorem State.ready_runToKept (s : State) (target : Nat) : (s.runToKept target).ready = s.ready := rfl
@[simp] theorem State.now_withTables (s : State) (v : Tables) : (s.withTables v).now = s.now := rfl
@[simp] theorem State.mainsNormal_withTables (s : State) (v : Tables) :
     (s.withTables v).mainsNormal = s.mainsNormal := rfl
@[simp] theorem State.accessClear_withTables (s : State) (v : Tables) :
     (s.withTables v).accessClear = s.accessClear := rfl
@[simp] theorem State.keyOn_withTables (s : State) (v : Tables) : (s.withTables v).keyOn = s.keyOn := rfl
@[simp] theorem State.running_withTables (s : State) (v : Tables) : (s.withTables v).running = s.running := rfl
@[simp] theorem State.ready_withTables (s : State) (v : Tables) : (s.withTables v).ready = s.ready := rfl
@[simp] theorem State.bellRec_withTime (s : State) (v : TimeBase) (j : Nat) :
     (s.withTime v).bellRec j = s.bellRec j := rfl
@[simp] theorem State.swingRec_withTime (s : State) (v : TimeBase) (j : Nat) :
     (s.withTime v).swingRec j = s.swingRec j := rfl
@[simp] theorem State.planRec_withTime (s : State) (v : TimeBase) (j : Nat) :
     (s.withTime v).planRec j = s.planRec j := rfl
@[simp] theorem State.tuneRec_withTime (s : State) (v : TimeBase) (j : Nat) :
     (s.withTime v).tuneRec j = s.tuneRec j := rfl
@[simp] theorem State.noteRec_withTime (s : State) (v : TimeBase) (j : Nat) :
     (s.withTime v).noteRec j = s.noteRec j := rfl
@[simp] theorem State.dialRec_withTime (s : State) (v : TimeBase) (j : Nat) :
     (s.withTime v).dialRec j = s.dialRec j := rfl
@[simp] theorem State.circuitRec_withTime (s : State) (v : TimeBase) (j : Nat) :
     (s.withTime v).circuitRec j = s.circuitRec j := rfl
@[simp] theorem State.sceneRec_withTime (s : State) (v : TimeBase) (j : Nat) :
     (s.withTime v).sceneRec j = s.sceneRec j := rfl
@[simp] theorem State.entryRec_withTime (s : State) (v : TimeBase) (j : Nat) :
     (s.withTime v).entryRec j = s.entryRec j := rfl
@[simp] theorem State.mainsNormal_withTime (s : State) (v : TimeBase) :
     (s.withTime v).mainsNormal = s.mainsNormal := rfl
@[simp] theorem State.accessClear_withTime (s : State) (v : TimeBase) :
     (s.withTime v).accessClear = s.accessClear := rfl
@[simp] theorem State.keyOn_withTime (s : State) (v : TimeBase) : (s.withTime v).keyOn = s.keyOn := rfl
@[simp] theorem State.running_withTime (s : State) (v : TimeBase) : (s.withTime v).running = s.running := rfl
@[simp] theorem State.ready_withTime (s : State) (v : TimeBase) : (s.withTime v).ready = s.ready := rfl
@[simp] theorem State.bellRec_withRefs (s : State) (v : RefMonitor) (j : Nat) :
     (s.withRefs v).bellRec j = s.bellRec j := rfl
@[simp] theorem State.swingRec_withRefs (s : State) (v : RefMonitor) (j : Nat) :
     (s.withRefs v).swingRec j = s.swingRec j := rfl
@[simp] theorem State.planRec_withRefs (s : State) (v : RefMonitor) (j : Nat) :
     (s.withRefs v).planRec j = s.planRec j := rfl
@[simp] theorem State.tuneRec_withRefs (s : State) (v : RefMonitor) (j : Nat) :
     (s.withRefs v).tuneRec j = s.tuneRec j := rfl
@[simp] theorem State.noteRec_withRefs (s : State) (v : RefMonitor) (j : Nat) :
     (s.withRefs v).noteRec j = s.noteRec j := rfl
@[simp] theorem State.dialRec_withRefs (s : State) (v : RefMonitor) (j : Nat) :
     (s.withRefs v).dialRec j = s.dialRec j := rfl
@[simp] theorem State.circuitRec_withRefs (s : State) (v : RefMonitor) (j : Nat) :
     (s.withRefs v).circuitRec j = s.circuitRec j := rfl
@[simp] theorem State.sceneRec_withRefs (s : State) (v : RefMonitor) (j : Nat) :
     (s.withRefs v).sceneRec j = s.sceneRec j := rfl
@[simp] theorem State.entryRec_withRefs (s : State) (v : RefMonitor) (j : Nat) :
     (s.withRefs v).entryRec j = s.entryRec j := rfl
@[simp] theorem State.now_withRefs (s : State) (v : RefMonitor) : (s.withRefs v).now = s.now := rfl
@[simp] theorem State.mainsNormal_withRefs (s : State) (v : RefMonitor) :
     (s.withRefs v).mainsNormal = s.mainsNormal := rfl
@[simp] theorem State.accessClear_withRefs (s : State) (v : RefMonitor) :
     (s.withRefs v).accessClear = s.accessClear := rfl
@[simp] theorem State.keyOn_withRefs (s : State) (v : RefMonitor) : (s.withRefs v).keyOn = s.keyOn := rfl
@[simp] theorem State.running_withRefs (s : State) (v : RefMonitor) : (s.withRefs v).running = s.running := rfl
@[simp] theorem State.ready_withRefs (s : State) (v : RefMonitor) : (s.withRefs v).ready = s.ready := rfl
@[simp] theorem State.bellRec_withDay (s : State) (v : DayProgramme) (j : Nat) :
     (s.withDay v).bellRec j = s.bellRec j := rfl
@[simp] theorem State.swingRec_withDay (s : State) (v : DayProgramme) (j : Nat) :
     (s.withDay v).swingRec j = s.swingRec j := rfl
@[simp] theorem State.planRec_withDay (s : State) (v : DayProgramme) (j : Nat) :
     (s.withDay v).planRec j = s.planRec j := rfl
@[simp] theorem State.tuneRec_withDay (s : State) (v : DayProgramme) (j : Nat) :
     (s.withDay v).tuneRec j = s.tuneRec j := rfl
@[simp] theorem State.noteRec_withDay (s : State) (v : DayProgramme) (j : Nat) :
     (s.withDay v).noteRec j = s.noteRec j := rfl
@[simp] theorem State.dialRec_withDay (s : State) (v : DayProgramme) (j : Nat) :
     (s.withDay v).dialRec j = s.dialRec j := rfl
@[simp] theorem State.circuitRec_withDay (s : State) (v : DayProgramme) (j : Nat) :
     (s.withDay v).circuitRec j = s.circuitRec j := rfl
@[simp] theorem State.sceneRec_withDay (s : State) (v : DayProgramme) (j : Nat) :
     (s.withDay v).sceneRec j = s.sceneRec j := rfl
@[simp] theorem State.entryRec_withDay (s : State) (v : DayProgramme) (j : Nat) :
     (s.withDay v).entryRec j = s.entryRec j := rfl
@[simp] theorem State.now_withDay (s : State) (v : DayProgramme) : (s.withDay v).now = s.now := rfl
@[simp] theorem State.mainsNormal_withDay (s : State) (v : DayProgramme) :
     (s.withDay v).mainsNormal = s.mainsNormal := rfl
@[simp] theorem State.accessClear_withDay (s : State) (v : DayProgramme) :
     (s.withDay v).accessClear = s.accessClear := rfl
@[simp] theorem State.keyOn_withDay (s : State) (v : DayProgramme) : (s.withDay v).keyOn = s.keyOn := rfl
@[simp] theorem State.running_withDay (s : State) (v : DayProgramme) : (s.withDay v).running = s.running := rfl
@[simp] theorem State.ready_withDay (s : State) (v : DayProgramme) : (s.withDay v).ready = s.ready := rfl
@[simp] theorem State.bellRec_withChime (s : State) (v : Chime) (j : Nat) :
     (s.withChime v).bellRec j = s.bellRec j := rfl
@[simp] theorem State.swingRec_withChime (s : State) (v : Chime) (j : Nat) :
     (s.withChime v).swingRec j = s.swingRec j := rfl
@[simp] theorem State.planRec_withChime (s : State) (v : Chime) (j : Nat) :
     (s.withChime v).planRec j = s.planRec j := rfl
@[simp] theorem State.tuneRec_withChime (s : State) (v : Chime) (j : Nat) :
     (s.withChime v).tuneRec j = s.tuneRec j := rfl
@[simp] theorem State.noteRec_withChime (s : State) (v : Chime) (j : Nat) :
     (s.withChime v).noteRec j = s.noteRec j := rfl
@[simp] theorem State.dialRec_withChime (s : State) (v : Chime) (j : Nat) :
     (s.withChime v).dialRec j = s.dialRec j := rfl
@[simp] theorem State.circuitRec_withChime (s : State) (v : Chime) (j : Nat) :
     (s.withChime v).circuitRec j = s.circuitRec j := rfl
@[simp] theorem State.sceneRec_withChime (s : State) (v : Chime) (j : Nat) :
     (s.withChime v).sceneRec j = s.sceneRec j := rfl
@[simp] theorem State.entryRec_withChime (s : State) (v : Chime) (j : Nat) :
     (s.withChime v).entryRec j = s.entryRec j := rfl
@[simp] theorem State.now_withChime (s : State) (v : Chime) : (s.withChime v).now = s.now := rfl
@[simp] theorem State.mainsNormal_withChime (s : State) (v : Chime) : (s.withChime v).mainsNormal = s.mainsNormal := rfl
@[simp] theorem State.accessClear_withChime (s : State) (v : Chime) : (s.withChime v).accessClear = s.accessClear := rfl
@[simp] theorem State.keyOn_withChime (s : State) (v : Chime) : (s.withChime v).keyOn = s.keyOn := rfl
@[simp] theorem State.running_withChime (s : State) (v : Chime) : (s.withChime v).running = s.running := rfl
@[simp] theorem State.ready_withChime (s : State) (v : Chime) : (s.withChime v).ready = s.ready := rfl
@[simp] theorem State.bellRec_withBells (s : State) (v : Table Bell) (j : Nat) :
     (s.withBells v).bellRec j = s.bellRec j := rfl
@[simp] theorem State.swingRec_withBells (s : State) (v : Table Bell) (j : Nat) :
     (s.withBells v).swingRec j = s.swingRec j := rfl
@[simp] theorem State.planRec_withBells (s : State) (v : Table Bell) (j : Nat) :
     (s.withBells v).planRec j = s.planRec j := rfl
@[simp] theorem State.tuneRec_withBells (s : State) (v : Table Bell) (j : Nat) :
     (s.withBells v).tuneRec j = s.tuneRec j := rfl
@[simp] theorem State.noteRec_withBells (s : State) (v : Table Bell) (j : Nat) :
     (s.withBells v).noteRec j = s.noteRec j := rfl
@[simp] theorem State.dialRec_withBells (s : State) (v : Table Bell) (j : Nat) :
     (s.withBells v).dialRec j = s.dialRec j := rfl
@[simp] theorem State.circuitRec_withBells (s : State) (v : Table Bell) (j : Nat) :
     (s.withBells v).circuitRec j = s.circuitRec j := rfl
@[simp] theorem State.sceneRec_withBells (s : State) (v : Table Bell) (j : Nat) :
     (s.withBells v).sceneRec j = s.sceneRec j := rfl
@[simp] theorem State.entryRec_withBells (s : State) (v : Table Bell) (j : Nat) :
     (s.withBells v).entryRec j = s.entryRec j := rfl
@[simp] theorem State.now_withBells (s : State) (v : Table Bell) : (s.withBells v).now = s.now := rfl
@[simp] theorem State.mainsNormal_withBells (s : State) (v : Table Bell) :
     (s.withBells v).mainsNormal = s.mainsNormal := rfl
@[simp] theorem State.accessClear_withBells (s : State) (v : Table Bell) :
     (s.withBells v).accessClear = s.accessClear := rfl
@[simp] theorem State.keyOn_withBells (s : State) (v : Table Bell) : (s.withBells v).keyOn = s.keyOn := rfl
@[simp] theorem State.running_withBells (s : State) (v : Table Bell) : (s.withBells v).running = s.running := rfl
@[simp] theorem State.ready_withBells (s : State) (v : Table Bell) : (s.withBells v).ready = s.ready := rfl
@[simp] theorem State.bellRec_withUnits (s : State) (v : Table SwingUnit) (j : Nat) :
     (s.withUnits v).bellRec j = s.bellRec j := rfl
@[simp] theorem State.swingRec_withUnits (s : State) (v : Table SwingUnit) (j : Nat) :
     (s.withUnits v).swingRec j = s.swingRec j := rfl
@[simp] theorem State.planRec_withUnits (s : State) (v : Table SwingUnit) (j : Nat) :
     (s.withUnits v).planRec j = s.planRec j := rfl
@[simp] theorem State.tuneRec_withUnits (s : State) (v : Table SwingUnit) (j : Nat) :
     (s.withUnits v).tuneRec j = s.tuneRec j := rfl
@[simp] theorem State.noteRec_withUnits (s : State) (v : Table SwingUnit) (j : Nat) :
     (s.withUnits v).noteRec j = s.noteRec j := rfl
@[simp] theorem State.dialRec_withUnits (s : State) (v : Table SwingUnit) (j : Nat) :
     (s.withUnits v).dialRec j = s.dialRec j := rfl
@[simp] theorem State.circuitRec_withUnits (s : State) (v : Table SwingUnit) (j : Nat) :
     (s.withUnits v).circuitRec j = s.circuitRec j := rfl
@[simp] theorem State.sceneRec_withUnits (s : State) (v : Table SwingUnit) (j : Nat) :
     (s.withUnits v).sceneRec j = s.sceneRec j := rfl
@[simp] theorem State.entryRec_withUnits (s : State) (v : Table SwingUnit) (j : Nat) :
     (s.withUnits v).entryRec j = s.entryRec j := rfl
@[simp] theorem State.now_withUnits (s : State) (v : Table SwingUnit) : (s.withUnits v).now = s.now := rfl
@[simp] theorem State.mainsNormal_withUnits (s : State) (v : Table SwingUnit) :
     (s.withUnits v).mainsNormal = s.mainsNormal := rfl
@[simp] theorem State.accessClear_withUnits (s : State) (v : Table SwingUnit) :
     (s.withUnits v).accessClear = s.accessClear := rfl
@[simp] theorem State.keyOn_withUnits (s : State) (v : Table SwingUnit) : (s.withUnits v).keyOn = s.keyOn := rfl
@[simp] theorem State.running_withUnits (s : State) (v : Table SwingUnit) : (s.withUnits v).running = s.running := rfl
@[simp] theorem State.ready_withUnits (s : State) (v : Table SwingUnit) : (s.withUnits v).ready = s.ready := rfl
@[simp] theorem State.bellRec_withRun (s : State) (v : PealRun) (j : Nat) : (s.withRun v).bellRec j = s.bellRec j := rfl
@[simp] theorem State.swingRec_withRun (s : State) (v : PealRun) (j : Nat) :
     (s.withRun v).swingRec j = s.swingRec j := rfl
@[simp] theorem State.planRec_withRun (s : State) (v : PealRun) (j : Nat) : (s.withRun v).planRec j = s.planRec j := rfl
@[simp] theorem State.tuneRec_withRun (s : State) (v : PealRun) (j : Nat) : (s.withRun v).tuneRec j = s.tuneRec j := rfl
@[simp] theorem State.noteRec_withRun (s : State) (v : PealRun) (j : Nat) : (s.withRun v).noteRec j = s.noteRec j := rfl
@[simp] theorem State.dialRec_withRun (s : State) (v : PealRun) (j : Nat) : (s.withRun v).dialRec j = s.dialRec j := rfl
@[simp] theorem State.circuitRec_withRun (s : State) (v : PealRun) (j : Nat) :
     (s.withRun v).circuitRec j = s.circuitRec j := rfl
@[simp] theorem State.sceneRec_withRun (s : State) (v : PealRun) (j : Nat) :
     (s.withRun v).sceneRec j = s.sceneRec j := rfl
@[simp] theorem State.entryRec_withRun (s : State) (v : PealRun) (j : Nat) :
     (s.withRun v).entryRec j = s.entryRec j := rfl
@[simp] theorem State.now_withRun (s : State) (v : PealRun) : (s.withRun v).now = s.now := rfl
@[simp] theorem State.mainsNormal_withRun (s : State) (v : PealRun) : (s.withRun v).mainsNormal = s.mainsNormal := rfl
@[simp] theorem State.accessClear_withRun (s : State) (v : PealRun) : (s.withRun v).accessClear = s.accessClear := rfl
@[simp] theorem State.keyOn_withRun (s : State) (v : PealRun) : (s.withRun v).keyOn = s.keyOn := rfl
@[simp] theorem State.running_withRun (s : State) (v : PealRun) : (s.withRun v).running = s.running := rfl
@[simp] theorem State.ready_withRun (s : State) (v : PealRun) : (s.withRun v).ready = s.ready := rfl
@[simp] theorem State.bellRec_withDials (s : State) (v : DialDriveState) (j : Nat) :
     (s.withDials v).bellRec j = s.bellRec j := rfl
@[simp] theorem State.swingRec_withDials (s : State) (v : DialDriveState) (j : Nat) :
     (s.withDials v).swingRec j = s.swingRec j := rfl
@[simp] theorem State.planRec_withDials (s : State) (v : DialDriveState) (j : Nat) :
     (s.withDials v).planRec j = s.planRec j := rfl
@[simp] theorem State.tuneRec_withDials (s : State) (v : DialDriveState) (j : Nat) :
     (s.withDials v).tuneRec j = s.tuneRec j := rfl
@[simp] theorem State.noteRec_withDials (s : State) (v : DialDriveState) (j : Nat) :
     (s.withDials v).noteRec j = s.noteRec j := rfl
@[simp] theorem State.dialRec_withDials (s : State) (v : DialDriveState) (j : Nat) :
     (s.withDials v).dialRec j = s.dialRec j := rfl
@[simp] theorem State.circuitRec_withDials (s : State) (v : DialDriveState) (j : Nat) :
     (s.withDials v).circuitRec j = s.circuitRec j := rfl
@[simp] theorem State.sceneRec_withDials (s : State) (v : DialDriveState) (j : Nat) :
     (s.withDials v).sceneRec j = s.sceneRec j := rfl
@[simp] theorem State.entryRec_withDials (s : State) (v : DialDriveState) (j : Nat) :
     (s.withDials v).entryRec j = s.entryRec j := rfl
@[simp] theorem State.now_withDials (s : State) (v : DialDriveState) : (s.withDials v).now = s.now := rfl
@[simp] theorem State.mainsNormal_withDials (s : State) (v : DialDriveState) :
     (s.withDials v).mainsNormal = s.mainsNormal := rfl
@[simp] theorem State.accessClear_withDials (s : State) (v : DialDriveState) :
     (s.withDials v).accessClear = s.accessClear := rfl
@[simp] theorem State.keyOn_withDials (s : State) (v : DialDriveState) : (s.withDials v).keyOn = s.keyOn := rfl
@[simp] theorem State.running_withDials (s : State) (v : DialDriveState) : (s.withDials v).running = s.running := rfl
@[simp] theorem State.ready_withDials (s : State) (v : DialDriveState) : (s.withDials v).ready = s.ready := rfl
@[simp] theorem State.bellRec_withFloods (s : State) (v : Floods) (j : Nat) :
     (s.withFloods v).bellRec j = s.bellRec j := rfl
@[simp] theorem State.swingRec_withFloods (s : State) (v : Floods) (j : Nat) :
     (s.withFloods v).swingRec j = s.swingRec j := rfl
@[simp] theorem State.planRec_withFloods (s : State) (v : Floods) (j : Nat) :
     (s.withFloods v).planRec j = s.planRec j := rfl
@[simp] theorem State.tuneRec_withFloods (s : State) (v : Floods) (j : Nat) :
     (s.withFloods v).tuneRec j = s.tuneRec j := rfl
@[simp] theorem State.noteRec_withFloods (s : State) (v : Floods) (j : Nat) :
     (s.withFloods v).noteRec j = s.noteRec j := rfl
@[simp] theorem State.dialRec_withFloods (s : State) (v : Floods) (j : Nat) :
     (s.withFloods v).dialRec j = s.dialRec j := rfl
@[simp] theorem State.circuitRec_withFloods (s : State) (v : Floods) (j : Nat) :
     (s.withFloods v).circuitRec j = s.circuitRec j := rfl
@[simp] theorem State.sceneRec_withFloods (s : State) (v : Floods) (j : Nat) :
     (s.withFloods v).sceneRec j = s.sceneRec j := rfl
@[simp] theorem State.entryRec_withFloods (s : State) (v : Floods) (j : Nat) :
     (s.withFloods v).entryRec j = s.entryRec j := rfl
@[simp] theorem State.now_withFloods (s : State) (v : Floods) : (s.withFloods v).now = s.now := rfl
@[simp] theorem State.mainsNormal_withFloods (s : State) (v : Floods) :
     (s.withFloods v).mainsNormal = s.mainsNormal := rfl
@[simp] theorem State.accessClear_withFloods (s : State) (v : Floods) :
     (s.withFloods v).accessClear = s.accessClear := rfl
@[simp] theorem State.keyOn_withFloods (s : State) (v : Floods) : (s.withFloods v).keyOn = s.keyOn := rfl
@[simp] theorem State.running_withFloods (s : State) (v : Floods) : (s.withFloods v).running = s.running := rfl
@[simp] theorem State.ready_withFloods (s : State) (v : Floods) : (s.withFloods v).ready = s.ready := rfl
@[simp] theorem State.bellRec_withLight (s : State) (v : Light) (j : Nat) :
     (s.withLight v).bellRec j = s.bellRec j := rfl
@[simp] theorem State.swingRec_withLight (s : State) (v : Light) (j : Nat) :
     (s.withLight v).swingRec j = s.swingRec j := rfl
@[simp] theorem State.planRec_withLight (s : State) (v : Light) (j : Nat) :
     (s.withLight v).planRec j = s.planRec j := rfl
@[simp] theorem State.tuneRec_withLight (s : State) (v : Light) (j : Nat) :
     (s.withLight v).tuneRec j = s.tuneRec j := rfl
@[simp] theorem State.noteRec_withLight (s : State) (v : Light) (j : Nat) :
     (s.withLight v).noteRec j = s.noteRec j := rfl
@[simp] theorem State.dialRec_withLight (s : State) (v : Light) (j : Nat) :
     (s.withLight v).dialRec j = s.dialRec j := rfl
@[simp] theorem State.circuitRec_withLight (s : State) (v : Light) (j : Nat) :
     (s.withLight v).circuitRec j = s.circuitRec j := rfl
@[simp] theorem State.sceneRec_withLight (s : State) (v : Light) (j : Nat) :
     (s.withLight v).sceneRec j = s.sceneRec j := rfl
@[simp] theorem State.entryRec_withLight (s : State) (v : Light) (j : Nat) :
     (s.withLight v).entryRec j = s.entryRec j := rfl
@[simp] theorem State.now_withLight (s : State) (v : Light) : (s.withLight v).now = s.now := rfl
@[simp] theorem State.mainsNormal_withLight (s : State) (v : Light) : (s.withLight v).mainsNormal = s.mainsNormal := rfl
@[simp] theorem State.accessClear_withLight (s : State) (v : Light) : (s.withLight v).accessClear = s.accessClear := rfl
@[simp] theorem State.keyOn_withLight (s : State) (v : Light) : (s.withLight v).keyOn = s.keyOn := rfl
@[simp] theorem State.running_withLight (s : State) (v : Light) : (s.withLight v).running = s.running := rfl
@[simp] theorem State.ready_withLight (s : State) (v : Light) : (s.withLight v).ready = s.ready := rfl
@[simp] theorem State.bellRec_withConverter (s : State) (v : Converter) (j : Nat) :
     (s.withConverter v).bellRec j = s.bellRec j := rfl
@[simp] theorem State.swingRec_withConverter (s : State) (v : Converter) (j : Nat) :
     (s.withConverter v).swingRec j = s.swingRec j := rfl
@[simp] theorem State.planRec_withConverter (s : State) (v : Converter) (j : Nat) :
     (s.withConverter v).planRec j = s.planRec j := rfl
@[simp] theorem State.tuneRec_withConverter (s : State) (v : Converter) (j : Nat) :
     (s.withConverter v).tuneRec j = s.tuneRec j := rfl
@[simp] theorem State.noteRec_withConverter (s : State) (v : Converter) (j : Nat) :
     (s.withConverter v).noteRec j = s.noteRec j := rfl
@[simp] theorem State.dialRec_withConverter (s : State) (v : Converter) (j : Nat) :
     (s.withConverter v).dialRec j = s.dialRec j := rfl
@[simp] theorem State.circuitRec_withConverter (s : State) (v : Converter) (j : Nat) :
     (s.withConverter v).circuitRec j = s.circuitRec j := rfl
@[simp] theorem State.sceneRec_withConverter (s : State) (v : Converter) (j : Nat) :
     (s.withConverter v).sceneRec j = s.sceneRec j := rfl
@[simp] theorem State.entryRec_withConverter (s : State) (v : Converter) (j : Nat) :
     (s.withConverter v).entryRec j = s.entryRec j := rfl
@[simp] theorem State.now_withConverter (s : State) (v : Converter) : (s.withConverter v).now = s.now := rfl
@[simp] theorem State.mainsNormal_withConverter (s : State) (v : Converter) :
     (s.withConverter v).mainsNormal = s.mainsNormal := rfl
@[simp] theorem State.accessClear_withConverter (s : State) (v : Converter) :
     (s.withConverter v).accessClear = s.accessClear := rfl
@[simp] theorem State.keyOn_withConverter (s : State) (v : Converter) : (s.withConverter v).keyOn = s.keyOn := rfl
@[simp] theorem State.running_withConverter (s : State) (v : Converter) : (s.withConverter v).running = s.running := rfl
@[simp] theorem State.ready_withConverter (s : State) (v : Converter) : (s.withConverter v).ready = s.ready := rfl
@[simp] theorem State.bellRec_withSupply (s : State) (v : Supply) (j : Nat) :
     (s.withSupply v).bellRec j = s.bellRec j := rfl
@[simp] theorem State.swingRec_withSupply (s : State) (v : Supply) (j : Nat) :
     (s.withSupply v).swingRec j = s.swingRec j := rfl
@[simp] theorem State.planRec_withSupply (s : State) (v : Supply) (j : Nat) :
     (s.withSupply v).planRec j = s.planRec j := rfl
@[simp] theorem State.tuneRec_withSupply (s : State) (v : Supply) (j : Nat) :
     (s.withSupply v).tuneRec j = s.tuneRec j := rfl
@[simp] theorem State.noteRec_withSupply (s : State) (v : Supply) (j : Nat) :
     (s.withSupply v).noteRec j = s.noteRec j := rfl
@[simp] theorem State.dialRec_withSupply (s : State) (v : Supply) (j : Nat) :
     (s.withSupply v).dialRec j = s.dialRec j := rfl
@[simp] theorem State.circuitRec_withSupply (s : State) (v : Supply) (j : Nat) :
     (s.withSupply v).circuitRec j = s.circuitRec j := rfl
@[simp] theorem State.sceneRec_withSupply (s : State) (v : Supply) (j : Nat) :
     (s.withSupply v).sceneRec j = s.sceneRec j := rfl
@[simp] theorem State.entryRec_withSupply (s : State) (v : Supply) (j : Nat) :
     (s.withSupply v).entryRec j = s.entryRec j := rfl
@[simp] theorem State.now_withSupply (s : State) (v : Supply) : (s.withSupply v).now = s.now := rfl
@[simp] theorem State.mainsNormal_withSupply (s : State) (v : Supply) :
     (s.withSupply v).mainsNormal = s.mainsNormal := rfl
@[simp] theorem State.accessClear_withSupply (s : State) (v : Supply) :
     (s.withSupply v).accessClear = s.accessClear := rfl
@[simp] theorem State.keyOn_withSupply (s : State) (v : Supply) : (s.withSupply v).keyOn = s.keyOn := rfl
@[simp] theorem State.running_withSupply (s : State) (v : Supply) : (s.withSupply v).running = s.running := rfl
@[simp] theorem State.ready_withSupply (s : State) (v : Supply) : (s.withSupply v).ready = s.ready := rfl
@[simp] theorem State.bellRec_withPower (s : State) (v : Power) (j : Nat) :
     (s.withPower v).bellRec j = s.bellRec j := rfl
@[simp] theorem State.swingRec_withPower (s : State) (v : Power) (j : Nat) :
     (s.withPower v).swingRec j = s.swingRec j := rfl
@[simp] theorem State.planRec_withPower (s : State) (v : Power) (j : Nat) :
     (s.withPower v).planRec j = s.planRec j := rfl
@[simp] theorem State.tuneRec_withPower (s : State) (v : Power) (j : Nat) :
     (s.withPower v).tuneRec j = s.tuneRec j := rfl
@[simp] theorem State.noteRec_withPower (s : State) (v : Power) (j : Nat) :
     (s.withPower v).noteRec j = s.noteRec j := rfl
@[simp] theorem State.dialRec_withPower (s : State) (v : Power) (j : Nat) :
     (s.withPower v).dialRec j = s.dialRec j := rfl
@[simp] theorem State.circuitRec_withPower (s : State) (v : Power) (j : Nat) :
     (s.withPower v).circuitRec j = s.circuitRec j := rfl
@[simp] theorem State.sceneRec_withPower (s : State) (v : Power) (j : Nat) :
     (s.withPower v).sceneRec j = s.sceneRec j := rfl
@[simp] theorem State.entryRec_withPower (s : State) (v : Power) (j : Nat) :
     (s.withPower v).entryRec j = s.entryRec j := rfl
@[simp] theorem State.now_withPower (s : State) (v : Power) : (s.withPower v).now = s.now := rfl
@[simp] theorem State.running_withPower (s : State) (v : Power) : (s.withPower v).running = s.running := rfl
@[simp] theorem State.ready_withPower (s : State) (v : Power) : (s.withPower v).ready = s.ready := rfl
@[simp] theorem State.bellRec_withStore (s : State) (v : Store) (j : Nat) :
     (s.withStore v).bellRec j = s.bellRec j := rfl
@[simp] theorem State.swingRec_withStore (s : State) (v : Store) (j : Nat) :
     (s.withStore v).swingRec j = s.swingRec j := rfl
@[simp] theorem State.planRec_withStore (s : State) (v : Store) (j : Nat) :
     (s.withStore v).planRec j = s.planRec j := rfl
@[simp] theorem State.tuneRec_withStore (s : State) (v : Store) (j : Nat) :
     (s.withStore v).tuneRec j = s.tuneRec j := rfl
@[simp] theorem State.noteRec_withStore (s : State) (v : Store) (j : Nat) :
     (s.withStore v).noteRec j = s.noteRec j := rfl
@[simp] theorem State.dialRec_withStore (s : State) (v : Store) (j : Nat) :
     (s.withStore v).dialRec j = s.dialRec j := rfl
@[simp] theorem State.circuitRec_withStore (s : State) (v : Store) (j : Nat) :
     (s.withStore v).circuitRec j = s.circuitRec j := rfl
@[simp] theorem State.sceneRec_withStore (s : State) (v : Store) (j : Nat) :
     (s.withStore v).sceneRec j = s.sceneRec j := rfl
@[simp] theorem State.entryRec_withStore (s : State) (v : Store) (j : Nat) :
     (s.withStore v).entryRec j = s.entryRec j := rfl
@[simp] theorem State.now_withStore (s : State) (v : Store) : (s.withStore v).now = s.now := rfl
@[simp] theorem State.mainsNormal_withStore (s : State) (v : Store) : (s.withStore v).mainsNormal = s.mainsNormal := rfl
@[simp] theorem State.accessClear_withStore (s : State) (v : Store) : (s.withStore v).accessClear = s.accessClear := rfl
@[simp] theorem State.keyOn_withStore (s : State) (v : Store) : (s.withStore v).keyOn = s.keyOn := rfl
@[simp] theorem State.running_withStore (s : State) (v : Store) : (s.withStore v).running = s.running := rfl
@[simp] theorem State.ready_withStore (s : State) (v : Store) : (s.withStore v).ready = s.ready := rfl
@[simp] theorem State.bellRec_withStart (s : State) (v : Start) (j : Nat) :
     (s.withStart v).bellRec j = s.bellRec j := rfl
@[simp] theorem State.swingRec_withStart (s : State) (v : Start) (j : Nat) :
     (s.withStart v).swingRec j = s.swingRec j := rfl
@[simp] theorem State.planRec_withStart (s : State) (v : Start) (j : Nat) :
     (s.withStart v).planRec j = s.planRec j := rfl
@[simp] theorem State.tuneRec_withStart (s : State) (v : Start) (j : Nat) :
     (s.withStart v).tuneRec j = s.tuneRec j := rfl
@[simp] theorem State.noteRec_withStart (s : State) (v : Start) (j : Nat) :
     (s.withStart v).noteRec j = s.noteRec j := rfl
@[simp] theorem State.dialRec_withStart (s : State) (v : Start) (j : Nat) :
     (s.withStart v).dialRec j = s.dialRec j := rfl
@[simp] theorem State.circuitRec_withStart (s : State) (v : Start) (j : Nat) :
     (s.withStart v).circuitRec j = s.circuitRec j := rfl
@[simp] theorem State.sceneRec_withStart (s : State) (v : Start) (j : Nat) :
     (s.withStart v).sceneRec j = s.sceneRec j := rfl
@[simp] theorem State.entryRec_withStart (s : State) (v : Start) (j : Nat) :
     (s.withStart v).entryRec j = s.entryRec j := rfl
@[simp] theorem State.now_withStart (s : State) (v : Start) : (s.withStart v).now = s.now := rfl
@[simp] theorem State.mainsNormal_withStart (s : State) (v : Start) : (s.withStart v).mainsNormal = s.mainsNormal := rfl
@[simp] theorem State.accessClear_withStart (s : State) (v : Start) : (s.withStart v).accessClear = s.accessClear := rfl
@[simp] theorem State.keyOn_withStart (s : State) (v : Start) : (s.withStart v).keyOn = s.keyOn := rfl
@[simp] theorem State.bellRec_withLink (s : State) (v : Link) (j : Nat) : (s.withLink v).bellRec j = s.bellRec j := rfl
@[simp] theorem State.swingRec_withLink (s : State) (v : Link) (j : Nat) :
     (s.withLink v).swingRec j = s.swingRec j := rfl
@[simp] theorem State.planRec_withLink (s : State) (v : Link) (j : Nat) : (s.withLink v).planRec j = s.planRec j := rfl
@[simp] theorem State.tuneRec_withLink (s : State) (v : Link) (j : Nat) : (s.withLink v).tuneRec j = s.tuneRec j := rfl
@[simp] theorem State.noteRec_withLink (s : State) (v : Link) (j : Nat) : (s.withLink v).noteRec j = s.noteRec j := rfl
@[simp] theorem State.dialRec_withLink (s : State) (v : Link) (j : Nat) : (s.withLink v).dialRec j = s.dialRec j := rfl
@[simp] theorem State.circuitRec_withLink (s : State) (v : Link) (j : Nat) :
     (s.withLink v).circuitRec j = s.circuitRec j := rfl
@[simp] theorem State.sceneRec_withLink (s : State) (v : Link) (j : Nat) :
     (s.withLink v).sceneRec j = s.sceneRec j := rfl
@[simp] theorem State.entryRec_withLink (s : State) (v : Link) (j : Nat) :
     (s.withLink v).entryRec j = s.entryRec j := rfl
@[simp] theorem State.now_withLink (s : State) (v : Link) : (s.withLink v).now = s.now := rfl
@[simp] theorem State.mainsNormal_withLink (s : State) (v : Link) : (s.withLink v).mainsNormal = s.mainsNormal := rfl
@[simp] theorem State.accessClear_withLink (s : State) (v : Link) : (s.withLink v).accessClear = s.accessClear := rfl
@[simp] theorem State.keyOn_withLink (s : State) (v : Link) : (s.withLink v).keyOn = s.keyOn := rfl
@[simp] theorem State.running_withLink (s : State) (v : Link) : (s.withLink v).running = s.running := rfl
@[simp] theorem State.ready_withLink (s : State) (v : Link) : (s.withLink v).ready = s.ready := rfl
@[simp] theorem State.bellRec_withAgenda (s : State) (v : List Msg) (j : Nat) :
     (s.withAgenda v).bellRec j = s.bellRec j := rfl
@[simp] theorem State.swingRec_withAgenda (s : State) (v : List Msg) (j : Nat) :
     (s.withAgenda v).swingRec j = s.swingRec j := rfl
@[simp] theorem State.planRec_withAgenda (s : State) (v : List Msg) (j : Nat) :
     (s.withAgenda v).planRec j = s.planRec j := rfl
@[simp] theorem State.tuneRec_withAgenda (s : State) (v : List Msg) (j : Nat) :
     (s.withAgenda v).tuneRec j = s.tuneRec j := rfl
@[simp] theorem State.noteRec_withAgenda (s : State) (v : List Msg) (j : Nat) :
     (s.withAgenda v).noteRec j = s.noteRec j := rfl
@[simp] theorem State.dialRec_withAgenda (s : State) (v : List Msg) (j : Nat) :
     (s.withAgenda v).dialRec j = s.dialRec j := rfl
@[simp] theorem State.circuitRec_withAgenda (s : State) (v : List Msg) (j : Nat) :
     (s.withAgenda v).circuitRec j = s.circuitRec j := rfl
@[simp] theorem State.sceneRec_withAgenda (s : State) (v : List Msg) (j : Nat) :
     (s.withAgenda v).sceneRec j = s.sceneRec j := rfl
@[simp] theorem State.entryRec_withAgenda (s : State) (v : List Msg) (j : Nat) :
     (s.withAgenda v).entryRec j = s.entryRec j := rfl
@[simp] theorem State.now_withAgenda (s : State) (v : List Msg) : (s.withAgenda v).now = s.now := rfl
@[simp] theorem State.mainsNormal_withAgenda (s : State) (v : List Msg) :
     (s.withAgenda v).mainsNormal = s.mainsNormal := rfl
@[simp] theorem State.accessClear_withAgenda (s : State) (v : List Msg) :
     (s.withAgenda v).accessClear = s.accessClear := rfl
@[simp] theorem State.keyOn_withAgenda (s : State) (v : List Msg) : (s.withAgenda v).keyOn = s.keyOn := rfl
@[simp] theorem State.running_withAgenda (s : State) (v : List Msg) : (s.withAgenda v).running = s.running := rfl
@[simp] theorem State.ready_withAgenda (s : State) (v : List Msg) : (s.withAgenda v).ready = s.ready := rfl

/-! ## The same object written twice -/

@[simp] theorem State.setBell_setBell (s : State) (b : Nat) (v w : Bell) :
    (s.setBell b v).setBell b w = s.setBell b w := by
  unfold State.setBell State.withBells; simp

@[simp] theorem State.setUnit_setUnit (s : State) (u : Nat) (v w : SwingUnit) :
    (s.setUnit u v).setUnit u w = s.setUnit u w := by
  unfold State.setUnit State.withUnits; simp

@[simp] theorem State.setDial_setDial (s : State) (d : Nat) (v w : Dial) :
    (s.setDial d v).setDial d w = s.setDial d w := by
  unfold State.setDial State.withDials; simp

@[simp] theorem State.setCircuit_setCircuit (s : State) (c : Nat) (v w : Circuit) :
    (s.setCircuit c v).setCircuit c w = s.setCircuit c w := by
  unfold State.setCircuit State.withFloods; simp

end Sys2Proof.Machine
end

