-- ==== Sys2Proof/Laws/Moves.lean ====
section
/-! SUPPORT. What handling a message can do, said once: `Moves s t` holds of every state `t` that the blocks' operations come
to from `s` inside a command. The tables, the reference monitor, the power monitor, the store, the start, the queue of
commands and elapsed time stand; the link interface's notices alone move; and whatever is sound of `s` is sound of `t`. -/

namespace Sys2Proof.Machine

/-- What the blocks' operations leave as it is, and what they keep. -/
structure Moves (s t : State) : Prop where
  tables : t.tables = s.tables
  refs : t.refs = s.refs
  power : t.power = s.power
  store : t.store = s.store
  start : t.start = s.start
  pending : t.pending = s.pending
  elapsed : t.time.elapsed = s.time.elapsed
  link : t.link =
    { s.link with notices := t.link.notices, overrun := t.link.overrun, lostCount := t.link.lostCount }
  queue : s.chime.queue.length ≤ Config.queuePlaces → t.chime.queue.length ≤ Config.queuePlaces
  notices : s.link.notices.length ≤ Config.noticePlaces → t.link.notices.length ≤ Config.noticePlaces
  supply : s.supplySound → t.supplySound
  dark : s.mainsNormal = false → s.dark → t.dark
  canon : s.objectsCanonical → t.objectsCanonical

theorem Moves.refl (s : State) : Moves s s :=
  ⟨rfl, rfl, rfl, rfl, rfl, rfl, rfl, rfl, id, id, id, fun _ h => h, id⟩

theorem Moves.mainsNormal {s t : State} (h : Moves s t) : t.mainsNormal = s.mainsNormal := by
  unfold State.mainsNormal; rw [h.power]

theorem Moves.trans {s t u : State} (h : Moves s t) (k : Moves t u) : Moves s u where
  tables := k.tables.trans h.tables
  refs := k.refs.trans h.refs
  power := k.power.trans h.power
  store := k.store.trans h.store
  start := k.start.trans h.start
  pending := k.pending.trans h.pending
  elapsed := k.elapsed.trans h.elapsed
  link := by rw [k.link, h.link]
  queue x := k.queue (h.queue x)
  notices x := k.notices (h.notices x)
  supply x := k.supply (h.supply x)
  dark m x := k.dark (h.mainsNormal.trans m) (h.dark m x)
  canon x := k.canon (h.canon x)

variable {s t : State}

/-! ## Updates of one field -/

theorem moves_withAgenda (h : Moves s t) (v : List Msg) : Moves s (t.withAgenda v) :=
  h.trans ⟨rfl, rfl, rfl, rfl, rfl, rfl, rfl, rfl, id, id, id, fun _ h => h, id⟩

theorem moves_post (h : Moves s t) (m : Msg) : Moves s (t.post m) := moves_withAgenda h _

theorem moves_postAll (h : Moves s t) (l : List Msg) : Moves s (t.postAll l) := moves_withAgenda h _

theorem moves_notify (h : Moves s t) (n : NoticeBody) : Moves s (t.notify n) := moves_post h _

theorem moves_withRun (h : Moves s t) (v : PealRun) : Moves s (t.withRun v) :=
  h.trans ⟨rfl, rfl, rfl, rfl, rfl, rfl, rfl, rfl, id, id, id, fun _ h => h, id⟩

theorem moves_withLight (h : Moves s t) (v : Light) : Moves s (t.withLight v) :=
  h.trans ⟨rfl, rfl, rfl, rfl, rfl, rfl, rfl, rfl, id, id, id, fun _ h => h, id⟩

theorem moves_withConverter (h : Moves s t) (v : Converter) : Moves s (t.withConverter v) :=
  h.trans ⟨rfl, rfl, rfl, rfl, rfl, rfl, rfl, rfl, id, id, id, fun _ h => h, id⟩

theorem moves_withTime (h : Moves s t) (v : TimeBase) (he : v.elapsed = t.time.elapsed) : Moves s (t.withTime v) :=
  h.trans ⟨rfl, rfl, rfl, rfl, rfl, rfl, he, rfl, id, id, id, fun _ h => h, id⟩

theorem moves_withDials (h : Moves s t) (v : DialDriveState) (hd : v.dials = t.dials.dials) :
    Moves s (t.withDials v) := by
  refine h.trans ⟨rfl, rfl, rfl, rfl, rfl, rfl, rfl, rfl, id, id, id, fun _ h => ⟨h.1, h.2.1, ?_, h.2.2.2⟩, fun h => ?_⟩
  · intro d hlt
    have := h.2.2.1 d hlt
    simpa [State.dial, hd] using this
  · simpa [State.objectsCanonical, hd] using h

theorem moves_withFloods (h : Moves s t) (v : Floods) (hc : v.circuits = t.floods.circuits) :
    Moves s (t.withFloods v) := by
  refine h.trans ⟨rfl, rfl, rfl, rfl, rfl, rfl, rfl, rfl, id, id, id, fun _ h => ⟨h.1, h.2.1, h.2.2.1, ?_⟩, fun h => ?_⟩
  · intro c hlt
    have := h.2.2.2 c hlt
    simpa [State.circuit, hc] using this
  · simpa [State.objectsCanonical, hc] using h

theorem moves_withDay (h : Moves s t) (v : DayProgramme)
    (hg : Table.wf none t.day.guards = true → Table.wf none v.guards = true) : Moves s (t.withDay v) :=
  h.trans ⟨rfl, rfl, rfl, rfl, rfl, rfl, rfl, rfl, id, id, id, fun _ h => h,
    fun h => ⟨h.1, h.2.1, h.2.2.1, h.2.2.2.1, h.2.2.2.2.1, hg h.2.2.2.2.2⟩⟩

theorem moves_withChime (h : Moves s t) (v : Chime) (hq : v.queue.length ≤ t.chime.queue.length) :
    Moves s (t.withChime v) :=
  h.trans ⟨rfl, rfl, rfl, rfl, rfl, rfl, rfl, rfl, fun x => hq.trans x, id, id, fun _ h => h, id⟩

theorem moves_withSupply (h : Moves s t) (v : Supply)
    (hs : t.supply.total ≤ t.tables.supply.budget → v.total ≤ t.tables.supply.budget)
    (hw : Table.wf 0 t.supply.grants = true → Table.wf 0 v.grants = true) : Moves s (t.withSupply v) :=
  h.trans ⟨rfl, rfl, rfl, rfl, rfl, rfl, rfl, rfl, id, id, hs, fun _ h => h, fun h => ⟨hw h.1, h.2⟩⟩

/-! ## Updates of one object -/

theorem moves_setBell (h : Moves s t) (b : Nat) (v : Bell)
    (hv : s.mainsNormal = false → s.dark → t.dark → b < 16 → v.hammer.pulses = false) : Moves s (t.setBell b v) where
  tables := h.tables
  refs := h.refs
  power := h.power
  store := h.store
  start := h.start
  pending := h.pending
  elapsed := h.elapsed
  link := h.link
  queue := h.queue
  notices := h.notices
  supply := h.supply
  dark m x := by
    have ht := h.dark m x
    refine ⟨fun i hi => ?_, ht.2⟩
    rw [State.bell_setBell]
    split
    · rename_i e; exact hv m x ht (e ▸ hi)
    · exact ht.1 i hi
  canon x := by
    have hc := h.canon x
    exact ⟨hc.1, Table.wf_put _ _ _ _ hc.2.1, hc.2.2⟩

theorem moves_setUnit (h : Moves s t) (u : Nat) (v : SwingUnit)
    (hv : s.mainsNormal = false → s.dark → t.dark → u < 6 → v.drive.impulsing = false) : Moves s (t.setUnit u v) where
  tables := h.tables
  refs := h.refs
  power := h.power
  store := h.store
  start := h.start
  pending := h.pending
  elapsed := h.elapsed
  link := h.link
  queue := h.queue
  notices := h.notices
  supply := h.supply
  dark m x := by
    have ht := h.dark m x
    refine ⟨ht.1, fun i hi => ?_, ht.2.2⟩
    rw [State.unit_setUnit]
    split
    · rename_i e; exact hv m x ht (e ▸ hi)
    · exact ht.2.1 i hi
  canon x := by
    have hc := h.canon x
    exact ⟨hc.1, hc.2.1, Table.wf_put _ _ _ _ hc.2.2.1, hc.2.2.2⟩

theorem moves_setDial (h : Moves s t) (d : Nat) (v : Dial)
    (hv : s.mainsNormal = false → s.dark → t.dark → d < 4 → v.drive.impulsing = false) : Moves s (t.setDial d v) where
  tables := h.tables
  refs := h.refs
  power := h.power
  store := h.store
  start := h.start
  pending := h.pending
  elapsed := h.elapsed
  link := h.link
  queue := h.queue
  notices := h.notices
  supply := h.supply
  dark m x := by
    have ht := h.dark m x
    refine ⟨ht.1, ht.2.1, fun i hi => ?_, ht.2.2.2⟩
    rw [State.dial_setDial]
    split
    · rename_i e; exact hv m x ht (e ▸ hi)
    · exact ht.2.2.1 i hi
  canon x := by
    have hc := h.canon x
    exact ⟨hc.1, hc.2.1, hc.2.2.1, Table.wf_put _ _ _ _ hc.2.2.2.1, hc.2.2.2.2⟩

theorem moves_setCircuit (h : Moves s t) (c : Nat) (v : Circuit)
    (hv : s.mainsNormal = false → s.dark → t.dark → c < 12 → v.state.lit = false) : Moves s (t.setCircuit c v) where
  tables := h.tables
  refs := h.refs
  power := h.power
  store := h.store
  start := h.start
  pending := h.pending
  elapsed := h.elapsed
  link := h.link
  queue := h.queue
  notices := h.notices
  supply := h.supply
  dark m x := by
    have ht := h.dark m x
    refine ⟨ht.1, ht.2.1, ht.2.2.1, fun i hi => ?_⟩
    rw [State.circuit_setCircuit]
    split
    · rename_i e; exact hv m x ht (e ▸ hi)
    · exact ht.2.2.2 i hi
  canon x := by
    have hc := h.canon x
    exact ⟨hc.1, hc.2.1, hc.2.2.1, hc.2.2.2.1, Table.wf_put _ _ _ _ hc.2.2.2.2.1, hc.2.2.2.2.2⟩

theorem moves_setGuard (h : Moves s t) (e : Nat) (v : Option Nat) : Moves s (t.setGuard e v) :=
  moves_withDay h _ fun x => Table.wf_put _ _ _ _ x

/-- A change made for each number of a list. -/
theorem moves_each (h : Moves s t) (l : List Nat) (f : Nat → State → State)
    (hf : ∀ i u, Moves s u → Moves s (f i u)) : Moves s (t.each l f) := by
  unfold State.each
  induction l generalizing t with
  | nil => exact h
  | cons i l ih => exact ih (hf i t h)

/-- A change made for each element of a list. -/
theorem moves_foldl {α : Type} (h : Moves s t) (l : List α) (f : State → α → State)
    (hf : ∀ u a, Moves s u → Moves s (f u a)) : Moves s (l.foldl f t) := by
  induction l generalizing t with
  | nil => exact h
  | cons a l ih => exact ih (hf t a h)

/-! ## The notice queue (R189) -/

theorem moves_takeNotice (h : Moves s t) (n : NoticeBody) : Moves s (t.takeNotice n) := by
  refine h.trans ?_
  unfold State.takeNotice
  split
  · exact Moves.refl t
  · split
    · rename_i hl
      refine ⟨rfl, rfl, rfl, rfl, rfl, rfl, rfl, rfl, id, fun _ => ?_, id, fun _ h => h, id⟩
      simp only [State.withLink_link, List.length_append, List.length_cons, List.length_nil]
      omega
    · exact ⟨rfl, rfl, rfl, rfl, rfl, rfl, rfl, rfl, id, id, id, fun _ h => h, id⟩

/-! ## The supply arbiter (R161, R162) -/

/-- The service grants within the budget (R161), and keeps the grant records' form. -/
theorem serviceWalk_sum (budget : Nat) (l : List SupplyRequest) (g : Table Nat) (hg : Table.sum g ≤ budget) :
    Table.sum (serviceWalk budget l g).grants ≤ budget := by
  induction l generalizing g with
  | nil => exact hg
  | cons r l ih =>
    unfold serviceWalk
    split
    · exact ih g hg
    · split
      · rename_i hfit
        refine ih _ ?_
        have := Table.sum_put_le g r.claimant.number (Table.get 0 g r.claimant.number + r.units)
        omega
      · exact hg

theorem serviceWalk_wf (budget : Nat) (l : List SupplyRequest) (g : Table Nat) (hg : Table.wf 0 g = true) :
    Table.wf 0 (serviceWalk budget l g).grants = true := by
  induction l generalizing g with
  | nil => exact hg
  | cons r l ih =>
    unfold serviceWalk
    split
    · exact ih g hg
    · split
      · exact ih _ (Table.wf_put _ _ _ _ hg)
      · exact hg

theorem moves_shedCheck (h : Moves s t) : Moves s t.shedCheck := by
  unfold State.shedCheck
  split
  · dsimp only
    refine moves_post (moves_notify (moves_withSupply h _ ?_ ?_) _) _
    · exact id
    · exact id
  · exact h

theorem moves_serve (h : Moves s t) : Moves s t.serve := by
  unfold State.serve
  have k : Moves s (t.withSupply { t.supply with
      waiting := (serviceWalk t.tables.supply.budget t.supply.waiting t.supply.grants).waiting
      grants := (serviceWalk t.tables.supply.budget t.supply.waiting t.supply.grants).grants }) :=
    moves_withSupply h _ (serviceWalk_sum _ _ _) (serviceWalk_wf _ _ _)
  dsimp only
  split
  · exact moves_shedCheck (moves_postAll k _)
  · exact moves_postAll k _

theorem moves_withdrawAll (h : Moves s t) (l : List Claimant) : Moves s (t.withdrawAll l) := by
  unfold State.withdrawAll
  split
  · dsimp only
    refine moves_serve ?_
    split
    · exact moves_shedCheck (moves_withSupply h _ id id)
    · exact moves_withSupply h _ id id
  · exact h

theorem moves_withdraw (h : Moves s t) (c : Claimant) : Moves s (t.withdraw c) := moves_withdrawAll h [c]

theorem moves_request (h : Moves s t) (c : Claimant) (n : Nat) : Moves s (t.request c n) := by
  unfold State.request
  have k : ∀ w : List SupplyRequest, Moves s ((t.withdraw c).withSupply { (t.withdraw c).supply with waiting := w }) :=
    fun w => moves_withSupply (moves_withdraw h c) _ id id
  dsimp only
  refine moves_serve ?_
  repeat' split
  all_goals first | exact k _ | exact moves_notify (k _) _

theorem moves_release (h : Moves s t) (c : Claimant) (n : Nat) : Moves s (t.release c n) := by
  unfold State.release
  split
  · exact h
  · refine moves_serve (moves_withSupply h _ (fun x => ?_) fun x => Table.wf_put _ _ _ _ x)
    have k := Table.sum_put_le t.supply.grants c.number (t.held c - n)
    have e : t.held c = Table.get 0 t.supply.grants c.number := rfl
    have y : Table.sum t.supply.grants ≤ t.tables.supply.budget := x
    show Table.sum (Table.put 0 t.supply.grants c.number (t.held c - n)) ≤ t.tables.supply.budget
    omega

theorem moves_releaseAll (h : Moves s t) (c : Claimant) : Moves s (t.releaseAll c) := moves_release h c _

theorem moves_supplyLoss (h : Moves s t) : Moves s (supplyLoss t) := by
  unfold supplyLoss
  have k : Moves s (t.withSupply { grants := [], waiting := [], shed := false }) :=
    moves_withSupply h _ (fun _ => Nat.zero_le _) fun _ => rfl
  dsimp only
  split
  · exact moves_post (moves_notify k _) _
  · exact k

theorem moves_beginConversion (h : Moves s t) :
    Moves s (t.beginConversion) := by
  unfold State.beginConversion
  try dsimp (config := { proj := false }) only
  repeat' first
    | (with_reducible exact h)
    | (with_reducible assumption)
    | (with_reducible apply moves_withConverter)
    | split

theorem moves_queueConversion (h : Moves s t) (c : Conversion) :
    Moves s (t.queueConversion c) := by
  unfold State.queueConversion
  try dsimp (config := { proj := false }) only
  repeat' first
    | (with_reducible exact h)
    | (with_reducible assumption)
    | (with_reducible apply moves_beginConversion)
    | (with_reducible apply moves_withConverter)

theorem moves_discardStale (h : Moves s t) (b : Nat) :
    Moves s (t.discardStale b) := by
  unfold State.discardStale
  try dsimp (config := { proj := false }) only
  repeat' first
    | (with_reducible exact h)
    | (with_reducible assumption)
    | (with_reducible apply moves_withConverter)

theorem moves_converterLoss (h : Moves s t) :
    Moves s (converterLoss t) := by
  unfold converterLoss
  try dsimp (config := { proj := false }) only
  repeat' first
    | (with_reducible exact h)
    | (with_reducible assumption)
    | (with_reducible apply moves_withConverter)

theorem moves_leaveQueue (h : Moves s t) (id : Nat) :
    Moves s (t.leaveQueue id) := by
  unfold State.leaveQueue
  try dsimp (config := { proj := false }) only
  repeat' first
    | (with_reducible exact h)
    | (with_reducible assumption)
    | (with_reducible refine moves_withChime ?_ _ ?_)
    | (simp [List.length_filter_le])

theorem moves_drop (h : Moves s t) (p : Perf) (reason : DropReason) :
    Moves s (t.drop p reason) := by
  unfold State.drop
  try dsimp (config := { proj := false }) only
  repeat' first
    | (with_reducible exact h)
    | (with_reducible assumption)
    | (with_reducible apply moves_leaveQueue)
    | (with_reducible apply moves_notify)

theorem moves_dropOffer (h : Moves s t) (p : Perf) (reason : DropReason) :
    Moves s (t.dropOffer p reason) := by
  unfold State.dropOffer
  try dsimp (config := { proj := false }) only
  repeat' first
    | (with_reducible exact h)
    | (with_reducible assumption)
    | (with_reducible apply moves_notify)

theorem moves_onPlaying (h : Moves s t) (f : Perf → Perf) :
    Moves s (t.onPlaying f) := by
  unfold State.onPlaying
  try dsimp (config := { proj := false }) only
  repeat' first
    | (with_reducible exact h)
    | (with_reducible assumption)
    | (with_reducible refine moves_withChime ?_ _ ?_)
    | (simp)

theorem moves_setPlaying (h : Moves s t) (f : Playing → Playing) :
    Moves s (t.setPlaying f) := by
  unfold State.setPlaying
  try dsimp (config := { proj := false }) only
  repeat' first
    | (with_reducible exact h)
    | (with_reducible assumption)
    | (with_reducible refine moves_withChime ?_ _ ?_)
    | (simp)

theorem moves_sound (h : Moves s t) :
    Moves s (t.sound) := by
  unfold State.sound
  try dsimp (config := { proj := false }) only
  repeat' first
    | (with_reducible exact h)
    | (with_reducible assumption)
    | (with_reducible apply moves_setPlaying)
    | split

theorem moves_setOutstanding (h : Moves s t) (l : List Nat) (dealing : Bool) :
    Moves s (t.setOutstanding l dealing) := by
  unfold State.setOutstanding
  try dsimp (config := { proj := false }) only
  repeat' first
    | (with_reducible exact h)
    | (with_reducible assumption)
    | (with_reducible apply moves_setPlaying)
    | (with_reducible apply moves_sound)
    | split

theorem moves_blowTaken (h : Moves s t) (b : Nat) :
    Moves s (t.blowTaken b) := by
  unfold State.blowTaken
  try dsimp (config := { proj := false }) only
  repeat' first
    | (with_reducible exact h)
    | (with_reducible assumption)
    | (with_reducible apply moves_setOutstanding)
    | split

theorem moves_blowEnds (h : Moves s t) (b : Nat) :
    Moves s (t.blowEnds b) := by
  unfold State.blowEnds
  try dsimp (config := { proj := false }) only
  repeat' first
    | (with_reducible exact h)
    | (with_reducible assumption)
    | (with_reducible apply moves_setOutstanding)
    | split

theorem moves_blowFaulted (h : Moves s t) (b : Nat) :
    Moves s (t.blowFaulted b) := by
  unfold State.blowFaulted
  try dsimp (config := { proj := false }) only
  repeat' first
    | (with_reducible exact h)
    | (with_reducible assumption)
    | (with_reducible apply moves_blowEnds)
    | (with_reducible apply moves_onPlaying)
    | (with_reducible apply moves_setPlaying)
    | split

theorem moves_blowClipped (h : Moves s t) (b : Nat) :
    Moves s (t.blowClipped b) := by
  unfold State.blowClipped
  try dsimp (config := { proj := false }) only
  repeat' first
    | (with_reducible exact h)
    | (with_reducible assumption)
    | (with_reducible apply moves_blowEnds)
    | (with_reducible apply moves_onPlaying)

theorem moves_noteDealt (h : Moves s t) :
    Moves s (noteDealt t) := by
  unfold noteDealt
  try dsimp (config := { proj := false }) only
  repeat' first
    | (with_reducible exact h)
    | (with_reducible assumption)
    | (with_reducible apply moves_setOutstanding)
    | split

theorem moves_requestNote (h : Moves s t) : Moves s t.requestNote := by
  unfold State.requestNote
  split
  · refine moves_post (moves_foldl (moves_setPlaying h _) _ _ fun u b hu => ?_) _
    split
    · exact moves_onPlaying hu _
    · exact moves_post hu _
  · exact h

theorem moves_completeRelease (h : Moves s t) (b : Nat) :
    Moves s (completeRelease b t) := by
  unfold completeRelease
  try dsimp (config := { proj := false }) only
  repeat' first
    | (with_reducible exact h)
    | (with_reducible assumption)
    | (with_reducible apply moves_post)
    | (with_reducible refine moves_setBell ?_ _ _ ?_)
    | (intro hm hs ht hb
       first
         | (with_reducible rfl)
         | (simp only [Hammer.pulses]; done)
         | exact ht.1 _ hb)
    | split

theorem moves_releaseBell (h : Moves s t) (b : Nat) :
    Moves s (releaseBell b t) := by
  unfold releaseBell
  try dsimp (config := { proj := false }) only
  repeat' first
    | (with_reducible exact h)
    | (with_reducible assumption)
    | (with_reducible apply moves_completeRelease)
    | (with_reducible refine moves_setBell ?_ _ _ ?_)
    | (intro hm hs ht hb
       first
         | (with_reducible rfl)
         | (simp only [Hammer.pulses]; done)
         | exact ht.1 _ hb)
    | split

/-- A blow's end brings no hammer into PULSE. -/
theorem Bell.endBlows_pulses (w : Bell) (id : Nat) : (w.endBlows id).hammer.pulses = w.hammer.pulses := by
  cases w with
  | mk claim pending hammer held releasing fault newMark opens reading =>
    cases hammer with
    | waiting v i =>
      show Hammer.pulses (if i = id then .idle else .waiting v i) = false
      split <;> rfl
    | _ => rfl

theorem moves_releaseBells (h : Moves s t) (bells : List Nat) (id : Nat) : Moves s (releaseBells bells id t) := by
  unfold releaseBells
  dsimp only
  refine moves_each (moves_withdrawAll (moves_each h _ _ fun b u hu => ?_) _) _ _ fun b u hu => moves_releaseBell hu b
  exact moves_setBell hu _ _ fun _ _ ht hb => (Bell.endBlows_pulses _ _).trans (ht.1 _ hb)

theorem moves_moveClaim (h : Moves s t) (u : Nat) (c : Claim) :
    Moves s (t.moveClaim u c) := by
  unfold State.moveClaim
  try dsimp (config := { proj := false }) only
  repeat' first
    | (with_reducible exact h)
    | (with_reducible assumption)
    | (with_reducible apply moves_post)
    | (with_reducible refine moves_setBell ?_ _ _ ?_)
    | (intro hm hs ht hb
       first
         | (with_reducible rfl)
         | (simp only [Hammer.pulses]; done)
         | exact ht.1 _ hb)
    | split

theorem moves_answerRefused (h : Moves s t) (b : Nat) (r : Refused) : Moves s (t.answerRefused b r) := by
  unfold State.answerRefused
  split
  · exact moves_blowFaulted h b
  · exact moves_blowEnds h b

theorem moves_takeBlow (h : Moves s t) (b : Nat) (v : Velocity) (id : Nat) :
    Moves s (t.takeBlow b v id) := by
  unfold State.takeBlow
  try dsimp (config := { proj := false }) only
  repeat' first
    | (with_reducible exact h)
    | (with_reducible assumption)
    | (with_reducible apply moves_request)
    | (with_reducible refine moves_setBell ?_ _ _ ?_)
    | (intro hm hs ht hb
       first
         | (with_reducible rfl)
         | (simp only [Hammer.pulses]))

theorem moves_blowRequest (h : Moves s t) (b : Nat) (v : Velocity) (id : Nat) :
    Moves s (blowRequest b v id t) := by
  unfold blowRequest
  try dsimp (config := { proj := false }) only
  repeat' first
    | (with_reducible exact h)
    | (with_reducible assumption)
    | (with_reducible apply moves_answerRefused)
    | (with_reducible apply moves_blowTaken)
    | (with_reducible refine moves_setBell ?_ _ _ ?_)
    | (with_reducible apply moves_takeBlow)
    | (intro hm hs ht hb
       first
         | (with_reducible rfl)
         | (simp only [Hammer.pulses]; done)
         | exact ht.1 _ hb)
    | split

theorem moves_hammerGranted (h : Moves s t) (b units : Nat) : Moves s (hammerGranted b units t) := by
  unfold hammerGranted
  split
  · split
    · exact moves_answerRefused (moves_release (moves_setBell h _ _ fun _ _ _ _ => rfl) _ _) _ _
    · rename_i e
      refine moves_blowEnds (moves_setBell h _ _ fun hm _ _ _ => ?_) _
      rw [← h.mainsNormal] at hm
      unfold State.refusal at e
      simp only [hm] at e
      repeat' split at e
      all_goals simp_all
  · exact moves_release h _ _

theorem moves_pulseOver (h : Moves s t) (b : Nat) :
    Moves s (t.pulseOver b) := by
  unfold State.pulseOver
  try dsimp (config := { proj := false }) only
  repeat' first
    | (with_reducible exact h)
    | (with_reducible assumption)
    | (with_reducible apply moves_completeRelease)
    | (with_reducible apply moves_discardStale)
    | (with_reducible apply moves_post)
    | (with_reducible refine moves_setBell ?_ _ _ ?_)
    | (intro hm hs ht hb
       first
         | (with_reducible rfl)
         | (simp only [Hammer.pulses]))
    | split

theorem moves_pulseEnds (h : Moves s t) (b : Nat) :
    Moves s (t.pulseEnds b) := by
  unfold State.pulseEnds
  try dsimp (config := { proj := false }) only
  repeat' first
    | (with_reducible exact h)
    | (with_reducible assumption)
    | (with_reducible apply moves_pulseOver)
    | (with_reducible apply moves_releaseAll)

theorem moves_refuseHeld (h : Moves s t) (b : Nat) (r : Refused) :
    Moves s (t.refuseHeld b r) := by
  unfold State.refuseHeld
  try dsimp (config := { proj := false }) only
  repeat' first
    | (with_reducible exact h)
    | (with_reducible assumption)
    | (with_reducible apply moves_answerRefused)
    | (with_reducible refine moves_setBell ?_ _ _ ?_)
    | (intro hm hs ht hb
       first
         | (with_reducible rfl)
         | (simp only [Hammer.pulses]; done)
         | exact ht.1 _ hb)
    | split

theorem moves_withdrawBlow (h : Moves s t) (b id : Nat) :
    Moves s (withdrawBlow b id t) := by
  unfold withdrawBlow
  try dsimp (config := { proj := false }) only
  repeat' first
    | (with_reducible exact h)
    | (with_reducible assumption)
    | (with_reducible apply moves_blowClipped)
    | (with_reducible apply moves_blowEnds)
    | (with_reducible refine moves_setBell ?_ _ _ ?_)
    | (with_reducible apply moves_withdraw)
    | (intro hm hs ht hb
       first
         | (with_reducible rfl)
         | (simp only [Hammer.pulses]; done)
         | exact ht.1 _ hb)
    | split

theorem moves_accessHammer (h : Moves s t) (b : Nat) :
    Moves s (accessHammer b t) := by
  unfold accessHammer
  try dsimp (config := { proj := false }) only
  repeat' first
    | (with_reducible exact h)
    | (with_reducible assumption)
    | (with_reducible apply moves_answerRefused)
    | (with_reducible apply moves_refuseHeld)
    | (with_reducible refine moves_setBell ?_ _ _ ?_)
    | (with_reducible apply moves_withdraw)
    | (intro hm hs ht hb
       first
         | (with_reducible rfl)
         | (simp only [Hammer.pulses]))
    | split

theorem moves_accessBells (h : Moves s t) :
    Moves s (accessBells t) := by
  unfold accessBells
  try dsimp (config := { proj := false }) only
  repeat' first
    | (with_reducible exact h)
    | (with_reducible assumption)
    | (with_reducible apply moves_accessHammer)
    | (with_reducible refine moves_each ?_ _ _ (fun i u hu => ?_))
    | (with_reducible apply moves_postAll)
    | split

theorem moves_lossHammer (h : Moves s t) (b : Nat) :
    Moves s (lossHammer b t) := by
  unfold lossHammer
  try dsimp (config := { proj := false }) only
  repeat' first
    | (with_reducible exact h)
    | (with_reducible assumption)
    | (with_reducible apply moves_answerRefused)
    | (with_reducible apply moves_pulseOver)
    | (with_reducible apply moves_refuseHeld)
    | (with_reducible refine moves_setBell ?_ _ _ ?_)
    | (intro hm hs ht hb
       first
         | (with_reducible rfl)
         | (simp only [Hammer.pulses]))
    | split

theorem moves_lossBells (h : Moves s t) :
    Moves s (lossBells t) := by
  unfold lossBells
  try dsimp (config := { proj := false }) only
  repeat' first
    | (with_reducible exact h)
    | (with_reducible assumption)
    | (with_reducible refine moves_each ?_ _ _ (fun i u hu => ?_))
    | (with_reducible apply moves_lossHammer)
    | (with_reducible apply moves_postAll)

/-- Striking claims touch the claims alone (R49). -/
theorem moves_claimBells (h : Moves s t) {id : Nat} {l : List Nat} {u : State} (e : t.claimBells id l = some u) :
    Moves s u := by
  unfold State.claimBells at e
  split at e
  · cases e
    refine moves_each h _ _ fun i w hw => moves_setBell hw _ _ fun hm hs ht hb => ?_
    exact ht.1 _ hb
  · cases e

theorem moves_tryHead (h : Moves s t) (p : Perf) : Moves s (t.tryHead p) := by
  unfold State.tryHead
  split
  · exact moves_drop h _ _
  · split
    · exact moves_withChime h _ (by simp)
    · rename_i e
      exact moves_requestNote (moves_notify (moves_withChime (moves_claimBells h e) _ (by simp)) _)

theorem moves_strikeableReport (h : Moves s t) (b : Nat) :
    Moves s (strikeableReport b t) := by
  unfold strikeableReport
  try dsimp (config := { proj := false }) only
  repeat' first
    | (with_reducible exact h)
    | (with_reducible assumption)
    | (with_reducible apply moves_tryHead)
    | split

theorem moves_endPlaying (h : Moves s t) (reason : EndReason) :
    Moves s (t.endPlaying reason) := by
  unfold State.endPlaying
  try dsimp (config := { proj := false }) only
  repeat' first
    | (with_reducible exact h)
    | (with_reducible assumption)
    | (with_reducible apply moves_post)
    | (with_reducible apply moves_postAll)
    | (with_reducible apply moves_release)
    | (with_reducible apply moves_setPlaying)
    | split

theorem moves_releaseCheck (h : Moves s t) :
    Moves s (releaseCheck t) := by
  unfold releaseCheck
  try dsimp (config := { proj := false }) only
  repeat' first
    | (with_reducible exact h)
    | (with_reducible assumption)
    | (with_reducible apply moves_leaveQueue)
    | (with_reducible apply moves_notify)
    | (with_reducible refine moves_withChime ?_ _ ?_)
    | (simp; done)
    | split

theorem moves_abortPlaying (h : Moves s t) (reason : EndReason) (id : Option Nat) :
    Moves s (abortPlaying reason id t) := by
  unfold abortPlaying
  try dsimp (config := { proj := false }) only
  repeat' first
    | (with_reducible exact h)
    | (with_reducible assumption)
    | (with_reducible apply moves_endPlaying)
    | split

theorem insertPerf_length (p : Perf) (l : List Perf) : (insertPerf p l).length = l.length + 1 := by
  induction l with
  | nil => rfl
  | cons q l ih => unfold insertPerf; split <;> simp [ih]

theorem judgeOffer_room {p : Perf} {id : Nat} (e : t.judgeOffer p = .accepted id) :
    t.chime.queue.length < Config.queuePlaces := by
  unfold State.judgeOffer at e
  repeat' split at e
  all_goals first | omega | cases e

theorem moves_offer (h : Moves s t) (p : Perf) : Moves s (t.offer p).1 := by
  unfold State.offer
  split
  · rename_i e
    have room := judgeOffer_room e
    refine h.trans ⟨rfl, rfl, rfl, rfl, rfl, rfl, rfl, rfl, fun _ => ?_, id, id, fun _ h => h, id⟩
    simp only [State.withChime_chime, insertPerf_length]
    omega
  · exact h

theorem moves_generate (h : Moves s t) (quarter civil : Nat) (k : PerfKind × PerfArgs) :
    Moves s (t.generate quarter civil k) := by
  unfold State.generate
  split
  · exact moves_notify h _
  · dsimp only
    have ho := moves_offer h (t.makePerf k.1 k.2 .generator none t.now)
    split <;> rename_i e <;> rw [e] at ho
    · exact ho
    · exact moves_dropOffer ho _ _
    · exact moves_dropOffer ho _ _

theorem moves_takeQuarter (h : Moves s t) (quarter civil : Nat) : Moves s (takeQuarter quarter civil t) := by
  unfold takeQuarter
  split
  · exact h
  · have k : Moves s (t.withChime { t.chime with quarterGuard := some quarter }) := moves_withChime h _ (Nat.le_refl _)
    dsimp only
    split
    · exact moves_foldl k _ _ fun u b hu => moves_generate hu _ _ _
    · exact moves_foldl k _ _ fun u b hu => moves_notify hu _

theorem moves_minuteStrike (h : Moves s t) (minute : Nat) :
    Moves s (minuteStrike minute t) := by
  unfold minuteStrike
  try dsimp (config := { proj := false }) only
  repeat' first
    | (with_reducible exact h)
    | (with_reducible assumption)
    | (with_reducible apply moves_takeQuarter)
    | split

theorem moves_stepStrike (h : Moves s t) (old new : Nat) :
    Moves s (stepStrike old new t) := by
  unfold stepStrike
  try dsimp (config := { proj := false }) only
  repeat' first
    | (with_reducible exact h)
    | (with_reducible assumption)
    | (with_reducible apply moves_takeQuarter)
    | split

theorem moves_timeSetStrike (h : Moves s t) (civil : Nat) :
    Moves s (timeSetStrike civil t) := by
  unfold timeSetStrike
  try dsimp (config := { proj := false }) only
  repeat' first
    | (with_reducible exact h)
    | (with_reducible assumption)
    | (with_reducible apply moves_takeQuarter)

theorem moves_readyStrike (h : Moves s t) :
    Moves s (readyStrike t) := by
  unfold readyStrike
  try dsimp (config := { proj := false }) only
  repeat' first
    | (with_reducible exact h)
    | (with_reducible assumption)
    | (with_reducible apply moves_timeSetStrike)
    | split

theorem moves_unitNotice (h : Moves s t) (u : Nat) (old : UnitState) (cause : UnitCause) :
    Moves s (t.unitNotice u old cause) := by
  unfold State.unitNotice
  try dsimp (config := { proj := false }) only
  repeat' first
    | (with_reducible exact h)
    | (with_reducible assumption)
    | (with_reducible apply moves_notify)

theorem moves_pendingNotice (h : Moves s t) (u : Nat) (failed : Option FailReason) :
    Moves s (t.pendingNotice u failed) := by
  unfold State.pendingNotice
  try dsimp (config := { proj := false }) only
  repeat' first
    | (with_reducible exact h)
    | (with_reducible assumption)
    | (with_reducible apply moves_notify)

theorem moves_askImpulse (h : Moves s t) (u : Nat) (dir : Dir) (kick braking : Bool) :
    Moves s (t.askImpulse u dir kick braking) := by
  unfold State.askImpulse
  try dsimp (config := { proj := false }) only
  repeat' first
    | (with_reducible exact h)
    | (with_reducible assumption)
    | (with_reducible apply moves_request)
    | (with_reducible refine moves_setUnit ?_ _ _ ?_)
    | (intro hm hs ht hb
       first
         | (with_reducible rfl)
         | (simp only [Drive.impulsing]))
    | split

theorem moves_swingGranted (h : Moves s t) (u units : Nat) : Moves s (swingGranted u units t) := by
  unfold swingGranted
  dsimp only
  split
  · split
    · rename_i e
      refine moves_setUnit h _ _ fun hm _ _ _ => ?_
      rw [← h.mainsNormal] at hm
      simp [hm] at e
    · exact moves_release (moves_setUnit h _ _ fun _ _ _ _ => rfl) _ _
  · exact moves_release h _ _

theorem moves_cutDrive (h : Moves s t) (u : Nat) :
    Moves s (t.cutDrive u) := by
  unfold State.cutDrive
  try dsimp (config := { proj := false }) only
  repeat' first
    | (with_reducible exact h)
    | (with_reducible assumption)
    | (with_reducible apply moves_releaseAll)
    | (with_reducible refine moves_setUnit ?_ _ _ ?_)
    | (with_reducible apply moves_withdraw)
    | (intro hm hs ht hb
       first
         | (with_reducible rfl)
         | (simp only [Drive.impulsing]))
    | split

theorem moves_enterRaising (h : Moves s t) (u : Nat) (owner : Owner) (minutes : Nat) (cause : UnitCause) :
    Moves s (t.enterRaising u owner minutes cause) := by
  unfold State.enterRaising
  try dsimp (config := { proj := false }) only
  repeat' first
    | (with_reducible exact h)
    | (with_reducible assumption)
    | (with_reducible apply moves_askImpulse)
    | (with_reducible refine moves_setUnit ?_ _ _ ?_)
    | (with_reducible apply moves_unitNotice)
    | (intro hm hs ht hb
       first
         | (with_reducible rfl)
         | (simp only [Drive.impulsing]; done)
         | exact ht.2.1 _ hb)
    | split

theorem moves_lowerUnit (h : Moves s t) (u : Nat) (kind : LowKind) (cause : UnitCause) :
    Moves s (t.lowerUnit u kind cause) := by
  unfold State.lowerUnit
  try dsimp (config := { proj := false }) only
  repeat' first
    | (with_reducible exact h)
    | (with_reducible assumption)
    | (with_reducible refine moves_setUnit ?_ _ _ ?_)
    | (with_reducible apply moves_unitNotice)
    | (intro hm hs ht hb
       first
         | (with_reducible rfl)
         | (simp only [Drive.impulsing]; done)
         | exact ht.2.1 _ hb)

theorem moves_stopUnit (h : Moves s t) (u : Nat) (kind : LowKind) (cause : UnitCause) :
    Moves s (t.stopUnit u kind cause) := by
  unfold State.stopUnit
  try dsimp (config := { proj := false }) only
  repeat' first
    | (with_reducible exact h)
    | (with_reducible assumption)
    | (with_reducible apply moves_cutDrive)
    | (with_reducible apply moves_lowerUnit)
    | split

theorem moves_unitHanded (h : Moves s t) (u : Nat) :
    Moves s (unitHanded u t) := by
  unfold unitHanded
  try dsimp (config := { proj := false }) only
  repeat' first
    | (with_reducible exact h)
    | (with_reducible assumption)
    | (with_reducible apply moves_enterRaising)
    | split

theorem moves_failStart (h : Moves s t) (u : Nat) (reason : FailReason) :
    Moves s (t.failStart u reason) := by
  unfold State.failStart
  try dsimp (config := { proj := false }) only
  repeat' first
    | (with_reducible exact h)
    | (with_reducible assumption)
    | (with_reducible apply moves_pendingNotice)
    | (with_reducible refine moves_setUnit ?_ _ _ ?_)
    | (intro hm hs ht hb
       first
         | (with_reducible rfl)
         | (simp only [Drive.impulsing]; done)
         | exact ht.2.1 _ hb)

theorem moves_unitFailed (h : Moves s t) (u : Nat) (reason : FailReason) :
    Moves s (unitFailed u reason t) := by
  unfold unitFailed
  try dsimp (config := { proj := false }) only
  repeat' first
    | (with_reducible exact h)
    | (with_reducible assumption)
    | (with_reducible apply moves_failStart)
    | split

theorem moves_cancelPending (h : Moves s t) (u : Nat) : Moves s (t.cancelPending u).1 := by
  unfold State.cancelPending
  split
  · split
    · exact moves_setBell h _ _ fun _ _ ht hb => ht.1 _ hb
    · exact h
  · exact h

theorem moves_cancelStart (h : Moves s t) (u : Nat) (reason : FailReason) : Moves s (t.cancelStart u reason) := by
  unfold State.cancelStart
  split
  · have k := moves_cancelPending h u
    split <;> rename_i e <;> rw [e] at k
    · exact moves_failStart k _ _
    · exact k
  · exact h

theorem moves_haltUnit (h : Moves s t) (u : Nat) (cause : UnitCause) (reason : FailReason) :
    Moves s (t.haltUnit u cause reason) := by
  unfold State.haltUnit
  try dsimp (config := { proj := false }) only
  repeat' first
    | (with_reducible exact h)
    | (with_reducible assumption)
    | (with_reducible apply moves_cancelStart)
    | (with_reducible apply moves_stopUnit)

theorem moves_accessUnit (h : Moves s t) (u : Nat) :
    Moves s (accessUnit u t) := by
  unfold accessUnit
  try dsimp (config := { proj := false }) only
  repeat' first
    | (with_reducible exact h)
    | (with_reducible assumption)
    | (with_reducible apply moves_cancelStart)
    | (with_reducible apply moves_cutDrive)
    | (with_reducible apply moves_stopUnit)

theorem moves_clearUnit (h : Moves s t) (u : Nat) :
    Moves s (clearUnit u t) := by
  unfold clearUnit
  repeat' first
    | (with_reducible exact h)
    | (with_reducible apply moves_cutDrive)
    | split

theorem moves_accessSwing (h : Moves s t) :
    Moves s (accessSwing t) := by
  unfold accessSwing
  try dsimp (config := { proj := false }) only
  repeat' first
    | (with_reducible exact h)
    | (with_reducible assumption)
    | (with_reducible apply moves_accessUnit)
    | (with_reducible apply moves_clearUnit)
    | (with_reducible refine moves_each ?_ _ _ (fun i u hu => ?_))
    | split

theorem moves_lossUnit (h : Moves s t) (u : Nat) :
    Moves s (lossUnit u t) := by
  unfold lossUnit
  try dsimp (config := { proj := false }) only
  repeat' first
    | (with_reducible exact h)
    | (with_reducible assumption)
    | (with_reducible apply moves_cancelStart)
    | (with_reducible refine moves_setUnit ?_ _ _ ?_)
    | (with_reducible apply moves_stopUnit)
    | (intro hm hs ht hb
       first
         | (with_reducible rfl)
         | (simp only [Drive.impulsing]; done)
         | exact ht.2.1 _ hb)
    | split

theorem moves_lossSwing (h : Moves s t) :
    Moves s (lossSwing t) := by
  unfold lossSwing
  try dsimp (config := { proj := false }) only
  repeat' first
    | (with_reducible exact h)
    | (with_reducible assumption)
    | (with_reducible refine moves_each ?_ _ _ (fun i u hu => ?_))
    | (with_reducible apply moves_lossUnit)

theorem moves_moveRun (h : Moves s t) (r : PealRun) (cause : RunCause) :
    Moves s (t.moveRun r cause) := by
  unfold State.moveRun
  try dsimp (config := { proj := false }) only
  repeat' first
    | (with_reducible exact h)
    | (with_reducible assumption)
    | (with_reducible apply moves_notify)
    | (with_reducible apply moves_withRun)

theorem moves_claimSwing (h : Moves s t) (u : Nat) : Moves s (t.claimSwing u).1 := by
  unfold State.claimSwing
  dsimp only
  repeat' split
  all_goals first
    | exact h
    | (refine moves_post (moves_setBell h _ _ ?_) _; exact fun _ _ ht hb => ht.1 _ hb)
    | (refine moves_setBell h _ _ ?_; exact fun _ _ ht hb => ht.1 _ hb)

theorem moves_preempt (h : Moves s t) (u : Nat) : Moves s (t.preempt u) := by
  unfold State.preempt
  repeat' split
  all_goals first
    | exact h
    | exact moves_post h _

theorem moves_startUnit (h : Moves s t) (u : Nat) (owner : Owner) (p : Precedence) (minutes : Nat) :
    Moves s (t.startUnit u owner p minutes).1 := by
  unfold State.startUnit
  dsimp only
  iterate 6 (split; exact h)
  have k := moves_claimSwing h u
  split <;> rename_i e <;> rw [e] at k
  · exact moves_enterRaising k _ _ _ _
  · rename_i v
    have j := moves_pendingNotice (moves_setUnit k u
      { v.unit u with startPending := true, owner := some owner, minutes := minutes }
      fun _ _ ht hb => ht.2.1 _ hb) u none
    cases p
    · exact j
    · exact moves_preempt j u
  all_goals exact k

theorem moves_finishRun (h : Moves s t) {u : State} (e : t.finishRun = some u) : Moves s u := by
  unfold State.finishRun at e
  repeat' split at e
  all_goals cases e
  · exact moves_moveRun h _ _
  · exact moves_moveRun (moves_moveRun h _ _) _ _

theorem moves_settleRun (h : Moves s t) : Moves s t.settleRun := by
  unfold State.settleRun
  cases e : t.finishRun with
  | none => exact h
  | some u => exact moves_finishRun h e

theorem moves_stepUnit (h : Moves s t) (step u : Nat) : Moves s (t.stepUnit step u) := by
  unfold State.stepUnit
  split
  · exact moves_notify h _
  · have k := moves_startUnit h u .peal (t.planRec t.run.plan).precedence 0
    split <;> rename_i e <;> rw [e] at k
    · exact moves_notify k _
    · exact moves_withRun k _

theorem moves_takeStartStep (h : Moves s t) :
    Moves s (takeStartStep t) := by
  unfold takeStartStep
  try dsimp (config := { proj := false }) only
  repeat' first
    | (with_reducible exact h)
    | (with_reducible assumption)
    | (with_reducible apply moves_settleRun)
    | (with_reducible apply moves_moveRun)
    | (with_reducible apply moves_stepUnit)
    | (with_reducible apply moves_withRun)
    | split

theorem moves_takeStopStep (h : Moves s t) :
    Moves s (takeStopStep t) := by
  unfold takeStopStep
  try dsimp (config := { proj := false }) only
  repeat' first
    | (with_reducible exact h)
    | (with_reducible assumption)
    | (with_reducible apply moves_haltUnit)
    | (with_reducible apply moves_withRun)
    | split

theorem moves_takeStopSteps (h : Moves s t) :
    Moves s (t.takeStopSteps) := by
  unfold State.takeStopSteps
  try dsimp (config := { proj := false }) only
  repeat' first
    | (with_reducible exact h)
    | (with_reducible assumption)
    | (with_reducible refine moves_each ?_ _ _ (fun i u hu => ?_))
    | (with_reducible apply moves_haltUnit)
    | (with_reducible apply moves_withRun)

theorem moves_stopRun (h : Moves s t) (cause : RunCause) (gap : Nat) :
    Moves s (t.stopRun cause gap) := by
  unfold State.stopRun
  try dsimp (config := { proj := false }) only
  repeat' first
    | (with_reducible exact h)
    | (with_reducible assumption)
    | (with_reducible apply moves_settleRun)
    | (with_reducible apply moves_notify)
    | (with_reducible apply moves_takeStopSteps)
    | (with_reducible apply moves_takeStopStep)
    | (with_reducible apply moves_withRun)
    | split

theorem moves_hurryRun (h : Moves s t) (cause : RunCause) :
    Moves s (t.hurryRun cause) := by
  unfold State.hurryRun
  try dsimp (config := { proj := false }) only
  repeat' first
    | (with_reducible exact h)
    | (with_reducible assumption)
    | (with_reducible apply moves_settleRun)
    | (with_reducible apply moves_stopRun)
    | (with_reducible apply moves_takeStopSteps)
    | split

theorem moves_accessRun (h : Moves s t) :
    Moves s (accessRun t) := by
  unfold accessRun
  try dsimp (config := { proj := false }) only
  repeat' first
    | (with_reducible exact h)
    | (with_reducible assumption)
    | (with_reducible apply moves_hurryRun)
    | split

theorem moves_lossRun (h : Moves s t) :
    Moves s (lossRun t) := by
  unfold lossRun
  try dsimp (config := { proj := false }) only
  repeat' first
    | (with_reducible exact h)
    | (with_reducible assumption)
    | (with_reducible apply moves_hurryRun)

theorem moves_moveDial (h : Moves s t) (d : Nat) (new : DialState) (cause : DialCause) :
    Moves s (t.moveDial d new cause) := by
  unfold State.moveDial
  try dsimp (config := { proj := false }) only
  repeat' first
    | (with_reducible exact h)
    | (with_reducible assumption)
    | (with_reducible apply moves_notify)
    | (with_reducible refine moves_setDial ?_ _ _ ?_)
    | (intro hm hs ht hb
       first
         | (with_reducible rfl)
         | (simp only [DialDrive.impulsing]; done)
         | exact ht.2.2.1 _ hb)
    | split

theorem moves_requestDial (h : Moves s t) (d : Nat) (again : Bool) :
    Moves s (t.requestDial d again) := by
  unfold State.requestDial
  try dsimp (config := { proj := false }) only
  repeat' first
    | (with_reducible exact h)
    | (with_reducible assumption)
    | (with_reducible apply moves_request)
    | (with_reducible refine moves_setDial ?_ _ _ ?_)
    | (intro hm hs ht hb
       first
         | (with_reducible rfl)
         | (simp only [DialDrive.impulsing]))

theorem moves_askDial (h : Moves s t) (d : Nat) :
    Moves s (t.askDial d) := by
  unfold State.askDial
  try dsimp (config := { proj := false }) only
  repeat' first
    | (with_reducible exact h)
    | (with_reducible assumption)
    | (with_reducible apply moves_requestDial)
    | split

theorem moves_riseDial (h : Moves s t) (d : Nat) :
    Moves s (t.riseDial d) := by
  unfold State.riseDial
  try dsimp (config := { proj := false }) only
  repeat' first
    | (with_reducible exact h)
    | (with_reducible assumption)
    | (with_reducible apply moves_askDial)
    | (with_reducible apply moves_moveDial)
    | split

theorem moves_judgeDial (h : Moves s t) (d : Nat) :
    Moves s (t.judgeDial d) := by
  unfold State.judgeDial
  try dsimp (config := { proj := false }) only
  repeat' first
    | (with_reducible exact h)
    | (with_reducible assumption)
    | (with_reducible apply moves_askDial)
    | (with_reducible apply moves_moveDial)
    | (with_reducible apply moves_riseDial)
    | split

theorem moves_dialGranted (h : Moves s t) (d units : Nat) : Moves s (dialGranted d units t) := by
  unfold dialGranted
  dsimp only
  split
  · split
    · rename_i e
      refine moves_setDial h _ _ fun hm _ _ _ => ?_
      rw [← h.mainsNormal] at hm
      simp [hm] at e
    · exact moves_release (moves_setDial h _ _ fun _ _ _ _ => rfl) _ _
  · exact moves_release h _ _

theorem moves_withdrawDial (h : Moves s t) (d : Nat) :
    Moves s (t.withdrawDial d) := by
  unfold State.withdrawDial
  try dsimp (config := { proj := false }) only
  repeat' first
    | (with_reducible exact h)
    | (with_reducible assumption)
    | (with_reducible refine moves_setDial ?_ _ _ ?_)
    | (with_reducible apply moves_withdraw)
    | (intro hm hs ht hb
       first
         | (with_reducible rfl)
         | (simp only [DialDrive.impulsing]))
    | split

theorem moves_classify (h : Moves s t) (d : Nat) (cause : DialCause) :
    Moves s (t.classify d cause) := by
  unfold State.classify
  try dsimp (config := { proj := false }) only
  repeat' first
    | (with_reducible exact h)
    | (with_reducible assumption)
    | (with_reducible apply moves_askDial)
    | (with_reducible apply moves_moveDial)
    | (with_reducible apply moves_withdrawDial)
    | split

theorem moves_repeatOrClassify (h : Moves s t) (cause : DialCause) (d : Nat) :
    Moves s (repeatOrClassify cause d t) := by
  unfold repeatOrClassify
  try dsimp (config := { proj := false }) only
  repeat' first
    | (with_reducible exact h)
    | (with_reducible assumption)
    | (with_reducible apply moves_classify)
    | (with_reducible apply moves_requestDial)
    | split

theorem moves_returnDials (h : Moves s t) (cause : DialCause) :
    Moves s (returnDials cause t) := by
  unfold returnDials
  try dsimp (config := { proj := false }) only
  repeat' first
    | (with_reducible exact h)
    | (with_reducible assumption)
    | (with_reducible refine moves_each ?_ _ _ (fun i u hu => ?_))
    | (with_reducible apply moves_repeatOrClassify)

theorem moves_setTargets (h : Moves s t) (half : Option Nat) :
    Moves s (t.setTargets half) := by
  unfold State.setTargets
  try dsimp (config := { proj := false }) only
  repeat' first
    | (with_reducible exact h)
    | (with_reducible assumption)
    | (with_reducible refine moves_withDials ?_ _ rfl)

theorem moves_stepDials (h : Moves s t) (civil : Nat) :
    Moves s (stepDials civil t) := by
  unfold stepDials
  try dsimp (config := { proj := false }) only
  repeat' first
    | (with_reducible exact h)
    | (with_reducible assumption)
    | (with_reducible apply moves_classify)
    | (with_reducible refine moves_each ?_ _ _ (fun i u hu => ?_))
    | (with_reducible apply moves_setTargets)
    | split

theorem moves_timeSetDials (h : Moves s t) (civil : Nat) :
    Moves s (timeSetDials civil t) := by
  unfold timeSetDials
  try dsimp (config := { proj := false }) only
  repeat' first
    | (with_reducible exact h)
    | (with_reducible assumption)
    | (with_reducible apply moves_classify)
    | (with_reducible refine moves_each ?_ _ _ (fun i u hu => ?_))
    | (with_reducible apply moves_setTargets)
    | split

theorem moves_unsetDials (h : Moves s t) :
    Moves s (unsetDials t) := by
  unfold unsetDials
  try dsimp (config := { proj := false }) only
  repeat' first
    | (with_reducible exact h)
    | (with_reducible assumption)
    | (with_reducible refine moves_each ?_ _ _ (fun i u hu => ?_))
    | (with_reducible apply moves_moveDial)
    | (with_reducible apply moves_setTargets)
    | (with_reducible apply moves_withdrawDial)
    | split

theorem moves_forgetDial (h : Moves s t) (d : Nat) (cause : DialCause) :
    Moves s (t.forgetDial d cause) := by
  unfold State.forgetDial
  try dsimp (config := { proj := false }) only
  repeat' first
    | (with_reducible exact h)
    | (with_reducible assumption)
    | (with_reducible apply moves_moveDial)
    | (with_reducible refine moves_setDial ?_ _ _ ?_)
    | (intro hm hs ht hb
       first
         | (with_reducible rfl)
         | (simp only [DialDrive.impulsing]; done)
         | exact ht.2.2.1 _ hb)

theorem moves_readyDial (h : Moves s t) (d : Nat) :
    Moves s (readyDial d t) := by
  unfold readyDial
  try dsimp (config := { proj := false }) only
  repeat' first
    | (with_reducible exact h)
    | (with_reducible assumption)
    | (with_reducible apply moves_forgetDial)
    | (with_reducible apply moves_repeatOrClassify)
    | split

theorem moves_readyDials (h : Moves s t) :
    Moves s (readyDials t) := by
  unfold readyDials
  try dsimp (config := { proj := false }) only
  repeat' first
    | (with_reducible exact h)
    | (with_reducible assumption)
    | (with_reducible refine moves_each ?_ _ _ (fun i u hu => ?_))
    | (with_reducible apply moves_readyDial)
    | (with_reducible apply moves_setTargets)

theorem moves_lossDial (h : Moves s t) (d : Nat) :
    Moves s (lossDial d t) := by
  unfold lossDial
  try dsimp (config := { proj := false }) only
  repeat' first
    | (with_reducible exact h)
    | (with_reducible assumption)
    | (with_reducible apply moves_moveDial)
    | (with_reducible refine moves_setDial ?_ _ _ ?_)
    | (intro hm hs ht hb
       first
         | (with_reducible rfl)
         | (simp only [DialDrive.impulsing]))
    | split

theorem moves_lossDials (h : Moves s t) :
    Moves s (lossDials t) := by
  unfold lossDials
  try dsimp (config := { proj := false }) only
  repeat' first
    | (with_reducible exact h)
    | (with_reducible assumption)
    | (with_reducible refine moves_each ?_ _ _ (fun i u hu => ?_))
    | (with_reducible apply moves_lossDial)

theorem moves_floodNotice (h : Moves s t) (c : Nat) (old : CircuitState) (cause : FloodCause) (units : Nat) :
    Moves s (t.floodNotice c old cause units) := by
  unfold State.floodNotice
  try dsimp (config := { proj := false }) only
  repeat' first
    | (with_reducible exact h)
    | (with_reducible assumption)
    | (with_reducible apply moves_notify)

theorem moves_changeCircuit (h : Moves s t) (c : Nat) (w : Circuit) (cause : FloodCause) (units : Nat)
    (hv : s.mainsNormal = false → s.dark → t.dark → c < 12 → w.state.lit = false) :
    Moves s (t.changeCircuit c w cause units) := by
  unfold State.changeCircuit
  dsimp only
  split
  · exact moves_setCircuit h _ _ hv
  · exact moves_floodNotice (moves_setCircuit h _ _ hv) _ _ _ _

theorem moves_moveCircuit (h : Moves s t) (c : Nat) (w : Circuit) (cause : FloodCause)
    (hv : s.mainsNormal = false → s.dark → t.dark → c < 12 → w.state.lit = false) :
    Moves s (t.moveCircuit c w cause) := moves_changeCircuit h c w cause _ hv

theorem moves_giveUp (h : Moves s t) (c : Nat) :
    Moves s (t.giveUp c) := by
  unfold State.giveUp
  try dsimp (config := { proj := false }) only
  repeat' first
    | (with_reducible exact h)
    | (with_reducible assumption)
    | (with_reducible apply moves_releaseAll)
    | (with_reducible apply moves_withdraw)

theorem moves_strike (h : Moves s t) (c : Nat) (cause : FloodCause) :
    Moves s (t.strike c cause) := by
  unfold State.strike
  try dsimp (config := { proj := false }) only
  repeat' first
    | (with_reducible exact h)
    | (with_reducible assumption)
    | (with_reducible refine moves_moveCircuit ?_ _ _ _ ?_)
    | (with_reducible apply moves_request)
    | (intro hm hs ht hb
       first
         | (with_reducible rfl)
         | (simp only [CircuitState.lit]))

theorem moves_cool (h : Moves s t) (c : Nat) (cause : FloodCause) :
    Moves s (t.cool c cause) := by
  unfold State.cool
  try dsimp (config := { proj := false }) only
  repeat' first
    | (with_reducible exact h)
    | (with_reducible assumption)
    | (with_reducible refine moves_changeCircuit ?_ _ _ _ _ ?_)
    | (with_reducible apply moves_releaseAll)
    | (intro hm hs ht hb
       first
         | (with_reducible rfl)
         | (simp only [CircuitState.lit]))

theorem moves_actSwitched (h : Moves s t) (c : Nat) (cause : FloodCause) :
    Moves s (t.actSwitched c cause) := by
  unfold State.actSwitched
  try dsimp (config := { proj := false }) only
  repeat' first
    | (with_reducible exact h)
    | (with_reducible assumption)
    | (with_reducible apply moves_cool)
    | (with_reducible refine moves_changeCircuit ?_ _ _ _ _ ?_)
    | (with_reducible apply moves_strike)
    | (with_reducible apply moves_withdraw)
    | (intro hm hs ht hb
       first
         | (with_reducible rfl)
         | (simp only [CircuitState.lit]))
    | split

theorem moves_warmed (h : Moves s t) (c : Nat) (hv : s.mainsNormal = false → s.dark → t.dark → c < 12 → False) :
    Moves s (t.warmed c) := by
  unfold State.warmed
  exact moves_release (moves_changeCircuit h _ _ _ _ fun hm hs ht hb => (hv hm hs ht hb).elim) _ _

theorem moves_runFade (h : Moves s t) (c : Nat) :
    Moves s (t.runFade c) := by
  unfold State.runFade
  try dsimp (config := { proj := false }) only
  repeat' first
    | (with_reducible exact h)
    | (with_reducible assumption)
    | (with_reducible refine moves_setCircuit ?_ _ _ ?_)
    | (intro hm hs ht hb
       first
         | (with_reducible rfl)
         | (simp only [CircuitState.lit]; done)
         | exact ht.2.2.2 _ hb)

theorem moves_darken (h : Moves s t) (c : Nat) (cause : FloodCause) :
    Moves s (t.darken c cause) := by
  unfold State.darken
  try dsimp (config := { proj := false }) only
  repeat' first
    | (with_reducible exact h)
    | (with_reducible assumption)
    | (with_reducible refine moves_changeCircuit ?_ _ _ _ _ ?_)
    | (with_reducible apply moves_giveUp)
    | (intro hm hs ht hb
       first
         | (with_reducible rfl)
         | (simp only [CircuitState.lit]))

theorem moves_seek (h : Moves s t) (c units : Nat) :
    Moves s (t.seek c units) := by
  unfold State.seek
  try dsimp (config := { proj := false }) only
  repeat' first
    | (with_reducible exact h)
    | (with_reducible assumption)
    | (with_reducible apply moves_request)
    | split

theorem moves_retarget (h : Moves s t) (c target : Nat) (cause : FloodCause) :
    Moves s (t.retarget c target cause) := by
  unfold State.retarget
  try dsimp (config := { proj := false }) only
  repeat' first
    | (with_reducible exact h)
    | (with_reducible assumption)
    | (with_reducible apply moves_darken)
    | (with_reducible refine moves_moveCircuit ?_ _ _ _ ?_)
    | (with_reducible apply moves_release)
    | (with_reducible apply moves_seek)
    | (with_reducible apply moves_runFade)
    | (with_reducible refine moves_setCircuit ?_ _ _ ?_)
    | (with_reducible apply moves_withdraw)
    | (intro hm hs ht hb
       first
         | (with_reducible rfl)
         | (simp only [CircuitState.lit]; done)
         | exact ht.2.2.2 _ hb)
    | split

theorem moves_markShed (h : Moves s t) (c : Nat) :
    Moves s (t.markShed c) := by
  unfold State.markShed
  try dsimp (config := { proj := false }) only
  repeat' first
    | (with_reducible exact h)
    | (with_reducible assumption)
    | (with_reducible apply moves_floodNotice)
    | (with_reducible refine moves_setCircuit ?_ _ _ ?_)
    | (intro hm hs ht hb
       first
         | (with_reducible rfl)
         | (simp only [CircuitState.lit]; done)
         | exact ht.2.2.2 _ hb)

theorem moves_dropToShed (h : Moves s t) (c : Nat) : Moves s (t.dropToShed c) :=
  moves_release (moves_markShed h c) _ _

theorem moves_cap (h : Moves s t) (c : Nat) (cause : FloodCause) : Moves s (t.cap c cause) := by
  unfold State.cap
  dsimp only
  split
  · exact moves_retarget h _ _ _
  · split
    · exact moves_retarget (moves_dropToShed h c) _ _ _
    · exact moves_retarget (moves_markShed h c) _ _ _

theorem moves_unmarkShed (h : Moves s t) (c : Nat) :
    Moves s (t.unmarkShed c) := by
  unfold State.unmarkShed
  try dsimp (config := { proj := false }) only
  repeat' first
    | (with_reducible exact h)
    | (with_reducible assumption)
    | (with_reducible apply moves_floodNotice)
    | (with_reducible refine moves_setCircuit ?_ _ _ ?_)
    | (intro hm hs ht hb
       first
         | (with_reducible rfl)
         | (simp only [CircuitState.lit]; done)
         | exact ht.2.2.2 _ hb)

theorem moves_uncap (h : Moves s t) (c : Nat) :
    Moves s (t.uncap c) := by
  unfold State.uncap
  try dsimp (config := { proj := false }) only
  repeat' first
    | (with_reducible exact h)
    | (with_reducible assumption)
    | (with_reducible apply moves_retarget)
    | (with_reducible apply moves_unmarkShed)
    | split

theorem moves_actDimmed (h : Moves s t) (c : Nat) (cause : FloodCause) :
    Moves s (t.actDimmed c cause) := by
  unfold State.actDimmed
  try dsimp (config := { proj := false }) only
  repeat' first
    | (with_reducible exact h)
    | (with_reducible assumption)
    | (with_reducible apply moves_cap)
    | (with_reducible apply moves_retarget)
    | (with_reducible apply moves_unmarkShed)
    | split

theorem moves_takeDemand (h : Moves s t) (c : Nat) :
    Moves s (t.takeDemand c) := by
  unfold State.takeDemand
  try dsimp (config := { proj := false }) only
  repeat' first
    | (with_reducible exact h)
    | (with_reducible assumption)
    | (with_reducible refine moves_setCircuit ?_ _ _ ?_)
    | (intro hm hs ht hb
       first
         | (with_reducible rfl)
         | (simp only [CircuitState.lit]; done)
         | exact ht.2.2.2 _ hb)

theorem moves_actCircuit (h : Moves s t) (c : Nat) (cause : FloodCause) :
    Moves s (t.actCircuit c cause) := by
  unfold State.actCircuit
  try dsimp (config := { proj := false }) only
  repeat' first
    | (with_reducible exact h)
    | (with_reducible assumption)
    | (with_reducible apply moves_actDimmed)
    | (with_reducible apply moves_actSwitched)
    | (with_reducible apply moves_unmarkShed)
    | split

theorem moves_floodGranted (h : Moves s t) (c units : Nat) : Moves s (floodGranted c units t) := by
  have off : Moves s ((t.changeCircuit c { t.circuit c with state := .off } .grant (t.held (.flood c) - units)).release
      (.flood c) units) :=
    moves_release (moves_changeCircuit h _ _ _ _ fun _ _ _ _ => rfl) _ _
  have normal : ∀ {p : Prop}, t.mainsNormal = true → s.mainsNormal = false → p := fun e hm => by
    rw [← h.mainsNormal, e] at hm; cases hm
  unfold floodGranted
  dsimp only
  split
  · split
    · rename_i e
      have e : t.mainsNormal = true := by simp only [Bool.and_eq_true] at e; exact e.1
      have k : Moves s (t.moveCircuit c
          { t.circuit c with state := .warming, timer := some (t.now + (t.circuitRec c).warmUp * 1000) } .grant) :=
        moves_moveCircuit h _ _ _ fun hm _ _ _ => normal e hm
      split
      · exact moves_warmed k _ fun hm _ _ _ => normal e hm
      · exact k
    · exact off
  · split
    · rename_i e
      exact moves_retarget (moves_moveCircuit h _ _ _ fun hm _ _ _ => normal e hm) _ _ _
    · exact off
  · split
    · exact moves_retarget h _ _ _
    · exact moves_release h _ _
  · exact moves_release h _ _

theorem moves_takeOwnGrants (h : Moves s t) (c : Nat) : Moves s (t.takeOwnGrants c) := by
  unfold State.takeOwnGrants
  generalize t.agenda.filterMap (Msg.grantOf c) = l
  have k : Moves s (t.withAgenda (t.agenda.filter fun m => (m.grantOf c).isNone)) := moves_withAgenda h _
  revert k
  generalize t.withAgenda (t.agenda.filter fun m => (m.grantOf c).isNone) = u
  intro k
  induction l generalizing u with
  | nil => exact k
  | cons n l ih => exact ih _ (moves_floodGranted k c n)

theorem moves_eachCircuit (h : Moves s t) (l : List Nat) (f : Nat → State → State)
    (hf : ∀ i u, Moves s u → Moves s (f i u)) : Moves s (t.eachCircuit l f) :=
  moves_withAgenda (moves_each (moves_withAgenda h _) l _ fun i u hu => moves_takeOwnGrants (hf i u hu) i) _

theorem moves_shedSet (h : Moves s t) :
    Moves s (shedSet t) := by
  unfold shedSet
  try dsimp (config := { proj := false }) only
  repeat' first
    | (with_reducible exact h)
    | (with_reducible assumption)
    | (with_reducible refine moves_eachCircuit ?_ _ _ (fun i u hu => ?_))
    | (with_reducible apply moves_cap)
    | (with_reducible refine moves_withFloods ?_ _ rfl)

theorem moves_shedClear (h : Moves s t) :
    Moves s (shedClear t) := by
  unfold shedClear
  try dsimp (config := { proj := false }) only
  repeat' first
    | (with_reducible exact h)
    | (with_reducible assumption)
    | (with_reducible refine moves_eachCircuit ?_ _ _ (fun i u hu => ?_))
    | (with_reducible apply moves_uncap)
    | (with_reducible refine moves_withFloods ?_ _ rfl)

theorem moves_judgeCircuits (h : Moves s t) (l : List Nat) (cause : FloodCause) :
    Moves s (judgeCircuits l cause t) := by
  unfold judgeCircuits
  try dsimp (config := { proj := false }) only
  repeat' first
    | (with_reducible exact h)
    | (with_reducible assumption)
    | (with_reducible refine moves_eachCircuit ?_ _ _ (fun i u hu => ?_))
    | (with_reducible refine moves_each ?_ _ _ (fun i u hu => ?_))
    | (with_reducible apply moves_actCircuit)
    | (with_reducible apply moves_takeDemand)
    | split

theorem moves_writeLevels (h : Moves s t) (levels : List (Option Nat)) (last : Option Nat) :
    Moves s (t.writeLevels levels last) := by
  unfold State.writeLevels
  try dsimp (config := { proj := false }) only
  repeat' first
    | (with_reducible exact h)
    | (with_reducible assumption)
    | (with_reducible refine moves_each ?_ _ _ (fun i u hu => ?_))
    | (with_reducible apply moves_post)
    | (with_reducible refine moves_setCircuit ?_ _ _ ?_)
    | (with_reducible refine moves_withFloods ?_ _ rfl)
    | (intro hm hs ht hb
       first
         | (with_reducible rfl)
         | (simp only [CircuitState.lit]; done)
         | exact ht.2.2.2 _ hb)

theorem moves_clearLevels (h : Moves s t) :
    Moves s (t.clearLevels) := by
  unfold State.clearLevels
  try dsimp (config := { proj := false }) only
  repeat' first
    | (with_reducible exact h)
    | (with_reducible assumption)
    | (with_reducible apply moves_writeLevels)

theorem moves_activateScene (h : Moves s t) (scene : Nat) : Moves s (activateScene scene t).1 := by
  unfold activateScene
  dsimp only
  split
  · exact moves_writeLevels h _ _
  · exact h

theorem moves_fallBack (h : Moves s t) : Moves s t.fallBack := by
  unfold State.fallBack
  split
  · exact moves_activateScene h _
  · exact h

theorem moves_transitionFloods (h : Moves s t) (state : LightState) :
    Moves s (transitionFloods state t) := by
  unfold transitionFloods
  try dsimp (config := { proj := false }) only
  repeat' first
    | (with_reducible exact h)
    | (with_reducible assumption)
    | (with_reducible apply moves_clearLevels)
    | (with_reducible apply moves_fallBack)
    | split

theorem moves_unsetFloods (h : Moves s t) :
    Moves s (unsetFloods t) := by
  unfold unsetFloods
  try dsimp (config := { proj := false }) only
  repeat' first
    | (with_reducible exact h)
    | (with_reducible assumption)
    | (with_reducible apply moves_clearLevels)
    | (with_reducible apply moves_fallBack)
    | split

theorem moves_accessFloods (h : Moves s t) :
    Moves s (accessFloods t) := by
  unfold accessFloods
  try dsimp (config := { proj := false }) only
  repeat' first
    | (with_reducible exact h)
    | (with_reducible assumption)
    | (with_reducible apply moves_judgeCircuits)

theorem moves_returnFloods (h : Moves s t) (cause : FloodCause) :
    Moves s (returnFloods cause t) := by
  unfold returnFloods
  try dsimp (config := { proj := false }) only
  repeat' first
    | (with_reducible exact h)
    | (with_reducible assumption)
    | (with_reducible apply moves_judgeCircuits)

theorem moves_lossCircuit (h : Moves s t) (c : Nat) :
    Moves s (lossCircuit c t) := by
  unfold lossCircuit
  try dsimp (config := { proj := false }) only
  repeat' first
    | (with_reducible exact h)
    | (with_reducible assumption)
    | (with_reducible apply moves_floodNotice)
    | (with_reducible refine moves_setCircuit ?_ _ _ ?_)
    | (with_reducible apply moves_unmarkShed)
    | (intro hm hs ht hb
       first
         | (with_reducible rfl)
         | (simp only [CircuitState.lit]))
    | split

theorem moves_lossFloods (h : Moves s t) :
    Moves s (lossFloods t) := by
  unfold lossFloods
  try dsimp (config := { proj := false }) only
  repeat' first
    | (with_reducible exact h)
    | (with_reducible assumption)
    | (with_reducible refine moves_each ?_ _ _ (fun i u hu => ?_))
    | (with_reducible apply moves_lossCircuit)

theorem moves_setToday (h : Moves s t) (r0 : Today) :
    Moves s (t.setToday r0) := by
  unfold State.setToday
  try dsimp (config := { proj := false }) only
  repeat' first
    | (with_reducible exact h)
    | (with_reducible assumption)
    | (with_reducible refine moves_withDay ?_ _ id)

theorem moves_transitionDay (h : Moves s t) (state : LightState) :
    Moves s (transitionDay state t) := by
  unfold transitionDay
  try dsimp (config := { proj := false }) only
  repeat' first
    | (with_reducible exact h)
    | (with_reducible assumption)
    | (with_reducible apply moves_setToday)
    | split

theorem moves_evaluate (h : Moves s t) (r0 : Today) (minute : Nat) :
    Moves s (t.evaluate r0 minute) := by
  unfold State.evaluate
  try dsimp (config := { proj := false }) only
  repeat' first
    | (with_reducible exact h)
    | (with_reducible assumption)
    | (with_reducible apply moves_postAll)
    | (with_reducible apply moves_setToday)

theorem moves_skip (h : Moves s t) (e minute now : Nat) (reason : SkipReason) (status : Status) :
    Moves s (t.skip e minute now reason status) := by
  unfold State.skip
  try dsimp (config := { proj := false }) only
  repeat' first
    | (with_reducible exact h)
    | (with_reducible assumption)
    | (with_reducible apply moves_notify)

theorem moves_handPerf (h : Moves s t) (e minute now : Nat) (kind : PerfKind) (args : PerfArgs) :
    Moves s (t.handPerf e minute now kind args) := by
  unfold State.handPerf
  split
  · exact moves_skip h _ _ _ _ _
  · dsimp only
    have ho := moves_offer h (t.makePerf kind args .schedule (some e) t.now)
    split <;> rename_i q <;> rw [q] at ho
    · exact ho
    · exact moves_skip ho _ _ _ _ _
    · exact moves_dropOffer ho _ _

theorem moves_startPeal (h : Moves s t) (plan : Nat) : Moves s (startPeal plan t).1 := by
  unfold startPeal
  split
  · exact h
  · exact moves_post (moves_notify (moves_withRun h _) _) _

theorem moves_reportRefusal {r : State × Status} (h : Moves s r.1) (e minute now : Nat) :
    Moves s (State.reportRefusal r e minute now) := by
  unfold State.reportRefusal
  split
  · exact h
  · exact moves_skip h _ _ _ _ _

theorem moves_fireEntry (h : Moves s t) (e minute now : Nat) : Moves s (fireEntry e minute now t) := by
  unfold fireEntry
  split
  · exact moves_handPerf h _ _ _ _ _
  · exact moves_handPerf h _ _ _ _ _
  · exact moves_reportRefusal (moves_startPeal h _) _ _ _
  · exact moves_reportRefusal (moves_activateScene h _) _ _ _
  · exact moves_withDay h _ id
  · exact moves_withDay h _ id

theorem moves_judgeEntry (h : Moves s t) (e minute now : Nat) :
    Moves s (judgeEntry e minute now t) := by
  unfold judgeEntry
  try dsimp (config := { proj := false }) only
  repeat' first
    | (with_reducible exact h)
    | (with_reducible assumption)
    | (with_reducible apply moves_fireEntry)
    | (with_reducible apply moves_setGuard)
    | (with_reducible apply moves_skip)
    | split

theorem moves_minuteDay (h : Moves s t) (minute : Nat) :
    Moves s (minuteDay minute t) := by
  unfold minuteDay
  try dsimp (config := { proj := false }) only
  repeat' first
    | (with_reducible exact h)
    | (with_reducible assumption)
    | (with_reducible apply moves_evaluate)
    | split

theorem moves_comeTo (h : Moves s t) (r0 : Today) (minute : Nat) (forward : Bool) :
    Moves s (t.comeTo r0 minute forward) := by
  unfold State.comeTo
  try dsimp (config := { proj := false }) only
  repeat' first
    | (with_reducible exact h)
    | (with_reducible assumption)
    | (with_reducible apply moves_evaluate)
    | (with_reducible apply moves_setToday)
    | split

theorem moves_stepDay (h : Moves s t) (old new : Nat) :
    Moves s (stepDay old new t) := by
  unfold stepDay
  try dsimp (config := { proj := false }) only
  repeat' first
    | (with_reducible exact h)
    | (with_reducible assumption)
    | (with_reducible apply moves_comeTo)
    | split

theorem moves_timeSetDay (h : Moves s t) (civil : Nat) :
    Moves s (timeSetDay civil t) := by
  unfold timeSetDay
  try dsimp (config := { proj := false }) only
  repeat' first
    | (with_reducible exact h)
    | (with_reducible assumption)
    | (with_reducible apply moves_evaluate)

theorem moves_readyDay (h : Moves s t) :
    Moves s (readyDay t) := by
  unfold readyDay
  try dsimp (config := { proj := false }) only
  repeat' first
    | (with_reducible exact h)
    | (with_reducible assumption)
    | (with_reducible apply moves_comeTo)
    | (with_reducible apply moves_timeSetDay)
    | (with_reducible refine moves_withDay ?_ _ id)
    | split

theorem moves_loseTime (h : Moves s t) :
    Moves s (t.loseTime) := by
  unfold State.loseTime
  try dsimp (config := { proj := false }) only
  repeat' first
    | (with_reducible exact h)
    | (with_reducible assumption)
    | (with_reducible apply moves_notify)
    | (with_reducible apply moves_postAll)
    | (with_reducible apply moves_unsetDials)
    | (with_reducible apply moves_unsetFloods)
    | (with_reducible refine moves_withDay ?_ _ id)
    | (with_reducible refine moves_withTime ?_ _ rfl)

theorem moves_retime (h : Moves s t) (b : TimeBase) (cause : TimeCause) (always : Bool)
    (he : b.elapsed = t.time.elapsed) : Moves s (t.retime b cause always) := by
  unfold State.retime
  split
  · split
    · dsimp only
      split
      · exact moves_notify (moves_withTime h _ he) _
      · exact moves_withTime h _ he
    · exact moves_notify (moves_postAll (moves_withTime h (b.seenAt _) he) _) _
  · exact moves_notify (moves_postAll (moves_withTime h (b.seenAt _) he) _) _
  · exact moves_withTime h _ he

theorem moves_freeRun (h : Moves s t) : Moves s t.freeRun := moves_retime h _ _ _ rfl

theorem moves_readyTime (h : Moves s t) :
    Moves s (readyTime t) := by
  unfold readyTime
  try dsimp (config := { proj := false }) only
  repeat' first
    | (with_reducible exact h)
    | (with_reducible assumption)
    | (with_reducible apply moves_freeRun)
    | (with_reducible apply moves_loseTime)
    | (with_reducible apply moves_notify)
    | (with_reducible refine moves_withTime ?_ _ rfl)
    | split

theorem moves_sampleNow (h : Moves s t) :
    Moves s (t.sampleNow) := by
  unfold State.sampleNow
  try dsimp (config := { proj := false }) only
  repeat' first
    | (with_reducible exact h)
    | (with_reducible assumption)
    | (with_reducible apply moves_queueConversion)
    | (with_reducible apply moves_withLight)
    | split

theorem moves_returnLight (h : Moves s t) :
    Moves s (returnLight t) := by
  unfold returnLight
  try dsimp (config := { proj := false }) only
  repeat' first
    | (with_reducible exact h)
    | (with_reducible assumption)
    | (with_reducible apply moves_sampleNow)
    | split

theorem moves_lightLoss (h : Moves s t) :
    Moves s (lightLoss t) := by
  unfold lightLoss
  try dsimp (config := { proj := false }) only
  repeat' first
    | (with_reducible exact h)
    | (with_reducible assumption)
    | (with_reducible apply moves_withLight)

theorem moves_grantTold (h : Moves s t) (c : Claimant) (units : Nat) :
    Moves s (grantTold c units t) := by
  unfold grantTold
  try dsimp (config := { proj := false }) only
  repeat' first
    | (with_reducible exact h)
    | (with_reducible assumption)
    | (with_reducible apply moves_dialGranted)
    | (with_reducible apply moves_floodGranted)
    | (with_reducible apply moves_hammerGranted)
    | (with_reducible apply moves_swingGranted)
    | split

/-- Every message is handled within what `Moves` allows. -/
theorem moves_handle (h : Moves s t) (m : Msg) : Moves s (handle m t) := by
  cases m with
  | notice n => exact moves_takeNotice h _
  | granted c units => exact moves_grantTold h _ _
  | shedSet => exact moves_shedSet h
  | shedClear => exact moves_shedClear h
  | report b => exact moves_strikeableReport h _
  | blow b v id => exact moves_blowRequest h _ _ _
  | noteDealt => exact moves_noteDealt h
  | withdraw b id => exact moves_withdrawBlow h _ _
  | release bells id => exact moves_releaseBells h _ _
  | completeRelease b => exact moves_completeRelease h _
  | releaseCheck => exact moves_releaseCheck h
  | abort reason id => exact moves_abortPlaying h _ _
  | handed u => exact moves_unitHanded h _
  | failed u reason => exact moves_unitFailed h _ _
  | startStep => exact moves_takeStartStep h
  | judgeEntry e minute now => exact moves_judgeEntry h _ _ _
  | minuteDay m => exact moves_minuteDay h _
  | minuteStrike m => exact moves_minuteStrike h _
  | stepDay old new => exact moves_stepDay h _ _
  | stepStrike old new => exact moves_stepStrike h _ _
  | stepDials civil => exact moves_stepDials h _
  | timeSetDay civil => exact moves_timeSetDay h _
  | timeSetStrike civil => exact moves_timeSetStrike h _
  | timeSetDials civil => exact moves_timeSetDials h _
  | unsetDials => exact moves_unsetDials h
  | unsetFloods => exact moves_unsetFloods h
  | transitionDay st => exact moves_transitionDay h _
  | transitionFloods st => exact moves_transitionFloods h _
  | judgeCircuits l cause => exact moves_judgeCircuits h _ _
  | returnDials cause => exact moves_returnDials h _
  | returnFloods cause => exact moves_returnFloods h _
  | returnLight => exact moves_returnLight h
  | accessBells => exact moves_accessBells h
  | accessSwing => exact moves_accessSwing h
  | accessRun => exact moves_accessRun h
  | accessFloods => exact moves_accessFloods h
  | readyTime => exact moves_readyTime h
  | readyDay => exact moves_readyDay h
  | readyStrike => exact moves_readyStrike h
  | readyDials => exact moves_readyDials h

theorem moves_handleFirst (h : Moves s t) (m : Msg) (rest : List Msg) : Moves s (t.handleFirst m rest) :=
  moves_withAgenda (moves_handle (moves_withAgenda h _) _) _

/-! ## The messages of a command (log 3, log 4) -/

theorem moves_standing (h : Moves s t) {u : State} (e : t.standing = some u) : Moves s u := by
  unfold State.standing at e
  split at e
  · rename_i k
    cases e
    exact moves_finishRun h k
  · cases hd : t.dueHead with
    | none => rw [hd] at e; cases e
    | some p => rw [hd] at e; cases e; exact moves_tryHead h p

/-- What handling every message of a command can do. -/
theorem moves_drain (h : Moves s t) (n : Nat) : Moves s (t.drain n) := by
  induction n generalizing t with
  | zero => exact moves_withAgenda h _
  | succ n ih =>
    unfold State.drain
    split
    · exact ih (moves_handleFirst h _ _)
    · split
      · rename_i e
        exact ih (moves_standing h e)
      · exact h

/-- After the messages of a command none is left. -/
theorem agenda_drain (t : State) (n : Nat) : (t.drain n).agenda = [] := by
  induction n generalizing t with
  | zero => rfl
  | succ n ih =>
    unfold State.drain
    split
    · exact ih _
    · split
      · exact ih _
      · assumption

end Sys2Proof.Machine
end

