-- ==== Sys2Proof/Laws/Commands.lean ====
section
/-! SUPPORT. What a command does around its own effect: the clock's run, the frame of a request, the handling of the
messages, and the transmitter. -/

namespace Sys2Proof.Machine

/-! ## The clock -/

/-- The fields of the time base that its running on leaves alone. -/
structure TimeBase.RunsOn (b c : TimeBase) : Prop where
  state : c.state = b.state
  trim : c.trim = b.trim
  offset : c.offset = b.offset
  lastConf : c.lastConf = b.lastConf
  flagS : c.flagS = b.flagS
  holdStart : c.holdStart = b.holdStart

theorem TimeBase.RunsOn.trans {b c d : TimeBase} (h : b.RunsOn c) (k : c.RunsOn d) : b.RunsOn d :=
  ⟨k.state.trans h.state, k.trim.trans h.trim, k.offset.trans h.offset, k.lastConf.trans h.lastConf,
    k.flagS.trans h.flagS, k.holdStart.trans h.holdStart⟩

theorem TimeBase.runsOn_atPlace (b : TimeBase) (second place : Nat) : b.RunsOn (b.atPlace second place) :=
  ⟨rfl, rfl, rfl, rfl, rfl, rfl⟩

theorem TimeBase.runsOn_slewed (b : TimeBase) (n : Nat) : b.RunsOn (b.slewed n) := ⟨rfl, rfl, rfl, rfl, rfl, rfl⟩

theorem TimeBase.runsOn_endSecond (b : TimeBase) : b.RunsOn b.endSecond := ⟨rfl, rfl, rfl, rfl, rfl, rfl⟩

theorem TimeBase.runsOn_runTrimmed (b : TimeBase) (kept units : Nat) : b.RunsOn (b.runTrimmed kept units) := by
  unfold TimeBase.runTrimmed
  dsimp only
  split
  · exact b.runsOn_atPlace _ _
  · exact (b.runsOn_endSecond.trans (TimeBase.runsOn_slewed _ _)).trans (TimeBase.runsOn_atPlace _ _ _)

/-- What time's passing leaves of the time base. -/
theorem TimeBase.runsOn_advance (b : TimeBase) (n : Nat) : b.RunsOn (b.advance n) := by
  have go : ∀ c : TimeBase, b.RunsOn c → b.RunsOn { c with elapsed := b.elapsed + n } := fun c h =>
    ⟨h.state, h.trim, h.offset, h.lastConf, h.flagS, h.holdStart⟩
  unfold TimeBase.advance
  refine go _ ?_
  split
  · exact ⟨rfl, rfl, rfl, rfl, rfl, rfl⟩
  · exact b.runsOn_runTrimmed _ _

theorem TimeBase.elapsed_advance (b : TimeBase) (n : Nat) : (b.advance n).elapsed = b.elapsed + n := rfl

theorem State.now_runTo (s : State) (n : Nat) : (s.runTo n).now = max s.now n := by
  show s.time.elapsed + (n - s.time.elapsed) = max s.time.elapsed n
  omega

/-- Time's passing changes the time base alone. -/
theorem State.runTo_eq (s : State) (n : Nat) : s.runTo n = s.withTime (s.runTo n).time := rfl

theorem State.runToKept_eq (s : State) (n : Nat) : s.runToKept n = s.withTime (s.runToKept n).time := rfl

/-! ## Commands -/

theorem State.running_of_ready {s : State} (h : s.ready = true) : s.running = true := by
  unfold State.ready at h
  simp only [Bool.and_eq_true] at h
  exact h.1

theorem readyCommand_ready {s : State} (h : s.ready = true) (f : State → State) :
    readyCommand f s = (f s).finish := by
  unfold readyCommand; rw [if_pos h]

theorem readyCommand_not {s : State} (h : s.ready = false) (f : State → State) : readyCommand f s = s := by
  unfold readyCommand; rw [h]; rfl

theorem command_running {s : State} (h : s.running = true) (f : State → State) : command f s = (f s).finish := by
  unfold command; rw [if_pos h]

theorem command_not {s : State} (h : s.running = false) (f : State → State) : command f s = s := by
  unfold command; rw [h]; rfl

/-! ## The transmitter -/

/-- The transmitter touches the link alone. -/
theorem State.pump_eq (s : State) : s.pump = s.withLink s.pump.link := by
  unfold State.pump State.sendListing State.send
  repeat' split
  all_goals rfl

/-- What the transmitter leaves of the link. -/
theorem State.pump_link (s : State) :
    s.pump.link.rate = s.link.rate ∧ s.pump.link.receiver = s.link.receiver ∧ s.pump.link.slotBusy = s.link.slotBusy ∧
      s.pump.link.lastError = s.link.lastError ∧ s.pump.link.lastErrorTime = s.link.lastErrorTime ∧
      s.pump.link.errorCount = s.link.errorCount ∧ s.pump.link.notices.length ≤ s.link.notices.length := by
  unfold State.pump State.sendListing State.send
  repeat' split
  all_goals simp_all

/-! ## The messages of a command -/

/-- What the messages of a command can do, with the transmitter's move after them. -/
theorem State.finish_eq (s : State) : ∃ t, Moves s t ∧ t.agenda = [] ∧ s.finish = t.pump := by
  unfold State.finish
  split
  · exact ⟨_, moves_drain (Moves.refl s) _, agenda_drain _ _, rfl⟩
  · exact ⟨_, moves_withAgenda (Moves.refl s) _, rfl, rfl⟩

/-- Every invariant that the messages and the transmitter keep, at once. -/
theorem State.finish_keeps (s : State) :
    (s.supplySound → s.finish.supplySound) ∧ (s.queuesBounded → s.finish.queuesBounded) ∧
      (s.objectsCanonical → s.finish.objectsCanonical) ∧ s.finish.settled ∧
      (s.mainsNormal = false → s.dark → s.finish.dark) := by
  obtain ⟨t, m, a, e⟩ := s.finish_eq
  have p := t.pump_eq
  have l := t.pump_link.2.2.2.2.2.2
  refine ⟨fun h => ?_, fun h => ?_, fun h => ?_, ?_, fun hm hd => ?_⟩
  · rw [e, p]; exact m.supply h
  · rw [e]
    refine ⟨?_, l.trans (m.notices h.2)⟩
    rw [p]; exact m.queue h.1
  · rw [e, p]; exact m.canon h
  · rw [e, p]; exact a
  · rw [e, p]; exact m.dark hm hd

/-- Where nothing is left and nothing comes about by itself, handling messages does nothing. -/
theorem State.drain_atRest {s : State} (ha : s.agenda = []) (hs : s.standing = none) (n : Nat) : s.drain n = s := by
  cases n with
  | zero =>
    show s.withAgenda [] = s
    rw [← ha]; rfl
  | succ n =>
    unfold State.drain
    rw [ha, hs]

theorem State.finish_atRest {s : State} (hr : s.ready = true) (ha : s.agenda = []) (hs : s.standing = none) :
    s.finish = s.pump := by
  unfold State.finish
  rw [if_pos hr, s.drain_atRest ha hs]

/-! ## A frame (R182) -/

/-- The state in which a frame taken into the slot is executed: all but the link as it was. -/
def State.inSlot (s : State) : State :=
  s.withLink { s.link.heard s.now with
    listing := none, sending := s.link.sending.map fun f => (f.1, f.2.detached), receiver := .hunting, lastByte := none
    slotBusy := true }

/-- A frame in READY with the slot IDLE is executed, and its reply owed. -/
theorem frameCommand_inSlot {s : State} (hr : s.ready = true) (hb : s.link.slotBusy = false) (kind : Byte)
    (body : List Byte) :
    frameCommand kind body s = .next
      ((judgeRequest kind body s.inSlot).1.owe
        { frame := replyFrame kind (judgeRequest kind body s.inSlot).2.1 (judgeRequest kind body s.inSlot).2.2, slot := true
          after := followUp kind body (judgeRequest kind body s.inSlot).2.1 s.link.rate }).finish := by
  have hp : s.start.phase ≠ .loading := by
    intro h
    simp [State.ready, h] at hr
  have hw : wholeFrame kind body s = takeFrame kind body (s.withLink (s.link.heard s.now)) := rfl
  unfold frameCommand
  rw [command_running (State.running_of_ready hr), hw]
  unfold takeFrame
  rw [if_neg (show ¬(s.withLink (s.link.heard s.now)).start.phase = .loading from hp),
    if_neg (show ¬(s.withLink (s.link.heard s.now)).link.slotBusy = true from by show ¬s.link.slotBusy = true; rw [hb]; decide)]
  rfl

/-- The body of a frame at its length, of an assigned kind, with no save in its way, goes to its request. -/
theorem judgeRequest_run {kind : Byte} {body : List Byte} {s : State} (hk : assignedKind kind = true)
    (hs : (writesStore kind.toNat && s.store.saving.isSome) = false)
    (hl : (requiredLength kind.toNat).any (· ≠ body.length) = false) :
    judgeRequest kind body s = runRequest kind.toNat body s := by
  unfold judgeRequest
  rw [hk, hs, hl]
  rfl

end Sys2Proof.Machine
end

