-- ==== Sys2Proof/Laws/Supply.lean ====
section
/-! SUPPORT. What the supply arbiter's operations can do, said once: the arbiter's own record moves, and messages join those
already handed on. Everything else of the part stands. -/

namespace Sys2Proof.Machine

/-- What the arbiter's operations leave as it is. -/
structure Arbitrates (s t : State) : Prop where
  eq : t = (s.withSupply t.supply).withAgenda t.agenda
  appends : ∃ l, t.agenda = s.agenda ++ l

theorem Arbitrates.refl (s : State) : Arbitrates s s := ⟨rfl, [], (List.append_nil _).symm⟩

theorem Arbitrates.trans {s t u : State} (h : Arbitrates s t) (k : Arbitrates t u) : Arbitrates s u := by
  refine ⟨?_, ?_⟩
  · have e := k.eq
    rw [h.eq] at e
    exact e
  · obtain ⟨l, hl⟩ := h.appends
    obtain ⟨m, hm⟩ := k.appends
    exact ⟨l ++ m, by rw [hm, hl, List.append_assoc]⟩

variable {s t : State}

/-! ## The fields that stand -/

theorem Arbitrates.tables (h : Arbitrates s t) : t.tables = s.tables := by rw [h.eq]; rfl
theorem Arbitrates.time (h : Arbitrates s t) : t.time = s.time := by rw [h.eq]; rfl
theorem Arbitrates.refs (h : Arbitrates s t) : t.refs = s.refs := by rw [h.eq]; rfl
theorem Arbitrates.day (h : Arbitrates s t) : t.day = s.day := by rw [h.eq]; rfl
theorem Arbitrates.chime (h : Arbitrates s t) : t.chime = s.chime := by rw [h.eq]; rfl
theorem Arbitrates.bells (h : Arbitrates s t) : t.bells = s.bells := by rw [h.eq]; rfl
theorem Arbitrates.units (h : Arbitrates s t) : t.units = s.units := by rw [h.eq]; rfl
theorem Arbitrates.run (h : Arbitrates s t) : t.run = s.run := by rw [h.eq]; rfl
theorem Arbitrates.dials (h : Arbitrates s t) : t.dials = s.dials := by rw [h.eq]; rfl
theorem Arbitrates.floods (h : Arbitrates s t) : t.floods = s.floods := by rw [h.eq]; rfl
theorem Arbitrates.light (h : Arbitrates s t) : t.light = s.light := by rw [h.eq]; rfl
theorem Arbitrates.converter (h : Arbitrates s t) : t.converter = s.converter := by rw [h.eq]; rfl
theorem Arbitrates.power (h : Arbitrates s t) : t.power = s.power := by rw [h.eq]; rfl
theorem Arbitrates.store (h : Arbitrates s t) : t.store = s.store := by rw [h.eq]; rfl
theorem Arbitrates.start (h : Arbitrates s t) : t.start = s.start := by rw [h.eq]; rfl
theorem Arbitrates.link (h : Arbitrates s t) : t.link = s.link := by rw [h.eq]; rfl
theorem Arbitrates.pending (h : Arbitrates s t) : t.pending = s.pending := by rw [h.eq]; rfl

/-! ## The operations -/

theorem arbitrates_withSupply (h : Arbitrates s t) (v : Supply) : Arbitrates s (t.withSupply v) :=
  h.trans ⟨rfl, [], (List.append_nil _).symm⟩

theorem arbitrates_postAll (h : Arbitrates s t) (l : List Msg) : Arbitrates s (t.postAll l) := h.trans ⟨rfl, l, rfl⟩

theorem arbitrates_post (h : Arbitrates s t) (m : Msg) : Arbitrates s (t.post m) := arbitrates_postAll h [m]

theorem arbitrates_notify (h : Arbitrates s t) (n : NoticeBody) : Arbitrates s (t.notify n) := arbitrates_post h _

theorem arbitrates_shedCheck (h : Arbitrates s t) : Arbitrates s t.shedCheck := by
  unfold State.shedCheck
  dsimp only
  split
  · exact arbitrates_post (arbitrates_notify (arbitrates_withSupply h _) _) _
  · exact h

theorem arbitrates_serve (h : Arbitrates s t) : Arbitrates s t.serve := by
  unfold State.serve
  dsimp only
  split
  · exact arbitrates_shedCheck (arbitrates_postAll (arbitrates_withSupply h _) _)
  · exact arbitrates_postAll (arbitrates_withSupply h _) _

theorem arbitrates_withdrawAll (h : Arbitrates s t) (l : List Claimant) : Arbitrates s (t.withdrawAll l) := by
  unfold State.withdrawAll
  dsimp only
  split
  · refine arbitrates_serve ?_
    split
    · exact arbitrates_shedCheck (arbitrates_withSupply h _)
    · exact arbitrates_withSupply h _
  · exact h

theorem arbitrates_withdraw (h : Arbitrates s t) (c : Claimant) : Arbitrates s (t.withdraw c) :=
  arbitrates_withdrawAll h [c]

theorem arbitrates_request (h : Arbitrates s t) (c : Claimant) (units : Nat) : Arbitrates s (t.request c units) := by
  unfold State.request
  dsimp only
  refine arbitrates_serve ?_
  have k := fun v => arbitrates_withSupply (arbitrates_withdraw h c) v
  repeat' split
  all_goals first | exact k _ | exact arbitrates_notify (k _) _

theorem arbitrates_release (h : Arbitrates s t) (c : Claimant) (units : Nat) : Arbitrates s (t.release c units) := by
  unfold State.release
  split
  · exact h
  · exact arbitrates_serve (arbitrates_withSupply h _)

theorem arbitrates_releaseAll (h : Arbitrates s t) (c : Claimant) : Arbitrates s (t.releaseAll c) :=
  arbitrates_release h c _

/-! ## What stands through a withdrawal, a request and a release -/

@[simp] theorem State.withdraw_tables (s : State) (c : Claimant) : (s.withdraw c).tables = s.tables :=
  (arbitrates_withdraw (.refl s) c).tables
@[simp] theorem State.withdraw_time (s : State) (c : Claimant) : (s.withdraw c).time = s.time :=
  (arbitrates_withdraw (.refl s) c).time
@[simp] theorem State.withdraw_refs (s : State) (c : Claimant) : (s.withdraw c).refs = s.refs :=
  (arbitrates_withdraw (.refl s) c).refs
@[simp] theorem State.withdraw_day (s : State) (c : Claimant) : (s.withdraw c).day = s.day :=
  (arbitrates_withdraw (.refl s) c).day
@[simp] theorem State.withdraw_chime (s : State) (c : Claimant) : (s.withdraw c).chime = s.chime :=
  (arbitrates_withdraw (.refl s) c).chime
@[simp] theorem State.withdraw_bells (s : State) (c : Claimant) : (s.withdraw c).bells = s.bells :=
  (arbitrates_withdraw (.refl s) c).bells
@[simp] theorem State.withdraw_units (s : State) (c : Claimant) : (s.withdraw c).units = s.units :=
  (arbitrates_withdraw (.refl s) c).units
@[simp] theorem State.withdraw_run (s : State) (c : Claimant) : (s.withdraw c).run = s.run :=
  (arbitrates_withdraw (.refl s) c).run
@[simp] theorem State.withdraw_dials (s : State) (c : Claimant) : (s.withdraw c).dials = s.dials :=
  (arbitrates_withdraw (.refl s) c).dials
@[simp] theorem State.withdraw_floods (s : State) (c : Claimant) : (s.withdraw c).floods = s.floods :=
  (arbitrates_withdraw (.refl s) c).floods
@[simp] theorem State.withdraw_light (s : State) (c : Claimant) : (s.withdraw c).light = s.light :=
  (arbitrates_withdraw (.refl s) c).light
@[simp] theorem State.withdraw_converter (s : State) (c : Claimant) : (s.withdraw c).converter = s.converter :=
  (arbitrates_withdraw (.refl s) c).converter
@[simp] theorem State.withdraw_power (s : State) (c : Claimant) : (s.withdraw c).power = s.power :=
  (arbitrates_withdraw (.refl s) c).power
@[simp] theorem State.withdraw_store (s : State) (c : Claimant) : (s.withdraw c).store = s.store :=
  (arbitrates_withdraw (.refl s) c).store
@[simp] theorem State.withdraw_start (s : State) (c : Claimant) : (s.withdraw c).start = s.start :=
  (arbitrates_withdraw (.refl s) c).start
@[simp] theorem State.withdraw_link (s : State) (c : Claimant) : (s.withdraw c).link = s.link :=
  (arbitrates_withdraw (.refl s) c).link
@[simp] theorem State.withdraw_pending (s : State) (c : Claimant) : (s.withdraw c).pending = s.pending :=
  (arbitrates_withdraw (.refl s) c).pending

@[simp] theorem State.request_tables (s : State) (c : Claimant) (n : Nat) : (s.request c n).tables = s.tables :=
  (arbitrates_request (.refl s) c n).tables
@[simp] theorem State.request_time (s : State) (c : Claimant) (n : Nat) : (s.request c n).time = s.time :=
  (arbitrates_request (.refl s) c n).time
@[simp] theorem State.request_refs (s : State) (c : Claimant) (n : Nat) : (s.request c n).refs = s.refs :=
  (arbitrates_request (.refl s) c n).refs
@[simp] theorem State.request_day (s : State) (c : Claimant) (n : Nat) : (s.request c n).day = s.day :=
  (arbitrates_request (.refl s) c n).day
@[simp] theorem State.request_chime (s : State) (c : Claimant) (n : Nat) : (s.request c n).chime = s.chime :=
  (arbitrates_request (.refl s) c n).chime
@[simp] theorem State.request_bells (s : State) (c : Claimant) (n : Nat) : (s.request c n).bells = s.bells :=
  (arbitrates_request (.refl s) c n).bells
@[simp] theorem State.request_units (s : State) (c : Claimant) (n : Nat) : (s.request c n).units = s.units :=
  (arbitrates_request (.refl s) c n).units
@[simp] theorem State.request_run (s : State) (c : Claimant) (n : Nat) : (s.request c n).run = s.run :=
  (arbitrates_request (.refl s) c n).run
@[simp] theorem State.request_dials (s : State) (c : Claimant) (n : Nat) : (s.request c n).dials = s.dials :=
  (arbitrates_request (.refl s) c n).dials
@[simp] theorem State.request_floods (s : State) (c : Claimant) (n : Nat) : (s.request c n).floods = s.floods :=
  (arbitrates_request (.refl s) c n).floods
@[simp] theorem State.request_light (s : State) (c : Claimant) (n : Nat) : (s.request c n).light = s.light :=
  (arbitrates_request (.refl s) c n).light
@[simp] theorem State.request_converter (s : State) (c : Claimant) (n : Nat) : (s.request c n).converter = s.converter :=
  (arbitrates_request (.refl s) c n).converter
@[simp] theorem State.request_power (s : State) (c : Claimant) (n : Nat) : (s.request c n).power = s.power :=
  (arbitrates_request (.refl s) c n).power
@[simp] theorem State.request_store (s : State) (c : Claimant) (n : Nat) : (s.request c n).store = s.store :=
  (arbitrates_request (.refl s) c n).store
@[simp] theorem State.request_start (s : State) (c : Claimant) (n : Nat) : (s.request c n).start = s.start :=
  (arbitrates_request (.refl s) c n).start
@[simp] theorem State.request_link (s : State) (c : Claimant) (n : Nat) : (s.request c n).link = s.link :=
  (arbitrates_request (.refl s) c n).link
@[simp] theorem State.request_pending (s : State) (c : Claimant) (n : Nat) : (s.request c n).pending = s.pending :=
  (arbitrates_request (.refl s) c n).pending

@[simp] theorem State.release_tables (s : State) (c : Claimant) (n : Nat) : (s.release c n).tables = s.tables :=
  (arbitrates_release (.refl s) c n).tables
@[simp] theorem State.release_time (s : State) (c : Claimant) (n : Nat) : (s.release c n).time = s.time :=
  (arbitrates_release (.refl s) c n).time
@[simp] theorem State.release_refs (s : State) (c : Claimant) (n : Nat) : (s.release c n).refs = s.refs :=
  (arbitrates_release (.refl s) c n).refs
@[simp] theorem State.release_day (s : State) (c : Claimant) (n : Nat) : (s.release c n).day = s.day :=
  (arbitrates_release (.refl s) c n).day
@[simp] theorem State.release_chime (s : State) (c : Claimant) (n : Nat) : (s.release c n).chime = s.chime :=
  (arbitrates_release (.refl s) c n).chime
@[simp] theorem State.release_bells (s : State) (c : Claimant) (n : Nat) : (s.release c n).bells = s.bells :=
  (arbitrates_release (.refl s) c n).bells
@[simp] theorem State.release_units (s : State) (c : Claimant) (n : Nat) : (s.release c n).units = s.units :=
  (arbitrates_release (.refl s) c n).units
@[simp] theorem State.release_run (s : State) (c : Claimant) (n : Nat) : (s.release c n).run = s.run :=
  (arbitrates_release (.refl s) c n).run
@[simp] theorem State.release_dials (s : State) (c : Claimant) (n : Nat) : (s.release c n).dials = s.dials :=
  (arbitrates_release (.refl s) c n).dials
@[simp] theorem State.release_floods (s : State) (c : Claimant) (n : Nat) : (s.release c n).floods = s.floods :=
  (arbitrates_release (.refl s) c n).floods
@[simp] theorem State.release_light (s : State) (c : Claimant) (n : Nat) : (s.release c n).light = s.light :=
  (arbitrates_release (.refl s) c n).light
@[simp] theorem State.release_converter (s : State) (c : Claimant) (n : Nat) : (s.release c n).converter = s.converter :=
  (arbitrates_release (.refl s) c n).converter
@[simp] theorem State.release_power (s : State) (c : Claimant) (n : Nat) : (s.release c n).power = s.power :=
  (arbitrates_release (.refl s) c n).power
@[simp] theorem State.release_store (s : State) (c : Claimant) (n : Nat) : (s.release c n).store = s.store :=
  (arbitrates_release (.refl s) c n).store
@[simp] theorem State.release_start (s : State) (c : Claimant) (n : Nat) : (s.release c n).start = s.start :=
  (arbitrates_release (.refl s) c n).start
@[simp] theorem State.release_link (s : State) (c : Claimant) (n : Nat) : (s.release c n).link = s.link :=
  (arbitrates_release (.refl s) c n).link
@[simp] theorem State.release_pending (s : State) (c : Claimant) (n : Nat) : (s.release c n).pending = s.pending :=
  (arbitrates_release (.refl s) c n).pending

end Sys2Proof.Machine
end

