-- ==== Sys2Proof/Tests/Slice0.lean ====
section
/-! SUPPORT. The model's own tests: ill-formed commands, a state that meets the hypotheses of each statement clause by
clause, and a few commands on a small state. -/

namespace Sys2Proof.Tests

open Sys2Proof.Machine Sys2Proof.Claims

/-! ## Ill-formed commands -/

theorem test_bodyOf249 : (Instr.status (List.replicate 249 0)).wellFormed = true := by decide +kernel
theorem test_bodyOf250 : (Instr.status (List.replicate 250 0)).wellFormed = false := by decide +kernel
theorem test_unknownBodyOf250 : (Instr.unknownKindFrame 0x7F (List.replicate 250 0)).wellFormed = false := by decide +kernel
theorem test_unknownKind : (Instr.unknownKindFrame 0x0B []).wellFormed = true := by decide
theorem test_unknownKindAssigned : (Instr.unknownKindFrame 0x0A []).wellFormed = false := by decide
theorem test_noBytesDiscarded : (Instr.frameDiscarded []).wellFormed = false := by decide
theorem test_noCharacters : (Instr.telegramRecord []).wellFormed = false := by decide
theorem test_claimantHammer : (Instr.shedTimerExpiry (.hammer 16)).wellFormed = false := by decide
theorem test_claimantDial : (Instr.shedTimerExpiry (.dial 4)).wellFormed = false := by decide
theorem test_claimantSwing : (Instr.shedTimerExpiry (.swing 6)).wellFormed = false := by decide
theorem test_claimantFlood : (Instr.shedTimerExpiry (.flood 12)).wellFormed = false := by decide
theorem test_claimants : [Claimant.hammer 15, .dial 3, .swing 5, .flood 11].all Claimant.wf = true := by decide

/-! ## Small states -/

/-- READY with mains NORMAL, access CLEAR and the key ON. -/
def base : State :=
  { State.reset with
    start := { start0 with phase := .ready }
    power := { power0 with mains := .normal, settle := none, key := .on, keyShows := .on } }

def baseTables (t : Tables) : State := { base with tables := t }

/-- `base` with the bell, unit, dial or circuit 0 given. -/
def withBell0 (w : Bell) : State := base.setBell 0 w
def withUnit0 (w : SwingUnit) : State := base.setUnit 0 w
def withDial0 (w : Dial) : State := base.setDial 0 w
def withCircuit0 (w : Circuit) : State := base.setCircuit 0 w

/-- The bell of slot 0 in use, fitted and enabled, bound to unit 0. -/
def rungTables : Tables :=
  { tables0 with bell := [(0, { bellRec0 with inUse := true, fitted := true, enabled := true, swing := some 0 })] }

def switchedTables : Tables :=
  { tables0 with circuit := [(0, { circuitRec0 with inUse := true, kind := .switched, surge := 45, restrike := 600 })] }

def dimmedTables : Tables := { tables0 with circuit := [(0, { circuitRec0 with inUse := true })] }

def atRestUnit : SwingUnit := { unit0 with state := .rest, referenced := true, settle := none }

/-- `s` with access ACTIVE; with mains lost. -/
def closed (s : State) : State := { s with power := { s.power with access := .active } }
def lost (s : State) : State := { s with power := { s.power with mains := .reserve } }

def after (i : Instr) (s : State) : State :=
  match exec i s with
  | .next t => t
  | .fault _ => s
  | .refused _ => s

theorem base_slotFree : slotFree base := ⟨rfl, rfl⟩

/-! ## What the hypotheses of the statements are met by -/

theorem witness_StepRunsFrontCommand :
    ({ base with pending := [.mainsLineAbsent, .loadingEnd] }).pending = .mainsLineAbsent :: [.loadingEnd] := rfl

theorem witness_TheClock : State.reset.pending = [] ∧ base.pending = [] := ⟨rfl, rfl⟩

theorem witness_MessagesOfACommand : base.ready = true ∧ atRest base := ⟨rfl, rfl, by decide +kernel⟩

theorem witness_GrantsStayWithinBudget :
    ({ base with supply := { supply0 with grants := [(0, 200)] }, pending := [.mainsLineAbsent] }).supplySound ∧
      ∃ t, step { base with supply := { supply0 with grants := [(0, 200)] }, pending := [.mainsLineAbsent] } = .next t :=
  ⟨by unfold State.supplySound; decide +kernel, _, rfl⟩

theorem witness_NothingDrivenWithoutMains :
    ({ State.reset with pending := [.loadingEnd] }).darkWithoutMains ∧
      (∃ t, step { State.reset with pending := [.loadingEnd] } = .next t) ∧ State.reset.mainsNormal = false ∧
      (base.withStart { base.start with resetHeld := true }).darkWithoutMains ∧
      (base.withStart { base.start with resetHeld := true }).running = false :=
  ⟨fun _ => by unfold State.dark; decide +kernel, ⟨_, rfl⟩, rfl, fun _ => by unfold State.dark; decide +kernel, rfl⟩

/-- Sixteen performances. -/
def fullQueue : List Perf :=
  (List.range 16).map fun i =>
    { id := i, kind := .toll, args := .strokes 0 1 2000 .full, origin := .request, entry := none, due := 0, deadline := 9,
      playing := false, blocked := true, rep := 0, note := 0, lost := 0, clipped := 0 }

def filled : State := { base with chime := { chime0 with queue := fullQueue, nextId := 16 } }

theorem witness_QueuesAndRepresentation_queues :
    ({ filled with pending := [.play [1, 0, 1, 2, 0, 0, 0]] }).queuesBounded ∧
      ∃ t, step { filled with pending := [.play [1, 0, 1, 2, 0, 0, 0]] } = .next t :=
  ⟨by unfold State.queuesBounded; decide +kernel, _, rfl⟩

theorem witness_QueuesAndRepresentation_form :
    State.reset.objectsCanonical ∧ State.reset.tablesCanonical ∧ State.reset.settled ∧
      ∃ t, step { State.reset with pending := [.loadingEnd] } = .next t :=
  ⟨by unfold State.objectsCanonical; decide +kernel, by unfold State.tablesCanonical Tables.canonical; decide +kernel, rfl, _, rfl⟩

/-- A record's own bytes, of the length of a PUT, that a PUT reads. -/
def readable {α : Type} (rooms : List Room) (read : List Nat → Option α) (items : α → List Item) (r : α) : Prop :=
  (pack (items r)).length = roomBytes rooms ∧ ((unpack rooms (pack (items r))).bind read).isSome = true

theorem witness_RecordsReadBack :
    readable bellRooms readBell bellItems bellRec0 ∧ readable swingRooms readSwing swingItems swingRec0 ∧
    readable planRooms readPlan planItems plan0 ∧ readable tuneRooms readTune tuneItems tune0 ∧
    readable noteRooms readNote noteItems note0 ∧ readable dialRooms readDial dialItems dialRec0 ∧
    readable circuitRooms readCircuit circuitItems circuitRec0 ∧ readable sceneRooms readScene sceneItems scene0 ∧
    readable entryRooms readEntry entryItems { entry0 with days := 1, classes := 15 } ∧
    readable specialRooms readSpecial specialItems special0 ∧
    readable sunRooms readSun sunItems { dusk := some 1439, dawn := none } ∧
    readable timeRooms readTime timeItems timeSettings0 ∧ readable strikeRooms readStrike strikeItems strikeSettings0 ∧
    readable lightRooms readLight lightItems lightSettings0 ∧ readable supplyRooms readSupply supplyItems supplySettings0 ∧
    readable hammerRooms readHammer hammerItems hammerSettings0 ∧
    readable noticeRooms readNotice noticeItems noticeMask0 := by
  unfold readable
  decide +kernel

theorem witness_RestrikeTimeIsKept :
    let lit : State := (baseTables switchedTables).setCircuit 0 { circuit0 with state := .on, demand := 100 }
    let cooling : State := lit.setCircuit 0 { circuit0 with state := .cooling, timer := some 0 }
    (lit.circuitRec 0).kind = .switched ∧ (lit.circuit 0).state = .on ∧
      (∃ t, step { lit with pending := [.mainsLineAbsent] } = .next t ∧ t.start.phase = .ready) ∧
      (cooling.circuit 0).state = .cooling ∧ (cooling.circuit 0).timer = some 0 ∧
      ∃ t, step { cooling with pending := [.restrikeEnd 0] } = .next t ∧ t.start.phase = .ready :=
  ⟨by decide +kernel, by decide +kernel, ⟨_, rfl, by decide +kernel⟩, by decide +kernel, by decide +kernel, _, rfl,
    by decide +kernel⟩

theorem witness_RecoveryTimeIsKept :
    let pulse := withBell0 { bell0 with hammer := .pulse 40 (some 20) }
    let recovery := withBell0 { bell0 with hammer := .recovery 600 }
    (pulse.bell 0).hammer = .pulse 40 (some 20) ∧ (recovery.bell 0).hammer = .recovery 600 ∧
      (∃ t, step { pulse with pending := [.pulseEnd 0] } = .next t ∧ t.start.phase = .ready) ∧
      ∃ t, step { recovery with pending := [.recoveryEnd 0] } = .next t ∧ t.start.phase = .ready :=
  ⟨by decide +kernel, by decide +kernel, ⟨_, rfl, by decide +kernel⟩, _, rfl, by decide +kernel⟩

/-! ### The link -/

/-- `base` with the request slot BUSY, and with a save in progress. -/
def busy : State := base.withLink { link0 with slotBusy := true }
def saving : State := base.withStore { store0 with saving := some { writing := .bell, rest := tableOrder.drop 1, failed := [] } }

theorem witness_FramesNotExecuted :
    frameOf (.get [0, 0, 0]) = some (0x04, [0, 0, 0]) ∧ State.reset.running = true ∧ State.reset.start.phase = .loading ∧
      busy.ready = true ∧ busy.link.slotBusy = true ∧ slotFree base ∧ assignedKind 0x3F = false ∧ slotFree saving ∧
      saving.store.saving.isSome = true ∧ frameOf (.put []) = some (0x05, []) ∧ frameOf (.erase []) = some (0x06, []) ∧
      frameOf (.save []) = some (0x08, []) ∧ frameOf (.restart []) = some (0x09, []) ∧ base.store.saving = none ∧
      assignedKind 0x04 = true ∧ requiredLength 4 = some 3 ∧ ([0, 0] : List Byte).length ≠ 3 :=
  ⟨rfl, rfl, rfl, rfl, rfl, base_slotFree, by decide, ⟨rfl, rfl⟩, rfl, rfl, rfl, rfl, rfl, rfl, by decide, by decide, by decide⟩

theorem witness_Reports : slotFree base := base_slotFree

theorem witness_FaultsReported :
    let faulty := withUnit0 { atRestUnit with state := .fault, fault := .encoderSlip, newMark := true }
    slotFree faulty ∧ (faulty.unit 0).state = .fault ∧ (faulty.unit 0).drive = .idle ∧
      ((withUnit0 { atRestUnit with newMark := true }).unit 0).state ≠ .fault ∧
      slotFree (withBell0 { bell0 with fault := .opened, newMark := true }) ∧
      16 ≤ (16 : Byte).toNat ∧ 6 ≤ (6 : Byte).toNat ∧ (1 : Byte) ≠ 0 := by
  unfold slotFree
  decide +kernel

theorem witness_GetReadsTheRecord :
    slotFree base ∧ inTable 0 15 = true ∧ inTable 0 16 = false ∧ inTable 11 5 = true ∧ inTable 12 0 = false :=
  ⟨base_slotFree, by decide, by decide, by decide, by decide⟩

theorem witness_ListAndErase :
    slotFree base ∧ base.store.saving = none ∧ inTable 0 0 = true ∧ inTable 0 (0 + 16 - 1) = true ∧
      inTable 0 (0 + 17 - 1) = false ∧ inTable 7 16 = false :=
  ⟨base_slotFree, rfl, by decide, by decide, by decide, by decide⟩

theorem witness_PutHammerCheck :
    slotFree base ∧ base.store.saving = none ∧
      (0x03 * 256 + 0xFE ≤ 1022 ∧ 1 ≤ 0x03 * 256 + 0xFF ∧ 0x03 * 256 + 0xFF ≤ 1023 ∧ 0x03 * 256 + 0xFE < 0x03 * 256 + 0xFF) ∧
      ¬(5 ≤ 1022 ∧ 1 ≤ 5 ∧ 5 ≤ 1023 ∧ 5 < 5) := ⟨base_slotFree, rfl, by decide, by decide⟩

/-- Twenty units granted, with the key OFF and with it ON. -/
def granted20 : State := { base with supply := { supply0 with grants := [(0, 20)] } }
def keyOff : State := { base with power := { base.power with key := .off } }

theorem witness_WritesOfTables_supply :
    slotFree granted20 ∧ granted20.store.saving = none ∧ granted20.keyOn = true ∧ granted20.supply.total = 20 ∧
      slotFree keyOff ∧ keyOff.keyOn = false ∧ (20 : Nat) ≠ keyOff.tables.supply.budget ∧
      ({ granted20 with supply := { supply0 with grants := [(0, 21)] } }).supply.total = 21 :=
  ⟨⟨rfl, rfl⟩, rfl, rfl, by decide +kernel, ⟨rfl, rfl⟩, rfl, by decide, by decide +kernel⟩

/-- A performance of tune 0 plays. -/
def inTune : State :=
  { base with
    chime := { chime0 with
      playing := some
        { id := 0, run := none, tune := some 0, bells := [], started := 0, marks := [], phase := .tail 0 } } }

theorem witness_WritesOfTables :
    (putValues 12 0 [] base).2 ≠ .ok ∧ (eraseEntry 3 0 inTune).2 ≠ .ok ∧
      (putBell 15 bellRec0 base).2 = .ok ∧ (putSwing 0 swingRec0 (withUnit0 atRestUnit)).2 = .ok ∧
      (putPlan 7 plan0 base).2 = .ok ∧ (putTune 63 tune0 base).2 = .ok ∧ (putNote 511 note0 base).2 = .ok ∧
      (putDial 3 dialRec0 base).2 = .ok ∧ (putCircuit 11 circuitRec0 base).2 = .ok := by decide +kernel

theorem witness_WritesOfTables_judged :
    inTable 12 0 = false ∧ inTable 11 3 = true ∧ ([] : List Byte).length ≠ roomBytes (recordRooms 11 3) ∧
      (unpack (recordRooms 11 3) [0, 20, 0, 20]).isSome = true ∧
      roomBytes (recordRooms 0 15) = (List.replicate (roomBytes (recordRooms 0 15)) (255 : Byte)).length ∧
      unpack (recordRooms 0 15) (List.replicate (roomBytes (recordRooms 0 15)) 255) = none ∧ readBell [] = none ∧
      readSupply [20, 20] = some { budget := 20, delay := 20 } := by decide +kernel

/-- Bell 0 in use and bound to unit 0, in records that the key gates. -/
theorem witness_WritesOfTables_bell :
    let s := baseTables rungTables
    let rest : State := { s with units := [(0, atRestUnit)] }
    let new := { bellRec0 with inUse := true, swing := some 0 }
    let busy := rest.setBell 1 { bell0 with claim := .struck 3 }
    (keyOff.keyOn = false ∧ { new with enabled := false, coilCheck := false } ≠ keyOff.bellRec 1) ∧ s.keyOn = true ∧
      (busy.bell 1).claim ≠ .free ∧ (rest.bell 1).claim = .free ∧
      (new.inUse = true ∧ new.swing = some 0 ∧ (s.unit 0).state ≠ .rest ∧ (s.bellRec 1).inUse = false) ∧
      (rest.unit 0).state = .rest ∧ ((0 : Nat) < 16 ∧ 0 ≠ 1 ∧ (rest.bellRec 0).inUse = true ∧ (rest.bellRec 0).swing = some 0) ∧
      (bellRec0.inUse = false ∧ { bellRec0 with enabled := true } ≠ bellRec0) := by decide +kernel

theorem witness_WritesOfTables_owners :
    let rest := withUnit0 atRestUnit
    let run : State := { base with run := { pealRun0 with state := .starting, plan := 7 } }
    let noted : State := { base with chime := { chime0 with playing := inTune.chime.playing.map fun pl =>
      { pl with run := some { first := 500, count := 12, tempo := 100 } } } }
    (keyOff.keyOn = false ∧ { swingRec0 with units := 21 } ≠ keyOff.swingRec 0) ∧ (base.unit 0).state ≠ .rest ∧
      (rest.unit 0).state = .rest ∧ (rest.unit 0).startPending = false ∧ (run.run.state ≠ .idle ∧ run.run.plan = 7) ∧
      base.run.state = .idle ∧ inTune.chime.playing.isSome = true ∧ (inTune.chime.playing.any fun pl => pl.tune = some 0) = true ∧
      base.chime.playing = none ∧ (500 ≤ 511 ∧ 511 < 500 + 12) ∧
      (noted.chime.playing.any fun pl => pl.run.any fun r => r.first = 500 ∧ r.count = 12) = true := by decide +kernel

theorem witness_WritesOfTables_dial :
    let put (w : Dial) (old : DialRec) : State := (baseTables { tables0 with dial := [(3, old)] }).setDial 3 w
    let new := { dialRec0 with inUse := true }
    let moving := put { dial0 with state := .advancing } new
    let standing := put { dial0 with state := .stopped } new
    let flying := put { dial0 with inFlight := true } { dialRec0 with units := 9 }
    (keyOff.keyOn = false ∧ new ≠ keyOff.dialRec 3) ∧ moving.keyOn = true ∧
      ((moving.dialRec 3).inUse = true ∧ (moving.dial 3).state ≠ .unknown ∧ (moving.dial 3).state ≠ .stopped) ∧
      ((put { dial0 with drive := .waiting true } dialRec0).dial 3).drive ≠ .idle ∧ (standing.dial 3).state = .stopped ∧
      (standing.dial 3).drive = .idle ∧ (standing.dialRec 3).interval ≠ ({ new with interval := 60 } : DialRec).interval ∧
      (flying.dialRec 3).interval = new.interval ∧ ((flying.dialRec 3).inUse = false ∧ new.inUse = true) ∧
      flying.mainsNormal = true ∧ (flying.dial 3).inFlight = true ∧ (flying.dial 3).drive = .idle ∧
      (put dial0 dialRec0 |>.dial 3).inFlight = false ∧ (lost flying).mainsNormal = false := by decide +kernel

theorem witness_WritesOfTables_days :
    let day : Special := { used := true, month := 2, day := 29, year := none, cls := 3 }
    let s := baseTables { tables0 with special := [(47, day)] }
    let today : Today := { day := 59, cls := .weekday 2, special := none, dusk := none, dawn := none, last := none }
    let now : State := { base with day := { dayProgramme0 with today := some today } }
    (keyOff.keyOn = false ∧ { circuitRec0 with inUse := true } ≠ keyOff.circuitRec 11) ∧ base.keyOn = true ∧
      ((withCircuit0 { circuit0 with state := .cooling }).circuit 0).state ≠ .off ∧ (base.circuit 11).state = .off ∧
      (day.used = true ∧ 47 < 48 ∧ (47 : Nat) ≠ 0 ∧ (s.specialRec 47).used = true ∧ (s.specialRec 47).month = day.month ∧
        (s.specialRec 47).day = day.day ∧ (s.specialRec 47).year = day.year) ∧
      (∀ o < 48, (base.specialRec o).used = false) ∧ base.day.today = none ∧ now.day.today = some today := by decide +kernel

theorem witness_SaveWritesEveryTable :
    slotFree base ∧ base.store.saving = none ∧ saving.ready = true ∧
      saving.store.saving = some { writing := .bell, rest := .swing :: tableOrder.drop 2, failed := [] } ∧
      (base.withStore { store0 with saving := some { writing := .notice, rest := [], failed := [] } }).store.saving =
        some { writing := .notice, rest := [], failed := [] } := ⟨base_slotFree, rfl, rfl, rfl, rfl⟩

/-- A state whose transmitter sends the empty frame of a sort. -/
def sending (k : Sent) : State := base.withLink { link0 with slotBusy := true, sending := some ([], k) }

theorem witness_RestartAndRate :
    slotFree base ∧ base.store.saving = none ∧ (sending (.reply true .restart)).running = true ∧
      (sending (.reply true .restart)).link.sending = some ([], .reply true .restart) ∧
      (sending (.reply true (.rate .r19200))).link.sending = some ([], .reply true (.rate .r19200)) ∧
      3 ≤ (3 : Byte).toNat := ⟨base_slotFree, rfl, rfl, rfl, rfl, by decide⟩

theorem witness_Transmitter :
    (sending .notice).link.sending.isSome = true ∧
      (base.withLink { link0 with owed := [{ frame := { kind := 0, body := [] }, slot := true, after := .nothing }] }).link.owed =
        { frame := { kind := 0, body := [] }, slot := true, after := .nothing } :: [] ∧
      (base.withLink { link0 with listing := some { table := 0, next := 15, last := 15 } }).link.listing =
        some { table := 0, next := 15, last := 15 } ∧
      (base.withLink { link0 with notices := [{ lost := false, lostCount := 0, elapsed := 0, body := .saved [] }] }).link.notices =
        { lost := false, lostCount := 0, elapsed := 0, body := .saved [] } :: [] ∧
      (base.running = true ∧ base.link.sending = none ∧ base.link.owed = [] ∧ base.link.listing = none ∧ base.link.notices = []) ∧
      (sending (.reply true .nothing)).link.sending = some ([], .reply true .nothing) ∧
      (sending (.reply false .nothing)).link.sending = some ([], .reply false .nothing) ∧
      (sending .notice).link.sending = some ([], .notice) ∧
      (sending (.listing false)).link.sending = some ([], .listing false) ∧
      (sending (.listing true)).link.sending = some ([], .listing true) :=
  ⟨rfl, rfl, rfl, rfl, ⟨rfl, rfl, rfl, rfl, rfl⟩, rfl, rfl, rfl, rfl, rfl⟩

theorem witness_DiscardedFrame :
    let at_ (r : Receiver) : State := base.withLink { link0 with receiver := r, lastByte := some 0 }
    base.running = true ∧ base.link.receiver = .hunting ∧ (at_ .length).link.receiver = .length ∧
      (at_ .length).link.receiver ≠ .hunting ∧ (at_ .length).link.lastByte = some 0 ∧
      (base.now + 20 ≤ 0 + 20 ∧ 0 + 20 < base.now + 21) ∧ (0 : Byte).toNat = 0 ∧ 250 < (251 : Byte).toNat ∧
      (1 ≤ (1 : Byte).toNat ∧ (250 : Byte).toNat ≤ 250) ∧ (at_ (.frame 2 [])).link.receiver = .frame 2 [] ∧
      ([] : List Byte).length + 1 < 2 ∧ (at_ (.check [0x01] (some 0))).link.receiver = .check (0x01 :: []) (some 0) ∧
      (0 : Byte).toNat * 256 + (0 : Byte).toNat ≠ crc (byte (([] : List Byte).length + 1) :: 0x01 :: []) ∧ (0 : Byte) ≠ 0xC3 :=
  ⟨rfl, rfl, rfl, by decide, rfl, by decide, rfl, by decide, by decide, rfl, by decide, rfl, by decide +kernel, by decide⟩

/-- The last byte of kind and body, the first check byte, and the check bytes of a STATUS request that agree. -/
theorem witness_DiscardedFrame_completes :
    let at_ (r : Receiver) : State := base.withLink { link0 with receiver := r, lastByte := some 0 }
    let check := crc (byte (([] : List Byte).length + 1) :: 0x01 :: [])
    (at_ (.frame 1 [])).link.receiver = .frame 1 [] ∧ 1 ≤ ([] : List Byte).length + 1 ∧
      (at_ (.check [0x01] none)).link.receiver = .check [0x01] none ∧
      (at_ (.check [0x01] (some (byte (check / 256))))).link.receiver = .check (0x01 :: []) (some (byte (check / 256))) ∧
      frameOf (.status []) = some (0x01, []) ∧
      (byte (check / 256)).toNat * 256 + (byte check).toNat = crc (byte (([] : List Byte).length + 1) :: 0x01 :: []) ∧
      (at_ (.frame 1 [])).link.lastByte = some 0 ∧ base.now + 20 ≤ 0 + 20 := by decide +kernel

theorem witness_NoticeQueue :
    let n := NoticeBody.saved []
    let note : Notice := { lost := false, lostCount := 0, elapsed := 0, body := n }
    let queued (l : List Notice) (o : Bool) : State := base.withLink { link0 with notices := l, overrun := o }
    (baseTables { tables0 with notice := 0 }).tables.notice.testBit n.cls = false ∧ base.tables.notice.testBit n.cls = true ∧
      32 ≤ (queued (List.replicate 32 note) false).link.notices.length ∧
      (queued (List.replicate 31 note) true).link.notices.length < 32 ∧
      (queued (List.replicate 31 note) true).link.overrun = true ∧ base.link.overrun = false := by decide +kernel

theorem witness_NoticeQueue_put :
    slotFree base ∧ base.store.saving = none ∧ 16 ≤ (16 : Byte).toNat ∧ (15 : Byte).toNat < 16 :=
  ⟨base_slotFree, rfl, by decide, by decide⟩

/-! ### Time -/

theorem witness_TheClock_kept :
    let b : TimeBase := { timeBase0 with kept := some 5000, state := .free, offset := some 0, trim := -2000, sub := 9999999 }
    let c : TimeBase := { b with trim := 0, sub := 0, slewArmed := true, slew := 1 }
    b.kept = some 5000 ∧ b.slew = 0 ∧ b.slewHold = false ∧ b.sub < 10000000 ∧ -2000 ≤ b.trim ∧
      c.kept = some (5 * 1000) ∧ c.sub = 0 ∧ c.slewHold = false ∧ c.trim = 0 ∧ c.slewArmed = true ∧ 0 < c.slew ∧
      ({ c with slew := -1 }).slew < 0 := by decide

/-- `base` with a time base. -/
def timed (b : TimeBase) : State := base.withTime b

/-- Kept time in FREE with the boundaries of the epoch seen. -/
def freeTime : TimeBase :=
  { timeBase0 with kept := some 59999, state := .free, offset := some 0, minuteSeen := some 0, halfSeen := some 1 }

theorem witness_EventsOfRunningTime :
    (timed freeTime).ready = true ∧ freeTime.offset = some 0 ∧ freeTime.minuteSeen = some 0 ∧ freeTime.halfSeen = some 1 ∧
      freeTime.kept = some 59999 ∧ ({ freeTime with slew := -1, slewArmed := true }).slew ≠ 0 := ⟨rfl, rfl, rfl, rfl, rfl, by decide⟩

theorem witness_TimeStates :
    let locked := timed { freeTime with state := .locked, lastConf := some 0 }
    let holdover := timed { freeTime with state := .holdover, holdStart := some 0 }
    locked.ready = true ∧ locked.time.state = .locked ∧ locked.time.lastConf = some 0 ∧ holdover.time.state = .holdover ∧
      holdover.time.holdStart = some 0 ∧ freeTime.offset = some (ruleOffset base.tables.time 59999) ∧
      (∃ instant, nextEdge base.tables.time 59999 = some instant) ∧ freeTime.civil = some 59999 ∧
      (timed { freeTime with kept := some 60000 }).time.civil = some 60000 ∧ base.time.civil = none := by
  refine ⟨rfl, rfl, rfl, rfl, rfl, by decide +kernel, ?_, by decide, by decide, rfl⟩
  exact Option.isSome_iff_exists.mp (by decide +kernel)

/-- In LOCKED, with a confirmation before at 0 whose offset was 0. -/
def lockedTime : TimeBase := { freeTime with state := .locked, elapsed := 60000, prevConf := some { phase := 0, offset := 0, account := 0 } }

theorem witness_Confirmation :
    let s := timed lockedTime
    let offset (label : Nat) : Int := (label : Int) - ((some 59999).getD 0 : Nat)
    base.time.state = .unset ∧ -2000 ≤ base.time.trim ∧ base.time.trim ≤ 2000 ∧ s.time.state ≠ .unset ∧
      s.time.state = .locked ∧ s.time.prevConf = some { phase := 0, offset := 0, account := 0 } ∧
      |offset 60000| < (s.tables.time.threshold : Int) ∧ (s.tables.time.threshold : Int) ≤ |offset 60999| ∧
      (60000 - 0) / 1000 ≠ 0 ∧ (999 - 0) / 1000 = 0 ∧ (timed freeTime).time.state ≠ .locked ∧
      (timed { lockedTime with prevConf := none }).time.prevConf = none := by decide

theorem witness_SetTime :
    slotFree base ∧
      (({ year := 0x08 * 256 + 0x33, month := 12, day := 31 } : Date).valid = true ∧ 2000 ≤ 0x08 * 256 + 0x33 ∧
        0x08 * 256 + 0x33 ≤ 2099 ∧ 23 < 24 ∧ 59 < 60 ∧ 59 < 60 ∧ 3 * 256 + 231 < 1000) ∧
      ({ year := 2001, month := 2, day := 29 } : Date).valid = false ∧
      (timed { freeTime with state := .locked }).time.state = .locked ∧ base.time.state ≠ .locked :=
  ⟨base_slotFree, by decide, by decide, rfl, by decide⟩

theorem witness_SetTime_put :
    let holdover (kept : Nat) : State := timed { freeTime with state := .holdover, holdStart := some 0, kept := some kept }
    base.tables.time.mode = timeSettings0.mode ∧ base.tables.time.mode ≠ ({ timeSettings0 with mode := .off }).mode ∧
      base.tables.time.mode ≠ ({ timeSettings0 with mode := .telegram }).mode ∧
      (timed { freeTime with state := .locked }).time.state = .locked ∧ base.time.state ≠ .locked ∧ base.time.state = .unset ∧
      (timed freeTime).time.state = .free ∧ (holdover 86400000).time.state = .holdover ∧
      ((holdover 86400000).time.holdStart = some 0 ∧ (holdover 86400000).time.kept = some 86400000 ∧
        0 + (holdover 86400000).tables.time.holdLimit * 3600000 ≤ 86400000) ∧
      (holdover 86399999).time.kept = some 86399999 ∧
      86399999 < 0 + (holdover 86399999).tables.time.holdLimit * 3600000 := by decide +kernel

/-- The telegram of 2000-01-03 00:00 standard time, a Monday (R11). -/
def record : List Byte :=
  [0x23, 0x30, 0x30, 0x30, 0x31, 0x30, 0x33, 0x31, 0x30, 0x30, 0x30, 0x30, 0x57, 0x2D]

def recordAnd (check : List Byte) : List Byte := record ++ check

def monitored (r : RefMonitor) : State := base.withRefs r

def telegram : Telegram := { label := 172800000, seasonal := false, announce := false }

def pendingTelegram : PendingTelegram := { telegram := telegram, chars := record, deadline := 61000 }

theorem witness_TelegramLine :
    base.ready = true ∧ base.tables.time.mode ≠ .off ∧ base.refs.record = none ∧
      (monitored { refMonitor0 with record := some (0, record.take 1) }).refs.record = some (0, [0x23]) ∧
      allowedAt 1 0x39 = true ∧ allowedAt 1 0x3A = false ∧ allowedAt 12 0x53 = true ∧ allowedAt 14 0x46 = true ∧
      (recordAnd [0x42, 0x43]).length = 16 ∧ (∃ check, readTelegram base.tables.time (recordAnd check) = some telegram) ∧
      readTelegram base.tables.time (recordAnd [0x30, 0x30]) = none ∧ base.refs.pending = none ∧
      (monitored { refMonitor0 with pending := some pendingTelegram }).refs.pending = some pendingTelegram ∧
      (0x24 : Byte) ≠ 0x23 ∧ (0x24 : Byte) ≠ 0x0D ∧ (record.take 1).length < 16 ∧
      (monitored { refMonitor0 with lastTelegramTime := some 0 }).refs.lastTelegramTime = some 0 := by
  refine ⟨rfl, by decide, rfl, rfl, by decide, by decide, by decide, by decide, by decide, ⟨[0x42, 0x43], ?_⟩,
    by decide +kernel, rfl, rfl, by decide, by decide, by decide, rfl⟩
  decide +kernel

theorem witness_TelegramMarks :
    let mode := { tables0 with time := { timeSettings0 with mode := .telegram } }
    let s := { baseTables mode with refs := { refMonitor0 with pending := some pendingTelegram } }
    let out := { s with refs := { s.refs with prevMark := some 0 } }
    s.ready = true ∧ s.tables.time.mode = .telegram ∧ (baseTables mode).refs.pending = none ∧ s.markInBand = true ∧
      out.markInBand = false ∧ refMonitor0.qual = .absent ∧
      (let r := { refMonitor0 with qual := .checking, count := 1, predecessor := some { telegram with label := 172740000 } }
       r.qual = .checking ∧ r.count = 1 ∧ telegram.label = 172740000 + 60000) := by decide +kernel

theorem witness_TelegramMarks_auto :
    let s := monitored { refMonitor0 with pending := some pendingTelegram }
    let seconds := monitored { refMonitor0 with pending := some pendingTelegram, second := .stable }
    let out := monitored { refMonitor0 with pending := some pendingTelegram, prevMark := some 0 }
    s.ready = true ∧ s.tables.time.mode = .auto ∧ base.refs.pending = none ∧ s.refs.pending = some pendingTelegram ∧
      s.markInBand = true ∧ out.markInBand = false ∧ s.refs.second = .absent ∧ seconds.refs.second ≠ .absent := by
  decide +kernel

theorem witness_SecondMarksAndSkew :
    let latch : Latch := { elapsed := 0, kept := none, superseded := false }
    let edge : SecEdge := { latch := latch, stable := true }
    let s := monitored { refMonitor0 with second := .unstable, secondCount := 9, lastEdge := some edge }
    let good := s.withTime { timeBase0 with elapsed := 998 }
    let d : Decision := { mark := { latch with elapsed := 50 }, before := some edge, confirms := some telegram }
    base.ready = true ∧ base.tables.time.mode = .auto ∧ base.refs.deciding = [] ∧ base.refs.second = .absent ∧
      s.refs.second = .unstable ∧ s.refs.secondCount = 9 ∧ good.now - 0 = 998 ∧ s.refs.lastEdge = some edge ∧
      (monitored { refMonitor0 with second := .stable, secondCount := 10 }).refs.second = .stable ∧
      (baseTables { tables0 with time := { timeSettings0 with mode := .off } }).tables.time.mode ≠ .auto ∧
      (monitored { refMonitor0 with deciding := [d] }).refs.deciding = [d] ∧ d.confirms = some telegram ∧
      d.before = some edge ∧ ({ d with before := none }).before = none := by decide +kernel

theorem witness_SecondMarksAndSkew_decision :
    let edge : SecEdge := { latch := { elapsed := 0, kept := none, superseded := false }, stable := true }
    let d (mark : Nat) (before : Option SecEdge) : Decision :=
      { mark := { edge.latch with elapsed := mark }, before := before, confirms := some telegram }
    let s (d : Decision) : State := (monitored { refMonitor0 with deciding := [d] }).withTime { timeBase0 with elapsed := 1000 }
    (s (d 999 none)).ready = true ∧ (s (d 999 none)).tables.time.mode = .auto ∧
      (s (d 999 none)).refs.deciding = [d 999 none] ∧ (s (d 999 none)).now - 999 ≤ 1000 ∧ (2000 : Nat) - 999 > 1000 ∧
      (s (d 999 none)).now - 999 < 999 - 0 ∧ 50 - 0 ≤ (s (d 50 (some edge))).now - 50 ∧ |((0 : Nat) : Int) - (50 : Nat)| ≤ 50 ∧
      50 < |((0 : Nat) : Int) - (51 : Nat)| ∧ edge.stable = true ∧ ({ d 50 (some edge) with confirms := none }).confirms = none := by
  decide +kernel

/-! ### Day programme, strike generator and chime player -/

theorem witness_QuietAndGuards :
    slotFree base ∧ (1 : Byte).toNat ≤ 1 ∧ 2 ≤ (2 : Byte).toNat ∧ (base.setGuard 0 (some 7)).guard 0 = some 7 ∧
      base.guard 0 = none ∧ 7 - 7 ≤ (base.entryRec 0).lateness ∧ (base.entryRec 0).lateness < 8 - 7 := by
  unfold slotFree
  decide +kernel

/-- A special day, 2000-01-03, with and without a year, and the record of that Monday. -/
def special : Special := { used := true, month := 1, day := 3, year := none, cls := 2 }

def monday : Today := { day := 2, cls := .weekday 1, special := none, dusk := none, dawn := none, last := some 418 }

/-- An entry of every weekday at a trigger. -/
def everyDay (t : Trigger) : Entry := { entry0 with used := true, trigger := t, days := 127, lateness := 5 }

theorem witness_DayRecord :
    let s := baseTables { tables0 with special := [(7, special), (9, { special with year := some 2000, cls := 1 })] }
    let day (ms : Nat) : State := { timed { freeTime with kept := some (2 * 86400000 + ms) } with day := { dayProgramme0 with today := some monday } }
    (∀ x ∈ base.tables.special, ¬(x.2.used = true)) ∧ (9, { special with year := some 2000, cls := 1 }) ∈ s.tables.special ∧
      dateOf 2 = { year := 2000, month := 1, day := 3 } ∧ monday.dusk = none ∧ base.tableSun none = none ∧
      base.tableSun (some 1409) = some 1439 ∧ base.tableSun (some 1410) = none ∧
      (day 43200000).day.today = some monday ∧ (day 43200000).time.civil = some (2 * 86400000 + 43200000) ∧
      (2 * 86400000 + 43200000) % 86400000 = 43200000 ∧ max ((43200000 + 59999) / 60000) 419 ≤ 1439 ∧
      1439 < max ((86340001 + 59999) / 60000) 419 ∧ (2 * 86400000 + 43199999) % 86400000 < 43200000 ∧
      ({ monday with dusk := some (1, .table), dawn := some (1, .table) } : Today).dusk ≠ none ∧
      (everyDay (.clock 425)).trigger = .clock 425 ∧ (everyDay (.dusk (-1))).trigger = .dusk (-1) ∧
      (everyDay (.dawn 180)).trigger = .dawn 180 := by decide +kernel

theorem witness_DayEvaluation :
    let s := baseTables { tables0 with schedule := [(41, everyDay (.clock 425)), (42, { everyDay (.clock 429) with action := .quietEnd })] }
    let on := { s with day := { dayProgramme0 with today := some monday } }
    s.tables.schedule.length = 2 ∧ s.candidates monday 429 = [(41, 425), (42, 429)] ∧ s.candidates monday 424 = [] ∧
      base.day.today = none ∧ on.day.today = some monday ∧ monday.day = (2 * 1440 + 429) / 1440 ∧
      monday.day ≠ 3 * 1440 / 1440 ∧ monday.day < 3 * 86400000 / 60000 / 1440 ∧ 86400000 / 60000 / 1440 < monday.day ∧
      base.time.civil = none ∧ (timed freeTime).time.civil = some 59999 ∧ base.day.quiet = false ∧
      ({ base with day := { dayProgramme0 with quiet := true } }).day.quiet = true ∧ (s.entryRec 41).action = .tune 0 1 ∧
      (s.entryRec 42).action = .quietEnd := by decide +kernel

theorem witness_DayEvaluation_canonical :
    (baseTables { tables0 with schedule := [(41, everyDay (.clock 425))] }).tablesCanonical := by
  unfold State.tablesCanonical Tables.canonical
  decide +kernel

theorem witness_StrikeGenerator :
    let guarded := { base with chime := { chime0 with quarterGuard := some 4 } }
    guarded.chime.quarterGuard = some 4 ∧ 4 ≤ 4 ∧ 4 < 5 ∧ base.chime.quarterGuard = none ∧
      3720000 - 4 * 900000 ≤ base.tables.strike.lateness * 1000 ∧ base.tables.strike.lateness * 1000 < 3720001 - 4 * 900000 ∧
      quarterPerfs { strikeSettings0 with quarters := true, hours := true, q4 := some 3 } 48 =
        [(.quarter, .tune 3 1), (.hour, .strokes 0 12 2500 .full)] ∧
      45 = 15 * 3 ∧ (3599999 < 4 * 900000 ∧ 4 * 900000 ≤ 3600000 ∧ 3600000 < (4 + 1) * 900000) ∧
      (timed freeTime).time.civil = some 59999 ∧ base.time.civil = none := by decide +kernel

/-- One performance of a tune, playing, and the state it plays in. -/
def tolling (phase : Phase) : Playing :=
  { id := 3, run := none, tune := none, bells := [0], started := 0, marks := [], phase := phase }

def toll : Perf :=
  { id := 3, kind := .toll, args := .strokes 0 2 2000 .full, origin := .request, entry := none, due := 0, deadline := 120000,
    playing := true, blocked := false, rep := 1, note := 0, lost := 0, clipped := 0 }

def playing (phase : Phase) : State := { base with chime := { chime0 with queue := [toll], playing := some (tolling phase) } }
def waiting : State := { base with chime := { chime0 with queue := [{ toll with playing := false }] } }

theorem witness_OfferPlayCancel :
    (base.offer toll).2 = .accepted 0 ∧ slotFree base ∧ (15 : Byte).toNat < 16 ∧ 1 ≤ (240 : Byte).toNat ∧
      (240 : Byte).toNat ≤ 240 ∧ 2 ≤ (60 : Byte).toNat ∧ (60 : Byte).toNat ≤ 60 ∧ base.chime.queue.length < 16 ∧ slotFree filled ∧ 16 ≤ filled.chime.queue.length ∧
      (∀ p ∈ base.chime.queue, p.id ≠ (3 : Byte).toNat) ∧
      waiting.chime.queue.find? (fun p => p.id = (3 : Byte).toNat) = some { toll with playing := false } ∧
      (playing (.tail 0)).chime.queue.find? (fun p => p.id = (3 : Byte).toNat) = some toll ∧ toll.playing = true ∧
      (playing (.tail 0)).chime.playing = some (tolling (.tail 0)) := by
  unfold slotFree
  decide +kernel

/-- PLAY at a time of day, of a tune and of a toll. -/
theorem witness_OfferPlayCancel_timed :
    let tuned : Perf := { toll with kind := .tune, args := .tune 63 9 }
    let used := baseTables { tables0 with tune := [(63, { tune0 with used := true })] }
    (base.tuneRec 63).used = false ∧ (used.tuneRec 63).used = true ∧ tuned.args = .tune 63 9 ∧
      (∀ p ∈ [toll], p.args ≠ .tune 63 9) ∧ 16 ≤ filled.chime.queue.length ∧ filled.chime.queue.length ≤ 16 ∧
      ((63 : Byte).toNat < 64 ∧ (1 ≤ (9 : Byte).toNat ∧ (9 : Byte).toNat ≤ 9) ∧ (0 : Byte).toNat = 0) ∧
      ¬((64 : Byte).toNat < 64) ∧ ((23 : Byte).toNat < 24 ∧ (59 : Byte).toNat < 60) ∧ ¬((24 : Byte).toNat < 24) ∧
      base.time.civil = none ∧ (timed freeTime).time.civil = some 59999 ∧
      59999 % 86400000 ≤ (0 * 3600 + 1 * 60 + 0) * 1000 ∧ (0 * 3600 + 0 * 60 + 59) * 1000 < 59999 % 86400000 := by
  decide +kernel

/-- Bell 0 in use, and free to be struck. -/
def strikeable : State := { waiting with tables := rungTables }

theorem witness_HeadOfTheQueue :
    waiting.ready = true ∧ waiting.chime.playing = none ∧ waiting.chime.queue.head? = some { toll with playing := false } ∧
      waiting.chime.queue.find? (fun p => p.id = (3 : Fin 256).val) = some { toll with playing := false } ∧
      (∃ reason, waiting.unusable toll = some reason) ∧ strikeable.unusable toll = none ∧
      ((strikeable.bellSet toll).all strikeable.strikeable) = true ∧
      strikeable.chime.queue.head? = some { toll with playing := false } ∧
      strikeable.unusable { toll with playing := false } = none ∧
      (((strikeable.setBell 0 { bell0 with claim := .swung 0 }).bellSet toll).all
        (strikeable.setBell 0 { bell0 with claim := .swung 0 }).strikeable) = false := by
  refine ⟨rfl, rfl, rfl, by decide +kernel, Option.isSome_iff_exists.mp (by decide +kernel), by decide +kernel,
    by decide +kernel, by decide +kernel, rfl, by decide +kernel⟩

theorem witness_NotesAndTail :
    let tuned : Perf := { toll with kind := .tune, args := .tune 0 9 }
    let pl : Playing := { tolling (.interval 5) with run := some { first := 0, count := 1, tempo := 50 }, tune := some 0 }
    (playing (.interval 5)).ready = true ∧ (playing (.interval 5)).chime.playing = some (tolling (.interval 5)) ∧
      (playing (.noteWait [0] 300 false)).chime.playing = some (tolling (.noteWait [0] 300 false)) ∧
      (playing (.tail 9)).chime.playing = some (tolling (.tail 9)) ∧ (playing (.tail 9)).playingPerf = some toll ∧
      toll.note + 1 < 2 ∧ 2 ≤ ({ toll with note := 1 }).note + 1 ∧ tuned.args = .tune 0 9 ∧
      pl.run = some { first := 0, count := 1, tempo := 50 } := by decide +kernel

/-- A note that waits for a bell, none that does, and a bell with a fault mark. -/
theorem witness_NotesAndTail_blows :
    let s := playing (.noteWait [0] 300 true)
    let tuned : Perf := { toll with kind := .tune, args := .tune 0 9, note := 0 }
    let run : Run := { first := 0, count := 1, tempo := 50 }
    let pl : Playing := { tolling (.interval 5) with run := some run, tune := some 0, marks := [0] }
    let inRun : State := { base with chime := { chime0 with queue := [tuned], playing := some pl } }
    s.chime.playing = some (tolling (.noteWait [0] 300 true)) ∧ (playing (.tail 9)).chime.playing = some (tolling (.tail 9)) ∧
      base.chime.playing = none ∧
      s.playingPerf = some toll ∧ inRun.chime.playing = some pl ∧ inRun.playingPerf = some tuned ∧ pl.run = some run ∧
      0 ∈ (inRun.noteRec (run.first + tuned.note)).bells ∧ 0 ∈ pl.marks ∧ toll.args = .strokes 0 2 2000 .full ∧
      run.count ≤ tuned.note + 1 ∧ ¬(({ run with count := 2 } : Run).count ≤ tuned.note + 1) := by decide +kernel

/-! ### Bells, swing and dials -/

theorem witness_HammerTimers :
    let pulse := withBell0 { bell0 with hammer := .pulse 40 (some 20), claim := .struck 3 }
    let recovery := withBell0 { bell0 with hammer := .recovery 600, held := some (.full, 3), claim := .struck 3 }
    pulse.ready = true ∧ (pulse.bell 0).hammer = .pulse 40 (some 20) ∧ (recovery.bell 0).hammer = .recovery 600 ∧
      ((withBell0 { bell0 with hammer := .recovery 600 }).bell 0).held = none ∧
      (recovery.bell 0).held = some (.full, 3) ∧ recovery.refusal 0 3 = none ∧
      (∃ r, (recovery.setBell 0 { recovery.bell 0 with fault := .opened }).refusal 0 3 = some r) := by
  refine ⟨rfl, by decide +kernel, by decide +kernel, by decide +kernel, by decide +kernel, by decide +kernel,
    Option.isSome_iff_exists.mp (by decide +kernel)⟩

/-- Blow requests taken, held and refused, and blows to withdraw. -/
theorem witness_HammerTimers_blows :
    let bell (w : Bell) : State := withBell0 { w with claim := .struck 3 }
    let back := bell { bell0 with hammer := .recovery 600, held := some (.full, 3) }
    let waits := bell { bell0 with hammer := .waiting .soft 3 }
    let access : State := { bell bell0 with power := { base.power with access := .active } }
    let reserve : State := { bell bell0 with power := { base.power with mains := .reserve } }
    (bell bell0).refusal 0 3 = none ∧ ((bell bell0).bell 0).hammer = .idle ∧ back.refusal 0 3 = none ∧
      (back.bell 0).hammer ≠ .idle ∧ base.refusal 0 3 = some .notHeld ∧
      (bell { bell0 with fault := .opened }).refusal 0 3 = some .fault ∧ access.refusal 0 3 = some .access ∧
      reserve.refusal 0 3 = some .reserve ∧ (back.bell 0).held = some (.full, 3) ∧ (waits.bell 0).held = none ∧
      (waits.bell 0).hammer = .waiting .soft 3 ∧ (base.bell 0).held = none ∧ (base.bell 0).hammer = .idle := by decide +kernel

/-- A blow of performance 3 waits at bell 0. -/
def struck : State :=
  { baseTables rungTables with bells := [(0, { bell0 with hammer := .waiting .soft 3, claim := .struck 3 })] }

theorem witness_Grants_hammer :
    (struck.bell 0).hammer = .waiting .soft 3 ∧ (struck.bell 0).claim = .struck 3 ∧ (struck.bell 0).releasing = false ∧
      (struck.bell 0).fault = .none ∧ struck.accessClear = true ∧ struck.mainsNormal = true ∧
      (closed struck).accessClear = false ∧ (lost struck).mainsNormal = false := by decide +kernel

/-- Each condition of a grant that fails, with the ones before it standing. -/
theorem witness_Grants_refused :
    let freed := struck.setBell 0 { struck.bell 0 with claim := .free }
    let faulty := struck.setBell 0 { struck.bell 0 with fault := .short }
    (freed.bell 0).claim ≠ .struck 3 ∧ (freed.bell 0).hammer = .waiting .soft 3 ∧
      ((faulty.bell 0).claim = .struck 3 ∧ (faulty.bell 0).releasing = false ∧ (faulty.bell 0).fault ≠ .none) ∧
      (((closed struck).bell 0).fault = .none ∧ (closed struck).accessClear = false) ∧
      (((lost struck).bell 0).fault = .none ∧ (lost struck).accessClear = true ∧ (lost struck).mainsNormal = false) := by
  decide +kernel

theorem witness_Grants_others :
    let dial : State := { withDial0 { dial0 with drive := .waiting false } with
      tables := { tables0 with dial := [(0, { dialRec0 with inUse := true })] } }
    let unit (w : SwingUnit) : State := withUnit0 w
    let braked := { atRestUnit with state := .lowering, lowKind := some .normal, drive := .waiting .negative (some 9) true }
    let lamp (w : Circuit) : State := (baseTables switchedTables).setCircuit 0 w
    let dimmed (w : Circuit) : State := (baseTables dimmedTables).setCircuit 0 w
    (dial.dial 0).drive = .waiting false ∧ (dial.dialRec 0).inUse = true ∧ dial.mainsNormal = true ∧
      (base.dialRec 0).inUse = false ∧ (base.dial 0).drive = .idle ∧
      ((unit { atRestUnit with state := .raising, drive := .waiting .positive none false }).unit 0).state = .raising ∧
      ((unit braked).unit 0).drive = .waiting .negative (some 9) true ∧ ((unit braked).swingRec 0).brake = .counter ∧
      ((unit atRestUnit).unit 0).drive = .idle ∧ (lamp circuit0).mainsNormal = true ∧
      ((lamp { circuit0 with state := .waiting, demand := 1 }).circuitRec 0).kind = .switched ∧
      ((lamp { circuit0 with state := .waiting, demand := 1 }).circuit 0).demand = 1 ∧
      ((lamp { circuit0 with state := .waiting }).circuit 0).demand = 0 ∧ ((lamp circuit0).circuitRec 0).warmUp = 0 ∧
      ({ circuitRec0 with warmUp := 300 } : CircuitRec).warmUp ≠ 0 ∧
      ((dimmed { circuit0 with state := .waiting }).circuitRec 0).kind = .dimmed ∧
      ((dimmed { circuit0 with state := .on }).circuit 0).state = .on ∧ ((lamp circuit0).circuit 0).state = .off ∧
      (lost (dimmed circuit0)).mainsNormal = false := by decide +kernel

theorem witness_BellReleases :
    let pending := struck.setBell 0 { struck.bell 0 with pending := true }
    let blocked : State := { strikeable with chime := { chime0 with queue := [{ toll with playing := false, blocked := true }] } }
    let ending := (playing (.ending .complete)).setBell 0 { bell0 with claim := .struck 3 }
    (struck.bell 0).pending = false ∧ (pending.bell 0).pending = true ∧ pending.unitOfBell 0 = some 0 ∧
      pending.accessClear = true ∧ pending.mainsNormal = true ∧ (closed pending).accessClear = false ∧
      (lost pending).mainsNormal = false ∧ blocked.chime.playing = none ∧
      blocked.chime.queue.head? = some { toll with playing := false, blocked := true } ∧ blocked.strikeable 0 = true ∧
      0 ∈ blocked.bellSet { toll with playing := false, blocked := true } ∧ (playing (.tail 9)).chime.playing ≠ none ∧
      base.chime.queue = [] ∧ blocked.strikeable 1 = false ∧ ¬(1 ∈ blocked.bellSet toll) ∧ base.chime.playing = none ∧
      (playing (.tail 9)).chime.playing = some (tolling (.tail 9)) ∧ (4 : Nat) ≠ (tolling (.tail 9)).id ∧
      ending.chime.playing = some (tolling (.ending .complete)) ∧ (tolling (.ending .complete)).phase = .ending .complete ∧
      ending.playingPerf = some toll ∧ 0 ∈ (tolling (.ending .complete)).bells ∧ (ending.bell 0).claim = .struck 3 ∧
      (∀ b ∈ (tolling (.ending .complete)).bells, ((playing (.ending .complete)).bell b).claim ≠ .struck 3) := by
  decide +kernel

/-- A unit moving back from its furthest point at 2000 counts. -/
def turning (state : UnitState) (turns : Nat) : State :=
  withUnit0 { atRestUnit with state := state, furthest := 2000, angle := 1996, turns := turns }

theorem witness_EncoderAndTurns :
    let small := withUnit0 { atRestUnit with furthest := 4, angle := 0 }
    State.reset.running = true ∧ (small.unit 0).movedBack = 4 ∧ (base.unit 0).movedBack < 4 ∧
      (small.unit 0).isTurn (small.swingRec 0) = false ∧ (small.unit 0).state ≠ .lowering ∧
      4 ≤ ((turning .rest 0).unit 0).movedBack ∧ ((turning .rest 0).unit 0).referenced = true ∧
      ((turning .rest 0).swingRec 0).restCounts < ((turning .rest 0).unit 0).furthest.natAbs ∧
      ((turning .rest 0).unit 0).state = .rest ∧ ((turning .raising 3).unit 0).turns = 3 ∧
      ((turning .swinging 2).unit 0).turns ≤ 2 ∧
      ((turning .raising 2).swingRec 0).mark ≤ 2000 ∧ 34 < ((turning .raising 2).swingRec 0).mark := by decide +kernel

theorem witness_EncoderAndTurns_impulse :
    (withUnit0 { atRestUnit with drive := .impulse .positive 9 } |>.unit 0).drive ≠ .idle ∧ (base.unit 0).drive = .idle := by
  decide +kernel

theorem witness_EncoderAndTurns_states :
    let small := withUnit0 { atRestUnit with state := .lowering, furthest := 4, angle := 0 }
    let unreferenced := withUnit0 { atRestUnit with state := .settling, referenced := false, furthest := 2000, angle := 1996 }
    (small.unit 0).movedBack = 4 ∧ (small.unit 0).isTurn (small.swingRec 0) = false ∧ (small.unit 0).state = .lowering ∧
      4 ≤ (unreferenced.unit 0).movedBack ∧ (unreferenced.unit 0).referenced = false ∧
      2 * (unreferenced.swingRec 0).restCounts < ((unreferenced.unit 0).furthest - (unreferenced.unit 0).prevReversal).natAbs ∧
      (unreferenced.unit 0).turns ≤ 2 ∧ (unreferenced.unit 0).state = .settling ∧ ((turning .fault 4).unit 0).state = .fault ∧
      ((turning .settling 3).unit 0).turns = 3 ∧ ((turning .lowering 2).unit 0).state = .lowering ∧
      ((withUnit0 { atRestUnit with lowKind := some .normal }).unit 0).lowKind = some .normal ∧
      ((turning .lowering 2).swingRec 0).brake = .counter ∧
      ((withUnit0 { atRestUnit with lowKind := some .access }).unit 0).lowKind ≠ some .normal := by decide +kernel

theorem witness_IndexAndUnitTimers_index :
    let slipped := withUnit0 { atRestUnit with state := .swinging, angle := 9, slips := 2 }
    base.running = true ∧ (base.unit 0).referenced = false ∧ (slipped.unit 0).referenced = true ∧
      (slipped.unit 0).state ≠ .rest ∧ (slipped.unit 0).state ≠ .fault ∧
      ((slipped.swingRec 0).tolerance : Int) < |(slipped.unit 0).angle| ∧ (slipped.unit 0).slips = 2 ∧
      |((withUnit0 { atRestUnit with angle := -8 }).unit 0).angle| ≤ ((slipped.swingRec 0).tolerance : Int) ∧
      ((withUnit0 { atRestUnit with slips := 1 }).unit 0).slips < 2 := by decide +kernel

theorem witness_IndexAndUnitTimers_timers :
    let unit (w : SwingUnit) : SwingUnit := (withUnit0 w).unit 0
    base.ready = true ∧ base.running = true ∧
      (unit { atRestUnit with state := .raising, raiseLimit := some 9 }).raiseLimit = some 9 ∧
      (unit { atRestUnit with state := .lowering, lowerLimit := some 9 }).lowerLimit = some 9 ∧
      (unit { atRestUnit with state := .lowering, noTurn := some 9 }).noTurn = some 9 ∧
      (unit { atRestUnit with state := .swinging, ringEnd := some 9 }).ringEnd = some 9 ∧
      (unit { atRestUnit with drive := .waiting .positive (some 9) false }).drive = .waiting .positive (some 9) false ∧
      (unit { atRestUnit with drive := .impulse .positive 9 }).drive = .impulse .positive 9 ∧
      (base.unit 0).state = .settling ∧ (base.unit 0).settle = some 60000 := by decide +kernel

/-- A kick that waits, a request with a window, and a unit with its bell and without. -/
theorem witness_IndexAndUnitTimers_enters :
    let kick := withUnit0 { atRestUnit with state := .raising, drive := .waiting .positive none false }
    let other := withUnit0 { atRestUnit with state := .raising, drive := .waiting .positive (some 9) false }
    (kick.unit 0).drive = .waiting .positive none false ∧ (other.unit 0).drive = .waiting .positive (some 9) false ∧
      (baseTables rungTables).bellOfUnit 0 = some 0 ∧ base.bellOfUnit 0 = none := by decide +kernel

/-- The bell of unit 0 with a claim, and the unit itself. -/
def hung (w : SwingUnit) (c : Claim) : State :=
  { baseTables rungTables with units := [(0, w)], bells := [(0, { bell0 with claim := c })] }

theorem witness_UnitFaultAndStart :
    let s := hung atRestUnit .free
    base.bellOfUnit 0 = none ∧ s.bellOfUnit 0 = some 0 ∧ s.accessClear = true ∧ s.mainsNormal = true ∧
      (s.unit 0).state = .rest ∧ (s.unit 0).startPending = false ∧ (s.unit 0).referenced = true ∧ (s.bell 0).claim = .free ∧
      ((hung { atRestUnit with state := .settling } (.settling 0)).bell 0).claim = .settling 0 ∧
      ((hung { atRestUnit with state := .settling, referenced := false } (.settling 0)).unit 0).referenced = false ∧
      ((hung atRestUnit (.struck 3)).bell 0).claim = .struck 3 ∧ ((hung atRestUnit (.swung 1)).bell 0).claim = .swung 1 ∧
      ((hung atRestUnit (.settling 1)).bell 0).claim = .settling 1 ∧ (s.unit 0).drive = .idle ∧
      ((s.setUnit 0 { atRestUnit with state := .lowering }).unit 0).state = .lowering ∧
      ({ s with power := { s.power with access := .active } }).accessClear = false ∧
      ({ s with power := { s.power with mains := .reserve } }).mainsNormal = false := by decide +kernel

theorem witness_RingAndHalt_ring :
    let s := hung atRestUnit .free
    slotFree s ∧ (5 : Byte).toNat < 6 ∧ 1 ≤ (240 : Byte).toNat ∧ (240 : Byte).toNat ≤ 240 ∧ s.inRun 0 = false ∧
      s.bellOfUnit 1 = none ∧ s.bellOfUnit 0 = some 0 ∧ s.accessClear = true ∧ s.mainsNormal = true ∧
      ({ s with power := { s.power with access := .active } }).accessClear = false ∧
      ({ s with power := { s.power with mains := .reserve } }).mainsNormal = false ∧
      ((hung { atRestUnit with state := .fault } (.swung 0)).unit 0).state = .fault ∧ (s.unit 0).state = .rest ∧
      (s.unit 0).startPending = false ∧ (s.unit 0).referenced = true ∧ (s.bell 0).claim = .free ∧
      ((hung { unit0 with settle := none } (.settling 0)).unit 0).referenced = false ∧
      ((hung { unit0 with settle := none } (.settling 0)).bell 0).claim = .settling 0 ∧
      ((hung atRestUnit (.struck 3)).bell 0).claim = .struck 3 ∧ ((hung atRestUnit (.settling 1)).bell 0).claim = .settling 1 ∧
      ({ s with run := { pealRun0 with state := .running, members := [0] } }).inRun 0 = true := by
  unfold slotFree
  decide +kernel

theorem witness_RingAndHalt_halt :
    let s := hung { atRestUnit with startPending := true, owner := some .ring } (.struck 3)
    let pending := s.setBell 0 { s.bell 0 with pending := true }
    let starting := { base with run := { pealRun0 with state := .starting } }
    slotFree starting ∧ 6 ≤ (6 : Byte).toNat ∧ starting.run.state = .starting ∧
      0 ∈ (starting.planRec starting.run.plan).units.drop starting.run.steps ∧
      ¬(base.run.state = .starting ∧ 0 ∈ (base.planRec base.run.plan).units.drop base.run.steps) ∧
      ((turning .swinging 0).unit 0).rings = true ∧ (base.unit 0).rings = false ∧ (base.unit 0).startPending = false ∧
      (pending.unit 0).startPending = true ∧ pending.bellOfUnit 0 = some 0 ∧ (pending.bell 0).pending = true ∧
      (s.bell 0).pending = false ∧ (∀ b ∈ s.bellOfUnit 0, (s.bell b).pending = false) := by
  unfold slotFree
  decide +kernel

theorem witness_RingAndHalt_drives :
    let unit (d : Drive) : State := withUnit0 { atRestUnit with drive := d }
    ((unit .idle).unit 0).drive = .idle ∧
      ((unit (.waiting .negative (some 9) true)).unit 0).drive = .waiting .negative (some 9) true ∧
      ((unit (.impulse .negative 9)).unit 0).drive = .impulse .negative 9 := by decide +kernel

/-- A run of plan 7, whose unit is unit 0. -/
def inPeal (r : PealRun) : State :=
  { baseTables { rungTables with plan := [(7, { plan0 with used := true })] } with
    units := [(0, atRestUnit)], run := { r with plan := 7 } }

theorem witness_PealRequests :
    let s := inPeal pealRun0
    slotFree s ∧ 8 ≤ (8 : Byte).toNat ∧ (7 : Byte).toNat < 8 ∧ (base.planRec 7).used = false ∧ (s.planRec 7).used = true ∧
      s.run.state = .idle ∧ s.accessClear = true ∧ s.mainsNormal = true ∧
      (∀ u ∈ (s.planRec 7).units, (s.unit u).rings = false ∧ (s.unit u).state ≠ .lowering ∧ (s.unit u).startPending = false) ∧
      0 ∈ (s.planRec 7).units ∧ ((s.setUnit 0 { atRestUnit with state := .lowering }).unit 0).state = .lowering ∧
      ({ s with power := { s.power with access := .active } }).accessClear = false ∧
      ({ s with power := { s.power with mains := .reserve } }).mainsNormal = false ∧
      (inPeal { pealRun0 with state := .stopping }).run.state = .stopping ∧
      (inPeal { pealRun0 with state := .starting }).run.state = .starting := by
  unfold slotFree
  decide +kernel

theorem witness_PealSteps :
    let starting := inPeal { pealRun0 with state := .starting }
    let two := { starting with tables := { starting.tables with plan := [(7, { plan0 with used := true, units := [0, 1] })] } }
    let stopping := inPeal { pealRun0 with state := .stopping, stops := [0] }
    starting.ready = true ∧ starting.run.state = .starting ∧ stopping.run.state = .stopping ∧ stopping.run.stops ≠ [] ∧
      stopping.run.stops = 0 :: [] ∧ (starting.planRec starting.run.plan).units[starting.run.steps]? = some 0 ∧
      starting.run.steps + 1 = (starting.planRec starting.run.plan).units.length ∧
      two.run.steps + 1 < (two.planRec two.run.plan).units.length ∧ (inPeal pealRun0).run.stops = [] ∧
      (∀ u ∈ (inPeal { pealRun0 with state := .running, members := [0] }).run.members,
        ((inPeal { pealRun0 with state := .running, members := [0] }).unit u).state = .rest ∧
          ((inPeal { pealRun0 with state := .running, members := [0] }).unit u).startPending = false) ∧
      (inPeal { pealRun0 with state := .running, members := [0] }).run.state = .running := by decide +kernel

theorem witness_DialImpulses :
    let s := withDial0 { dial0 with drive := .impulse true 500, inFlight := true, next := some .positive, position := some 1439 }
    s.ready = true ∧ (s.dial 0).drive = .impulse true 500 ∧ ((withDial0 { dial0 with spacing := some 2 }).dial 0).spacing = some 2 ∧
      (∃ n, ({ withDial0 { dial0 with position := some 5, state := .advancing } with
        dials := { dials := [(0, { dial0 with position := some 5, state := .advancing })], half := some 5 } } : State).difference 0 =
        some n) ∧
      dialRec0.interval = 30 ∧ 1439 < dialRec0.steps ∧ 719 < ({ dialRec0 with interval := 60 } : DialRec).steps := by
  refine ⟨rfl, by decide +kernel, by decide +kernel, Option.isSome_iff_exists.mp (by decide +kernel), rfl, by decide, by decide⟩

theorem witness_DialRequests :
    let s := baseTables { tables0 with dial := [(3, { dialRec0 with inUse := true })] }
    slotFree s ∧ ((3 : Byte).toNat < 4 ∧ 1 ≤ (12 : Byte).toNat ∧ (12 : Byte).toNat ≤ 12 ∧ (59 : Byte).toNat < 60) ∧
      ¬((s.dial 3).last = some .positive ∧ (s.dial 3).inFlight = false) ∧ s.keyOn = true ∧ keyOff.keyOn = false ∧
      (s.dialRec 3).inUse = true ∧ (base.dialRec 3).inUse = false ∧ (s.dial 3).drive = .idle ∧
      ((s.setDial 3 { dial0 with drive := .impulse false 9 }).dial 3).drive.impulsing = true ∧
      ((s.setDial 3 { dial0 with last := some .positive }).dial 3).last = some .positive ∧ 4 ≤ (4 : Byte).toNat := by
  unfold slotFree
  decide +kernel

theorem witness_DialRequests_drives :
    let s (w : Dial) : State := (baseTables { tables0 with dial := [(3, { dialRec0 with inUse := true })] }).setDial 3 w
    let waits (again : Bool) : State := s { dial0 with state := .advancing, drive := .waiting again }
    slotFree (waits false) ∧ ((waits false).dial 3).drive = .waiting false ∧ ((waits true).dial 3).drive = .waiting true ∧
      ((waits true).dial 3).drive.impulsing = false ∧ ((waits true).dial 3).drive ≠ .idle ∧
      ((s { dial0 with drive := .impulse true 9 }).dial 3).drive.impulsing = true ∧
      ((s { dial0 with state := .stopped }).dial 3).state = .stopped ∧ (base.dial 3).state ≠ .stopped ∧
      ((waits false).dial 3).state.moves = true ∧ (3 : Byte).toNat < 4 := by
  unfold slotFree
  decide +kernel

theorem witness_DialsAndTime :
    let s (w : Dial) : State := { baseTables { tables0 with dial := [(0, { dialRec0 with inUse := true })] } with
      dials := { dials := [(0, w)], half := some 5 } }
    let standing (position : Nat) : Dial := { dial0 with state := .stopped, position := some position, next := some .positive }
    let n (position : Nat) : Nat := dialRec0.ahead (5 * 30 / dialRec0.interval) position
    (base.dial 0).state = .unknown ∧ ((s (standing 5)).dial 0).state ≠ .unknown ∧ (base.dialRec 0).inUse = false ∧
      (lost base).mainsNormal = false ∧ ({ dial0 with stop := true } : Dial).stop = true ∧ base.dials.half = none ∧
      ((s (standing 5)).dialRec 0).inUse = true ∧ (s (standing 5)).mainsNormal = true ∧ (s (standing 5)).dials.half = some 5 ∧
      ((s (standing 5)).dial 0).position = some 5 ∧ ((s (standing 5)).dial 0).inFlight = false ∧
      ((s { standing 5 with inFlight := true }).dial 0).inFlight = true ∧ ((s (standing 5)).dial 0).drive = .idle ∧
      n 5 = 0 ∧ n 4 ≠ 0 ∧ n 4 * dialRec0.interval ≤ dialRec0.hold * 60 ∧ dialRec0.hold * 60 < n 6 * dialRec0.interval ∧
      ({ dial0 with drive := .waiting false } : Dial).drive = .waiting false ∧
      ({ dial0 with drive := .waiting true } : Dial).drive ≠ .waiting false := by decide +kernel

/-! ### Floodlights, light, supply, power and start -/

theorem witness_ScenesAndDemand :
    let s := baseTables { dimmedTables with scene := [(15, { used := true, levels := List.replicate 12 (some 100) })] }
    slotFree s ∧ 16 ≤ (16 : Byte).toNat ∧ (15 : Byte).toNat < 16 ∧ (base.sceneRec 15).used = false ∧ (s.sceneRec 15).used = true ∧
      ((0 : Byte).toNat < 12 ∧ 5 * 256 + 160 ≤ 1440 ∧ (100 : Byte).toNat ≤ 100) ∧ (base.circuitRec 0).inUse = false ∧
      (s.circuitRec 0).inUse = true ∧ (s.circuitRec 0).accessLight = false ∧
      (({ circuitRec0 with accessLight := true } : CircuitRec).accessLight = true) ∧ s.power.access = .clear ∧
      ((s.setCircuit 0 { circuit0 with override := some { level := 0, expiry := none } }).circuit 0).override =
        some { level := 0, expiry := none } ∧ (s.circuit 0).override = none := by
  unfold slotFree
  decide +kernel

theorem witness_ScenesAndDemand_switched :
    let lamp (w : Circuit) : State := (baseTables switchedTables).setCircuit 0 w
    ((lamp circuit0).circuitRec 0).kind = .switched ∧ ((baseTables dimmedTables).circuitRec 0).kind = .dimmed ∧
      (((lamp { circuit0 with demand := 1 }).circuit 0).state = .off ∧ 1 ≤ ((lamp { circuit0 with demand := 1 }).circuit 0).demand) ∧
      ((lamp { circuit0 with state := .waiting }).circuit 0).state = .waiting ∧
      ((lamp { circuit0 with state := .warming }).circuit 0).state = .warming ∧
      ((lamp { circuit0 with state := .on }).circuit 0).demand = 0 ∧
      ((lamp { circuit0 with state := .on, demand := 100 }).circuit 0).demand = 100 ∧
      ((lamp { circuit0 with state := .cooling, shed := true }).circuit 0).shed = true ∧ base.mainsNormal = true := by
  decide +kernel

theorem witness_ScenesAndDemand_fallback :
    let tables := { tables0 with light := { lightSettings0 with fallback := some 3 }, scene := [(3, { used := true, levels := [some 60] })] }
    let s := baseTables tables
    s.time.state = .unset ∧ (timed freeTime).time.state ≠ .unset ∧ base.tables.light.fallback = none ∧
      s.tables.light.fallback = some 3 ∧ (s.sceneRec 3).used = true ∧ (base.sceneRec 3).used = false ∧
      (s.withLight { light0 with state := .dark }).light.state = .dark ∧ s.light.state ≠ .dark := by decide +kernel

theorem witness_CircuitTimers :
    let circuit (w : Circuit) : Circuit := (withCircuit0 w).circuit 0
    base.ready = true ∧ (circuit { circuit0 with state := .warming, timer := some 9 }).timer = some 9 ∧
      (circuit { circuit0 with state := .cooling, timer := some 9, demand := 1 }).demand = 1 ∧
      (circuit { circuit0 with state := .cooling, timer := some 9 }).timer = some 9 ∧
      (circuit { circuit0 with override := some { level := 100, expiry := some 9 } }).override =
        some { level := 100, expiry := some 9 } ∧
      ((baseTables dimmedTables).circuitRec 0).kind = .dimmed ∧
      (let w := circuit { circuit0 with state := .on, level := 1, fade := some 9 }
       w.state = .on ∧ w.fade = some 9 ∧ w.target = 0 ∧ w.level = 1) ∧
      (circuit { circuit0 with state := .on, level := 99, target := 100, fade := some 9 }).target = 100 := by decide +kernel

theorem witness_SamplesAndReadings_samples :
    (base.withLight { light0 with sample := some 9 }).light.sample = some 9 ∧
      (base.withConverter { queue := [.light], inFlight := some (.coil 0, 1) }).converter.inFlight = some (.coil 0, 1) :=
  ⟨rfl, rfl⟩

theorem witness_SamplesAndReadings_results :
    ((withBell0 { bell0 with fault := .opened }).bell 0).fault ≠ .none ∧ (base.bell 0).fault = .none ∧
      base.tables.hammerCheck.opened ≤ 100 ∧ 900 ≤ base.tables.hammerCheck.short ∧ 99 < base.tables.hammerCheck.opened ∧
      ((withBell0 { bell0 with opens := 2 }).bell 0).opens = 2 := by decide +kernel

theorem witness_SamplesAndReadings_faults :
    let pulse := withBell0 { bell0 with hammer := .pulse 40 none, held := some (.full, 3) }
    ((pulse.bell 0).hammer.pulses = true ∧ (base.bell 0).hammer.pulses = false ∧ (pulse.bell 0).held.isSome = true) ∧
      (base.tables.hammerCheck.opened ≤ 901 ∧ base.tables.hammerCheck.short < 901) ∧
      (99 < base.tables.hammerCheck.opened ∧ (base.bell 0).opens + 1 ≠ 3) := by decide +kernel

theorem witness_LightReadings :
    let after (w : List Nat) : List Nat := (if 6 ≤ w.length then w.drop 1 else w) ++ [300]
    (after [1, 2, 3, 4]).length ≠ 6 ∧ (after [1, 2, 3, 4, 5]).length = 6 ∧ after [1, 2, 3, 4, 5, 6] = [2, 3, 4, 5, 6, 300] ∧
      min 6 (5 + 1) = 6 ∧ min 6 (4 + 1) ≠ 6 ∧ light0.fault = false ∧ ({ light0 with fault := true } : Light).fault = true ∧
      light0.outRun < 2 ∧ 2 ≤ ({ light0 with outRun := 2 } : Light).outRun ∧ light0.state = .unknown ∧
      180 ≤ lightSettings0.dusk ∧ lightSettings0.dusk < 181 ∧ lightSettings0.dawn ≤ 260 ∧ 259 < lightSettings0.dawn ∧
      lightSettings0.confirm ≤ 2 + 1 ∧ 1 + 1 < lightSettings0.confirm := by decide +kernel

theorem witness_LightReadings_put :
    base.tables.light.dusk = lightSettings0.dusk ∧ base.tables.light.dawn = lightSettings0.dawn ∧
      base.tables.light.confirm = lightSettings0.confirm ∧
      base.tables.light.confirm ≠ ({ lightSettings0 with confirm := 30 } : LightSettings).confirm := by decide +kernel

/-- A request of a hammer for its units. -/
def asks : SupplyRequest := { claimant := .hammer 15, units := 200, joined := 0, shedAt := some 100 }

theorem witness_SupplyService :
    199 < asks.units + Table.get 0 [] asks.claimant.number ∧ asks.units + Table.get 0 [] asks.claimant.number ≤ 200 ∧
      asks.units + Table.sum [] ≤ 200 ∧ 200 < asks.units + Table.sum [(0, 1)] ∧
      ([] : List SupplyRequest).Pairwise (fun a b => (supplyClass a.claimant).rank ≤ (supplyClass b.claimant).rank) ∧
      (1 : Nat) ≠ 0 ∧ ∀ r ∈ base.supply.waiting, r.claimant ≠ .hammer 15 := by decide +kernel

/-- A hammer waits, alone or behind a grant; a swing unit's request is none the shed signal is for. -/
theorem witness_SupplyService_signal :
    let s (shed : Bool) (r : SupplyRequest) : State :=
      { base with supply := { grants := [(0, 150)], waiting := [r], shed := shed } }
    let swing : SupplyRequest := { asks with claimant := .swing 5, units := 20, shedAt := none }
    let granted (s : State) := (serviceWalk s.tables.supply.budget s.supply.waiting s.supply.grants).granted
    (granted (s true { asks with units := 50 })).any (fun r => presses r.claimant) = true ∧
      (∀ r ∈ granted (s true swing), presses r.claimant = false) ∧ (s false asks).supply.shed = false ∧
      ((s true asks).supply.shed = true ∧ asks ∈ (s true asks).supply.waiting ∧ presses asks.claimant = true ∧
        asks.units + (s true asks).held asks.claimant ≤ (s true asks).tables.supply.budget) ∧
      (∀ r ∈ (s true swing).supply.waiting, presses r.claimant = false) ∧
      (∀ r ∈ (s true swing).supply.waiting, r.claimant ∉ [Claimant.hammer 15]) ∧
      (∃ r ∈ (s true asks).supply.waiting, r.claimant ∈ [Claimant.hammer 15]) ∧
      200 + base.held (.hammer 15) ≤ base.tables.supply.budget ∧ base.tables.supply.budget < 201 + base.held (.hammer 15) := by
  decide +kernel

theorem witness_ShedSignal_timer :
    let s := { base with supply := { supply0 with waiting := [asks] } }
    s.ready = true ∧ s.supply.waiting.find? (fun r => r.claimant = .hammer 15) = some asks ∧ asks.shedAt = some 100 ∧
      s.supply.shed = false ∧ asks.units + s.held (.hammer 15) ≤ s.tables.supply.budget ∧
      (base.withSupply { supply0 with waiting := [{ asks with units := 201 }] }).tables.supply.budget < 201 ∧
      (base.withSupply { supply0 with shed := true }).supply.shed = true ∧ ∀ r ∈ base.supply.waiting, r.claimant ≠ .flood 0 := by
  decide +kernel

/-- Circuit 0 DIMMED and sheddable to 20, in a state. -/
def sheddable (w : Circuit) (grants : Table Nat) : State :=
  { baseTables { tables0 with circuit := [(0, { circuitRec0 with inUse := true, sheddable := true, shed := 20 })] } with
    floods := { floods0 with circuits := [(0, w)], shedSeen := true }, supply := { supply0 with grants := grants } }

theorem witness_ShedSignal_circuits :
    let lit : Circuit := { circuit0 with state := .on, level := 80, target := 80, demand := 80 }
    let s := sheddable lit [(26, 8)]
    (s.circuitRec 0).kind = .dimmed ∧ s.floods.shedSeen = true ∧ (s.circuitRec 0).sheddable = true ∧
      (s.circuitRec 0).shed < (s.circuit 0).demand ∧ ((sheddable { lit with demand := 20 } []).circuit 0).demand ≤ 20 ∧
      (base.floods.shedSeen = false) ∧ s.held (.flood 0) = 8 ∧ s.held (.flood 0) < (10 * 81 + 99) / 100 ∧
      (10 * 80 + 99) / 100 ≤ s.held (.flood 0) ∧ s.requested 0 ≠ some 1 ∧
      ({ s with supply := { s.supply with waiting := [{ claimant := .flood 0, units := 1, joined := 0, shedAt := none }] } }
        ).requested 0 = some 1 ∧
      ((sheddable { lit with level := 0 } []).circuit 0).level = 0 ∧ ¬(80 = 0 ∧ ((s.circuit 0).state ≠ .on ∨ (s.circuit 0).level = 0)) ∧
      (s.circuit 0).level ≤ 80 ∧ 79 < (s.circuit 0).level := by decide +kernel

/-- A circuit whose mark stands; one whose level is at the shed level, and one above it. -/
theorem witness_ShedSignal_cap :
    let lit : Circuit := { circuit0 with state := .on, level := 80, target := 80, demand := 80 }
    ((sheddable { lit with shed := true } []).circuit 0).shed = true ∧ ((sheddable lit []).circuit 0).shed = false ∧
      ((sheddable lit []).circuitRec 0).shed < ((sheddable lit []).circuit 0).level ∧
      ((sheddable { lit with level := 20 } []).circuit 0).level ≤ ((sheddable lit []).circuitRec 0).shed ∧
      (lost (sheddable lit [])).mainsNormal = false ∧ (sheddable lit []).agenda = [] := by decide +kernel

theorem witness_PowerMonitor_mains :
    let m (v : Mains) : State := base.withPower { base.power with mains := v, settle := some 2000 }
    (m .returning).ready = true ∧ (m .returning).power.mains = .returning ∧ (m .reserve).power.mains = .reserve ∧
      base.power.mains ≠ .reserve ∧ base.power.mains = .normal ∧ (m .returning).power.settle = some 2000 :=
  ⟨rfl, rfl, rfl, by decide, rfl, rfl⟩

theorem witness_PowerMonitor_switches :
    base.ready = true ∧ base.power.accessShows ≠ .active ∧ base.power.keyShows ≠ .off ∧
      (base.withPower { base.power with accessShows := .active, accessTimer := some 500 }).power.accessTimer = some 500 ∧
      (base.withPower { base.power with keyShows := .off, keyTimer := some 100 }).power.keyTimer = some 100 :=
  ⟨rfl, by decide, by decide, rfl, rfl⟩

theorem witness_AccessAndMainsLoss :
    let active (s : State) : State := { s with power := { s.power with access := .active } }
    let pending := (hung { atRestUnit with startPending := true } (.struck 3)).setBell 0
      { bell0 with claim := .struck 3, pending := true }
    (active base).power.access = .active ∧ base.power.access = .clear ∧ ((turning .raising 0).unit 0).rings = true ∧
      ((turning .lowering 0).unit 0).state = .lowering ∧ (base.unit 0).rings = false ∧ (base.unit 0).state ≠ .lowering ∧
      (base.unit 0).startPending = false ∧ (pending.unit 0).rings = false ∧ (pending.unit 0).state ≠ .lowering ∧
      (pending.unit 0).startPending = true ∧ pending.bellOfUnit 0 = some 0 ∧ (pending.bell 0).pending = true ∧
      base.run.state = .idle ∧ (inPeal { pealRun0 with state := .running }).run.state = .running ∧
      (inPeal { pealRun0 with state := .stopping }).run.state = .stopping ∧
      ((baseTables switchedTables).circuitRec 0).kind = .switched ∧ ((baseTables dimmedTables).circuitRec 0).kind = .dimmed ∧
      ((withCircuit0 { circuit0 with state := .warming }).circuit 0).state = .warming ∧
      ((withCircuit0 { circuit0 with state := .waiting }).circuit 0).state = .waiting ∧
      ((withCircuit0 { circuit0 with state := .on }).circuit 0).state = .on ∧ (base.circuit 0).state = .off := by decide +kernel

theorem witness_LoadingOpens :
    (base.withStart { base.start with resetHeld := true }).start.resetHeld = true ∧ base.start.supplied = true ∧
      (base.withStart { base.start with supplied := false }).start.supplied = false ∧ base.start.resetHeld = false :=
  ⟨rfl, rfl, rfl, rfl⟩

theorem witness_PartDoesNotRun :
    (base.withStart { base.start with resetHeld := true }).running = false ∧ outside .loadingEnd = false ∧
      State.reset.running = true ∧ State.reset.start.phase = .loading ∧ takenInLoading .telegramMark = false :=
  ⟨rfl, by decide, rfl, rfl, by decide⟩

theorem witness_LoadingEnds :
    State.reset.running = true ∧ State.reset.start.phase = .loading ∧ State.reset.start.retainedGood = false ∧
      (State.reset.withStart { start0 with retainedGood := true }).start.retainedGood = true := ⟨rfl, rfl, rfl, rfl⟩

/-! ## Commands on a small state -/

theorem test_mainsLossCools :
    let lit : State := (baseTables switchedTables).setCircuit 0 { circuit0 with state := .on, demand := 100 }
    ((after .mainsLineAbsent lit).circuit 0).state = .cooling ∧
      ((after .mainsLineAbsent lit).circuit 0).timer = some 600000 := by decide +kernel

/-- Circuits 0 and 1 lit and sheddable, a hammer waiting: C0's release meets the hammer's request and clears the signal, and C1
is still marked, and reported, before its mark is cleared (R144). -/
theorem test_shedNoticesInCircuitOrder :
    let r := { circuitRec0 with inUse := true, sheddable := true, rated := 60, shed := 20 }
    let lit : Circuit := { circuit0 with state := .on, level := 100, target := 100, demand := 100, sceneLevel := 100 }
    let s : State := { baseTables { tables0 with circuit := [(0, r), (1, r)] } with
      floods := { floods0 with circuits := [(0, lit), (1, lit)] }
      supply := { supply0 with grants := [(26, 60), (27, 60)], waiting := [{ asks with units := 100 }] } }
    ((after (.shedTimerExpiry (.hammer 15)) s).link.notices.filterMap fun n => match n.body with
      | .flood c _ _ cause _ _ _ _ => some (c, cause)
      | _ => none).take 4 = [(0, .shed), (1, .shed), (0, .restored), (1, .restored)] := by decide +kernel

/-- Circuit 0 at a shed level of 0 with 25 units held and a rise for 25 more still waiting: its release at the drop meets the
hammer's request, and the rise still waits when the signal is cleared (R140). -/
theorem test_shedReleasesBeforeTheRiseIsWithdrawn :
    let r := { circuitRec0 with inUse := true, sheddable := true, rated := 50, shed := 0 }
    let lit : Circuit := { circuit0 with state := .on, level := 50, target := 100, demand := 100, sceneLevel := 100 }
    let rise : SupplyRequest := { claimant := .flood 0, units := 25, joined := 0, shedAt := none }
    let s : State := { baseTables { tables0 with circuit := [(0, r)], supply := { supplySettings0 with budget := 40 } } with
      floods := { floods0 with circuits := [(0, lit)] }
      supply := { supply0 with grants := [(26, 25)], waiting := [{ asks with units := 20 }, rise] } }
    ((after (.shedTimerExpiry (.hammer 15)) s).link.notices.filterMap fun n => match n.body with
      | .supply .shedClear _ _ waiting _ _ => some waiting
      | _ => none) = [1] := by decide +kernel

theorem test_sceneNoticesInCircuitOrder :
    let lamp := { circuitRec0 with inUse := true, kind := .switched, rated := 30, surge := 45, restrike := 600 }
    let s : State := baseTables { tables0 with
      circuit := [(0, lamp), (4, { circuitRec0 with inUse := true, rated := 20 })]
      scene := [(3, { used := true, levels := [some 100, none, none, none, some 80] })] }
    (after (.scene [3]) s).link.notices.filterMap (fun n => match n.body with
      | .flood c _ new _ _ _ _ _ => some (c, new)
      | _ => none) = [(0, .waiting), (0, .warming), (0, .on), (4, .waiting), (4, .on)] := by decide +kernel

theorem test_playStrikes :
    let s := after (.play [1, 0, 2, 2, 0, 0, 0]) (baseTables rungTables)
    (s.bell 0).claim = .struck 0 ∧ (s.bell 0).hammer = .pulse 120 none ∧ s.supply.total = 8 := by decide +kernel

theorem test_ringRaises :
    let s := after (.ring [0, 30]) { baseTables rungTables with units := [(0, atRestUnit)] }
    (s.unit 0).state = .raising ∧ (s.bell 0).claim = .swung 0 := by decide +kernel

theorem test_dialsetSetsTheFace :
    let s := after (.dialset [0, 3, 12, 0, 30]) (baseTables { tables0 with dial := [(3, { dialRec0 with inUse := true })] })
    (s.dial 3).position = some 1 ∧ (s.dial 3).next = some .positive := by decide +kernel

theorem test_loadingEnds : (after .loadingEnd State.reset).start.phase = .ready := by decide +kernel

theorem test_restart : (after .transmitFrameEnd (after (.restart []) base)).start.phase = .loading := by decide +kernel

end Sys2Proof.Tests
end

section
/-! SUPPORT. A command's outcome in the words of the statements: what it does in READY, what a frame taken into the free slot
is answered, and the fields of a request made of whole bytes. -/

namespace Sys2Proof.Proofs

open Sys2Proof.Machine Sys2Proof.Claims

variable {s t : State}

/-! ## Commands in READY -/

/-- A command with an effect from READY only, its effect in READY being known. -/
theorem exec_of_ready {i : Instr} {f : State → State} (hi : exec i s = .next (readyCommand f s)) (hr : s.ready = true)
    (hf : f s = t) : exec i s = .next t.finish := by
  rw [hi, readyCommand_ready hr, hf]

theorem whenReady_ready (hr : s.ready = true) (f : State → State) : s.whenReady f = f s := by
  unfold State.whenReady
  rw [if_pos hr]

/-- The monitor reads its lines in every mode but NONE (R20). -/
theorem whenReading_ready (hr : s.ready = true) (hm : s.tables.time.mode ≠ .off) (f : State → State) :
    s.whenReading f = f s := by
  unfold State.whenReading
  rw [whenReady_ready hr]
  exact if_neg hm

/-! ## A frame taken into the free slot (R182) -/

/-- `taken` is the state the model executes a frame in. -/
theorem inSlot_eq_taken (s : State) : s.inSlot = taken s := rfl

/-- A request whose kind has a reply kind of its own, nothing to follow it, and a known answer. -/
theorem frameCommand_answered {kind : Byte} {body fields : List Byte} {status : Status} (hs : slotFree s)
    (hk : assignedKind kind = true) (hw : writesStore kind.toNat = false)
    (hl : (requiredLength kind.toNat).any (· ≠ body.length) = false)
    (ha : kind.toNat ≠ 0x09 ∧ kind.toNat ≠ 0x0A) (hb : 1 ≤ kind.toNat ∧ kind.toNat ≤ 0x3F)
    (hr : runRequest kind.toNat body (taken s) = (t, status, fields)) :
    frameCommand kind body s = .next (answered kind.toNat status fields t).finish := by
  obtain ⟨ready, slot⟩ := hs
  have judged : judgeRequest kind body s.inSlot = (t, status, fields) :=
    (judgeRequest_run hk (by rw [hw, Bool.false_and]) hl).trans (inSlot_eq_taken s ▸ hr)
  have follows : followUp kind body status s.link.rate = .nothing := by
    unfold followUp
    rw [if_neg ha.1, if_neg ha.2, ite_self]
  have reply : replyFrame kind status fields =
      { kind := byte (kind.toNat + 0x80), body := byte status.ctorIdx :: fields } := by
    unfold replyFrame
    rw [if_pos (by simpa using hb)]
  rw [frameCommand_inSlot ready slot, judged, follows, reply]
  rfl

/-! ## Fields of whole bytes (R194) -/

theorem beNat_one (b : Byte) : beNat [b] = b.toNat := by simp [beNat]

theorem beNat_two (a b : Byte) : beNat [a, b] = a.toNat * 256 + b.toNat := by simp [beNat]

/-- A body without marks is its numbers. -/
theorem unpack_of_noMarks {rooms : List Room} (h : markBits rooms = 0) (body : List Byte) :
    unpack rooms body = some (unpackFrom rooms 0 body) := by
  simp [unpack, markBytes, h, leNat]

theorem fields_of_unpack {rooms : List Room} {body : List Byte} {values : List Nat} (h : unpack rooms body = some values)
    (run : List Nat → State → Answer) : fields rooms body run s = run values s := by
  unfold fields
  rw [h]

/-! ## The reports (R24, R44, R90, R145, R156, R166, R191) -/

/-- Settles O13: each report is its own request's answer, in the state in which the frame is executed. -/
theorem reports : Obligations.Reports := by
  unfold Obligations.Reports
  refine ⟨fun s hs => ⟨?status, ?time, ?day, ?flood, ?light, ?supply⟩, fun s hs => ?queue⟩
  case status => exact frameCommand_answered (kind := 0x01) hs rfl rfl rfl (by decide) (by decide) rfl
  case time => exact frameCommand_answered (kind := 0x11) hs rfl rfl rfl (by decide) (by decide) rfl
  case day => exact frameCommand_answered (kind := 0x13) hs rfl rfl rfl (by decide) (by decide) rfl
  case flood => exact frameCommand_answered (kind := 0x32) hs rfl rfl rfl (by decide) (by decide) rfl
  case light => exact frameCommand_answered (kind := 0x33) hs rfl rfl rfl (by decide) (by decide) rfl
  case supply => exact frameCommand_answered (kind := 0x34) hs rfl rfl rfl (by decide) (by decide) rfl
  case queue => exact frameCommand_answered (kind := 0x1A) hs rfl rfl rfl (by decide) (by decide) rfl

end Sys2Proof.Proofs
end

section
/-! SUPPORT. Kept time as it runs (R3): where a kept second ends, and how far kept time has come after `n` ms. -/

namespace Sys2Proof.Proofs

open Sys2Proof.Machine Sys2Proof.Claims

/-! ## A kept second -/

/-- The units kept time shows at a place inside a kept second, with the fraction of a ms, are the place. -/
theorem units_atPlace (b : TimeBase) (second place : Nat) (h : place < 1000 * tick) :
    ∃ kept, (b.atPlace second place).kept = some kept ∧
      kept * tick + (b.atPlace second place).sub = second * 1000 * tick + place := by
  refine ⟨_, rfl, ?_⟩
  simp only [TimeBase.atPlace, tick] at h ⊢
  omega

theorem secondUnits_of_noSlew {b : TimeBase} (h : b.slew = 0) : b.secondUnits = 1000 * tick := by
  simp [TimeBase.secondUnits, secondLength, h]

theorem slew_endSecond_of_noSlew {b : TimeBase} (h : b.slew = 0) : b.endSecond.slew = 0 := by
  simp [TimeBase.endSecond, TimeBase.slewed, h]

theorem slew_slewed_zero (b : TimeBase) : (b.slewed 0).slew = b.slew := by
  simp [TimeBase.slewed]

/-- Without a slew every kept second has 1000 trimmed ms, and kept time moves by the trimmed time that passes. -/
theorem runTrimmed_of_noSlew {b : TimeBase} (hs : b.slew = 0) (hh : b.slewHold = false)
    (kept units : Nat) :
    ∃ kept', (b.runTrimmed kept units).kept = some kept' ∧
      kept' * tick + (b.runTrimmed kept units).sub = kept * tick + b.sub + units := by
  have place : b.place kept = kept % 1000 * tick + b.sub := by simp [TimeBase.place, hh]
  have first : b.secondUnits = 1000 * tick := secondUnits_of_noSlew hs
  have ended : b.endSecond.slew = 0 := slew_endSecond_of_noSlew hs
  have later : (b.endSecond.slewed 0).secondUnits = 1000 * tick :=
    secondUnits_of_noSlew ((slew_slewed_zero _).trans ended)
  by_cases inside : b.place kept + units < b.secondUnits
  · have run : b.runTrimmed kept units = b.atPlace (kept / 1000) (b.place kept + units) := by
      simp [TimeBase.runTrimmed, inside]
    obtain ⟨kept', hk, sum⟩ := units_atPlace b (kept / 1000) (b.place kept + units) (first ▸ inside)
    refine ⟨kept', run ▸ hk, ?_⟩
    rw [run, sum, place]
    simp only [tick]
    omega
  · rw [first] at inside
    have run : b.runTrimmed kept units =
        (b.endSecond.slewed 0).atPlace (kept / 1000 + 1 + (b.place kept + units - 1000 * tick) / (1000 * tick))
          ((b.place kept + units - 1000 * tick) % (1000 * tick)) := by
      simp [TimeBase.runTrimmed, inside, ended, first, later]
    obtain ⟨kept', hk, sum⟩ := units_atPlace (b.endSecond.slewed 0)
      (kept / 1000 + 1 + (b.place kept + units - 1000 * tick) / (1000 * tick))
      ((b.place kept + units - 1000 * tick) % (1000 * tick)) (Nat.mod_lt _ (by decide))
    refine ⟨kept', run ▸ hk, ?_⟩
    rw [run, sum]
    rw [place] at inside ⊢
    simp only [tick] at inside ⊢
    omega

/-- A kept second of a slew that is run to its end: the next begins, with the remainder moved by one toward zero. -/
theorem runTrimmed_slewedSecond {b : TimeBase} {second units : Nat} (hb : b.sub = 0) (hh : b.slewHold = false)
    (ha : b.slewArmed = true) (hs : b.slew ≠ 0) (hu : units = secondLength b.slew * tick) :
    (b.runTrimmed (second * 1000) units).kept = some (second * 1000 + 1000) ∧
      (b.runTrimmed (second * 1000) units).slew = b.slew - if 0 < b.slew then 1 else -1 := by
  have place : b.place (second * 1000) = 0 := by simp [TimeBase.place, hb, hh]
  have first : b.secondUnits = units := by simp [TimeBase.secondUnits, ha, hu]
  have one : min 1 b.slew.natAbs = 1 := by omega
  have run : b.runTrimmed (second * 1000) units = (b.endSecond.slewed 0).atPlace (second + 1) 0 := by
    simp [TimeBase.runTrimmed, place, first]
  rw [run]
  refine ⟨?_, ?_⟩
  · simp only [TimeBase.atPlace, Nat.zero_div, Option.some.injEq]
    omega
  · show (b.endSecond.slewed 0).slew = _
    rw [slew_slewed_zero]
    simp [TimeBase.endSecond, TimeBase.slewed, ha, one]

/-! ## The clock's run -/

theorem reads_withElapsed (b : TimeBase) (n : Nat) :
    ({ b with elapsed := n } : TimeBase).kept = b.kept ∧ ({ b with elapsed := n } : TimeBase).sub = b.sub ∧
      ({ b with elapsed := n } : TimeBase).slew = b.slew := ⟨rfl, rfl, rfl⟩

/-- While the part runs kept time moves by the trimmed time of the ms that pass. -/
theorem advance_of_kept {b : TimeBase} {kept : Nat} (h : b.kept = some kept) (n : Nat) :
    (b.advance n).kept = (b.runTrimmed kept (n * b.pace)).kept ∧
      (b.advance n).sub = (b.runTrimmed kept (n * b.pace)).sub ∧
      (b.advance n).slew = (b.runTrimmed kept (n * b.pace)).slew := by
  unfold TimeBase.advance
  rw [h]
  exact reads_withElapsed _ _

/-- While the part does not run elapsed time stands (R1). -/
theorem elapsed_drift (b : TimeBase) (n : Nat) : (b.drift n).elapsed = b.elapsed := by
  unfold TimeBase.drift
  split <;> rfl

/-- Kept time without a slew runs at the trimmed rate (R3). -/
theorem advance_of_noSlew {b : TimeBase} {kept : Nat} (n : Nat) (hk : b.kept = some kept) (hs : b.slew = 0)
    (hh : b.slewHold = false) (ht : -2000 ≤ b.trim) :
    ∃ kept', (b.advance n).kept = some kept' ∧
      (kept' * 10000000 + (b.advance n).sub : Int) = kept * 10000000 + b.sub + n * (10000000 + b.trim) := by
  obtain ⟨kept', hk', sum⟩ := runTrimmed_of_noSlew hs hh kept (n * b.pace)
  obtain ⟨keptRuns, subRuns, -⟩ := advance_of_kept hk n
  refine ⟨kept', keptRuns.trans hk', ?_⟩
  have pace : (b.pace : Int) = 10000000 + b.trim := Int.toNat_of_nonneg (by omega)
  simp only [tick] at sum
  rw [subRuns, ← pace]
  exact_mod_cast sum

/-- A slewed kept second of a time base with trim 0 ends after its own count of ms (R3, log 8). -/
theorem advance_slewedSecond {b : TimeBase} {second n : Nat} (hk : b.kept = some (second * 1000)) (hb : b.sub = 0)
    (hh : b.slewHold = false) (ht : b.trim = 0) (ha : b.slewArmed = true) (hs : b.slew ≠ 0)
    (hn : secondLength b.slew = n) :
    (b.advance n).kept = some (second * 1000 + 1000) ∧ (b.advance n).slew = b.slew - if 0 < b.slew then 1 else -1 := by
  have units : n * b.pace = secondLength b.slew * tick := by simp [TimeBase.pace, ht, hn, tick]
  obtain ⟨keptRuns, -, slewRuns⟩ := advance_of_kept hk n
  rw [keptRuns, slewRuns]
  exact runTrimmed_slewedSecond hb hh ha hs units

/-! ## A step without a command (log 2) -/

theorem step_of_noCommand {s : State} (h : s.pending = []) :
    step s = .next (s.withTime (if s.running then s.time.advance 1 else s.time.drift 1)) := by
  unfold step
  rw [h]
  rfl

/-- Settles O2: the clock's step and run, kept time without a slew, and the two slewed seconds. -/
theorem theClock : Obligations.TheClock := by
  unfold Obligations.TheClock
  refine ⟨fun s h => ⟨step_of_noCommand h, rfl, elapsed_drift _ 1⟩, fun s n => ?run,
    fun b kept n hk hs hh _ ht => advance_of_noSlew n hk hs hh ht,
    fun b second hk hb hh ht ha => ⟨fun gains => ?short, fun loses => ?long⟩⟩
  case run =>
    have kept := s.time.runsOn_advance (n - s.time.elapsed)
    exact ⟨s.now_runTo n, s.runTo_eq n, kept.state, kept.trim, kept.offset, kept.lastConf⟩
  case short =>
    have ended := advance_slewedSecond hk hb hh ht ha (by omega) (n := 999) (by simp [secondLength, gains])
    rwa [if_pos gains] at ended
  case long =>
    have notGains : ¬0 < b.slew := by omega
    have ended := advance_slewedSecond hk hb hh ht ha (by omega) (n := 1001) (by simp [secondLength, loses, notGains])
    rwa [if_neg notGains, sub_neg_eq_add] at ended

end Sys2Proof.Proofs
end

section
/-! SUPPORT. The time base: changes of civil time, the events of running time and the time states (1.1, 1.2, 1.6). -/

namespace Sys2Proof.Proofs

open Sys2Proof.Machine Sys2Proof.Claims

variable {s : State} {b : TimeBase} {old new : Nat}

/-! ## Changes of civil time otherwise than by running (R4, R5) -/

theorem retime_of_step (ho : s.time.civil = some old) (hn : b.civil = some new) (h : old ≠ new) (cause : TimeCause)
    (always : Bool) :
    s.retime b cause always =
      ((s.withTime (b.seenAt new)).postAll [.stepDay old new, .stepStrike old new, .stepDials new]).notify
        (.time cause s.time.state b.state ((new : Int) - old) (some new)) := by
  unfold State.retime
  rw [ho, hn]
  exact if_neg h

theorem retime_of_sameCivil (ho : s.time.civil = some new) (hn : b.civil = some new) (cause : TimeCause) (always : Bool) :
    s.retime b cause always =
      if always then (s.withTime b).notify (.time cause s.time.state b.state 0 (some new)) else s.withTime b := by
  unfold State.retime
  rw [ho, hn]
  exact if_pos rfl

theorem retime_of_timeSet (ho : s.time.civil = none) (hn : b.civil = some new) (cause : TimeCause) (always : Bool) :
    s.retime b cause always =
      ((s.withTime (b.seenAt new)).postAll [.timeSetDay new, .timeSetStrike new, .timeSetDials new]).notify
        (.time cause s.time.state b.state 0 (some new)) := by
  unfold State.retime
  rw [ho, hn]

theorem retime_of_noCivil (hn : b.civil = none) (cause : TimeCause) (always : Bool) :
    s.retime b cause always = s.withTime b := by
  unfold State.retime
  rw [hn]
  cases s.time.civil <;> rfl

/-- The time base after a change is the one given, but for the boundaries counted as seen (log 35). -/
theorem time_retime (s : State) (b : TimeBase) (cause : TimeCause) (always : Bool) :
    ∃ minute half, (s.retime b cause always).time = { b with minuteSeen := minute, halfSeen := half } := by
  cases hn : b.civil with
  | none => exact ⟨_, _, congrArg State.time (retime_of_noCivil hn cause always)⟩
  | some new =>
    cases ho : s.time.civil with
    | none => exact ⟨_, _, congrArg State.time (retime_of_timeSet ho hn cause always)⟩
    | some old =>
      by_cases h : old = new
      · rw [retime_of_sameCivil (h ▸ ho) hn]
        cases always <;> exact ⟨_, _, rfl⟩
      · exact ⟨_, _, congrArg State.time (retime_of_step ho hn h cause always)⟩

/-- A change to the time base already held, with no notice wanted, is none. -/
theorem retime_self (s : State) (cause : TimeCause) : s.retime s.time cause false = s := by
  cases h : s.time.civil with
  | none => exact retime_of_noCivil h cause false
  | some civil => exact retime_of_sameCivil h h cause false

/-! ## The events of running time (R2, R3, R4) -/

theorem civilMinuteBoundary_eq {seen offset : Nat} (hm : s.time.minuteSeen = some seen) (ho : s.time.offset = some offset) :
    civilMinuteBoundary s =
      ((s.runToKept ((seen + 1) * 60000 - offset * 60000)).withTime
        { (s.runToKept ((seen + 1) * 60000 - offset * 60000)).time with minuteSeen := some (seen + 1) }).postAll
          [.minuteDay (seen + 1), .minuteStrike (seen + 1)] := by
  unfold civilMinuteBoundary
  rw [hm, ho]

theorem passHalfMinute_eq {seen offset : Nat} (hh : s.time.halfSeen = some seen) (ho : s.time.offset = some offset) :
    passHalfMinute s = some
      ((s.runToKept ((seen + 1) * 30000 - offset * 60000)).withTime
        { (s.runToKept ((seen + 1) * 30000 - offset * 60000)).time with halfSeen := some (seen + 1) }, seen + 1) := by
  unfold passHalfMinute
  rw [hh, ho]

/-- A half-minute boundary, once it is passed: the dials have their new targets, and those whose target rises act (R123). -/
theorem civilHalfMinuteBoundary_of_pass {t : State} {half : Nat} (h : passHalfMinute s = some (t, half)) :
    civilHalfMinuteBoundary s =
      (t.withDials { t.dials with half := some (half % 1440) }).each [0, 1, 2, 3] fun d v =>
        if v.target (v.dialRec d) = t.target (v.dialRec d) then v else v.riseDial d := by
  unfold civilHalfMinuteBoundary
  rw [h]
  rfl

theorem keptSecondEnd_eq {kept : Nat} (hk : s.time.kept = some kept) (hs : s.time.slew ≠ 0) :
    keptSecondEnd s = s.runToKept ((kept / 1000 + (if s.time.slewArmed then 1 else 2)) * 1000) := by
  unfold keptSecondEnd
  rw [hk]
  exact if_neg hs

theorem rangeEnd_eq {kept : Nat} (hk : s.time.kept = some kept) :
    rangeEnd s = (s.runToKept (36525 * 86400000)).loseTime := by
  unfold rangeEnd
  rw [hk]
  rfl

/-- Settles O24: each event by its own equation, with the clock run to its instant. -/
theorem eventsOfRunningTime : Obligations.EventsOfRunningTime := by
  unfold Obligations.EventsOfRunningTime
  refine ⟨fun s offset seen hr ho => ⟨fun hm => ?minute, fun hh => ?half⟩,
    fun s kept hr hk => ⟨fun hs => ?second, ?range⟩⟩
  case minute => exact exec_of_ready (f := civilMinuteBoundary) rfl hr (civilMinuteBoundary_eq hm ho)
  case half =>
    exact exec_of_ready (f := civilHalfMinuteBoundary) rfl hr (civilHalfMinuteBoundary_of_pass (passHalfMinute_eq hh ho))
  case second => exact exec_of_ready (f := keptSecondEnd) rfl hr (keptSecondEnd_eq hk hs)
  case range => exact exec_of_ready (f := rangeEnd) rfl hr (rangeEnd_eq hk)

/-! ## The time states (R6, R21) -/

theorem lossOfLock_eq {last : Nat} (hs : s.time.state = .locked) (hc : s.time.lastConf = some last) :
    lossOfLock s = (s.runTo (last + 300000)).holdOver .holdover := by
  unfold lossOfLock
  rw [hs, hc]
  rfl

theorem holdEnd_of_holdover (hs : s.time.state = .holdover) :
    s.holdEnd = s.time.holdStart.map (· + s.tables.time.holdLimit * 3600000) := by
  unfold State.holdEnd
  exact if_pos hs

theorem holdEnd_of_notHoldover (hs : s.time.state ≠ .holdover) : s.holdEnd = none := by
  unfold State.holdEnd
  exact if_neg hs

theorem holdoverLimit_eq {instant : Nat} (h : s.holdEnd = some instant) :
    holdoverLimit s = (s.runToKept instant).freeRun := by
  unfold holdoverLimit
  rw [h]

/-- At a seasonal instant outside LOCKED, with the rule's offset in force until then. -/
theorem seasonalInstant_eq {kept instant : Nat} (hs : s.time.state = .free ∨ s.time.state = .holdover)
    (hk : s.time.kept = some kept) (ho : s.time.offset = some (ruleOffset s.tables.time kept))
    (hi : nextEdge s.tables.time kept = some instant) :
    seasonalInstant s = (s.runToKept instant).retime ((s.runToKept instant).time.byRule s.tables.time) .seasonal false := by
  unfold seasonalInstant
  rw [if_pos hs, hk]
  simp only [ho, hi, ne_eq, not_true_eq_false, if_false, State.runToKept_tables]

/-- Settles O25: the timed changes of the time state, and the three cases of a change of civil time. -/
theorem timeStates : Obligations.TimeStates := by
  unfold Obligations.TimeStates
  refine ⟨⟨fun s last hr hs hc => ?lossOfLock, fun s start hr hs hh => ?holdoverLimit,
      fun s kept instant hr hs hk ho hi => ?seasonal⟩,
    fun s b cause always new hn => ⟨fun old ho h => ?step, fun ho => ?same, fun ho => ?timeSet⟩⟩
  case lossOfLock => exact exec_of_ready (f := lossOfLock) rfl hr (lossOfLock_eq hs hc)
  case holdoverLimit =>
    have ends : s.holdEnd = some (start + s.tables.time.holdLimit * 3600000) := by
      rw [holdEnd_of_holdover hs, hh, Option.map_some]
    exact exec_of_ready (f := holdoverLimit) rfl hr (holdoverLimit_eq ends)
  case seasonal => exact exec_of_ready (f := seasonalInstant) rfl hr (seasonalInstant_eq hs hk ho hi)
  case step => exact retime_of_step ho hn h cause always
  case same => exact retime_of_sameCivil ho hn cause always
  case timeSet => exact retime_of_timeSet ho hn cause always

end Sys2Proof.Proofs
end

section
/-! SUPPORT. A confirmation in two parts: the trim disciplined by the drift, and the offset corrected by a step or by the
slew (R8-R10). -/

namespace Sys2Proof.Proofs

open Sys2Proof.Machine Sys2Proof.Claims

variable {s : State} {b : TimeBase} {tel : Telegram} {phase : Latch} {p : PrevConf} {threshold : Nat} {offset : Int}

/-! ## The trim (R10) -/

theorem movedTrim_bounds (trim drift : Int) (interval : Nat) :
    -2000 ≤ movedTrim trim drift interval ∧ movedTrim trim drift interval ≤ 2000 :=
  ⟨le_max_left _ _, max_le (by decide) (min_le_left _ _)⟩

theorem discipline_of_drift (hp : b.prevConf = some p) (h : offset.natAbs < threshold) (instant : Nat) :
    b.discipline threshold instant offset = { b with
      trim := movedTrim b.trim (offset - (p.offset - p.account)) ((instant - p.phase) / 1000)
      lastInterval := some ((instant - p.phase) / 1000) } := by
  unfold TimeBase.discipline
  rw [hp]
  exact if_pos h

theorem discipline_of_noDrift (h : b.prevConf = none ∨ threshold ≤ offset.natAbs) (instant : Nat) :
    b.discipline threshold instant offset = { b with lastInterval := none } := by
  unfold TimeBase.discipline
  cases hp : b.prevConf with
  | none => rfl
  | some p =>
    rcases h with none_ | large
    · rw [hp] at none_; cases none_
    · exact if_neg (Nat.not_lt.mpr large)

/-- The offset a confirmation outside UNSET measures (R8). -/
def measured (tel : Telegram) (phase : Latch) (s : State) : Int := tel.label - s.latchedKept phase

/-- The time base before a confirmation's correction: its trim moved where the state was LOCKED (R10). -/
def disciplined (tel : Telegram) (phase : Latch) (s : State) : TimeBase :=
  if s.time.state = .locked then s.time.discipline s.tables.time.threshold phase.elapsed (measured tel phase s)
  else { s.time with lastInterval := none }

theorem disciplined_of_drift (hs : s.time.state = .locked) (hp : s.time.prevConf = some p)
    (h : (measured tel phase s).natAbs < s.tables.time.threshold) :
    disciplined tel phase s = { s.time with
      trim := movedTrim s.time.trim (measured tel phase s - (p.offset - p.account)) ((phase.elapsed - p.phase) / 1000)
      lastInterval := some ((phase.elapsed - p.phase) / 1000) } := by
  unfold disciplined
  rw [if_pos hs]
  exact discipline_of_drift hp h _

theorem disciplined_of_noDrift (h : s.time.state ≠ .locked ∨ s.time.prevConf = none ∨
      s.tables.time.threshold ≤ (measured tel phase s).natAbs) :
    disciplined tel phase s = { s.time with lastInterval := none } := by
  unfold disciplined
  by_cases hs : s.time.state = .locked
  · rw [if_pos hs]
    exact discipline_of_noDrift (h.resolve_left fun unlocked => unlocked hs) _
  · exact if_neg hs

/-- Only the trim and the interval reported move before the correction, the trim within its bounds. -/
theorem disciplined_eq (tel : Telegram) (phase : Latch) (s : State) :
    ∃ trim interval, disciplined tel phase s = { s.time with trim := trim, lastInterval := interval } ∧
      (-2000 ≤ s.time.trim → s.time.trim ≤ 2000 → -2000 ≤ trim ∧ trim ≤ 2000) := by
  by_cases h : s.time.state ≠ .locked ∨ s.time.prevConf = none ∨
      s.tables.time.threshold ≤ (measured tel phase s).natAbs
  · exact ⟨_, _, disciplined_of_noDrift h, And.intro⟩
  · push Not at h
    obtain ⟨locked, previous, small⟩ := h
    obtain ⟨p, hp⟩ := Option.ne_none_iff_exists'.mp previous
    exact ⟨_, _, disciplined_of_drift locked hp small, fun _ _ => movedTrim_bounds _ _ _⟩

/-! ## The correction (R9) -/

theorem correct_of_step (h : threshold ≤ offset.natAbs) (b : TimeBase) :
    b.correct threshold offset = { b with
      kept := b.kept.map fun kept : Nat => ((kept : Int) + offset).toNat, slew := 0, slewArmed := false, slewHold := false } :=
  if_pos h

theorem correct_of_slew (h : offset.natAbs < threshold) (b : TimeBase) :
    b.correct threshold offset =
      { b with slew := offset, slewArmed := b.kept.any fun kept => kept % 1000 = 0 } :=
  if_neg (Nat.not_le.mpr h)

/-- The correction moves kept time and the slew alone. -/
theorem correct_eq (b : TimeBase) (threshold : Nat) (offset : Int) :
    ∃ kept slew armed hold, b.correct threshold offset =
      { b with kept := kept, slew := slew, slewArmed := armed, slewHold := hold } := by
  rcases Nat.lt_or_ge offset.natAbs threshold with small | large
  · exact ⟨_, _, _, _, correct_of_slew small b⟩
  · exact ⟨_, _, _, _, correct_of_step large b⟩

/-! ## The confirmation (R8, R22) -/

/-- The time base of a confirmation from UNSET, before what every confirmation leaves. -/
def started (tel : Telegram) (phase : Latch) (s : State) : TimeBase :=
  { s.time with
    kept := some (tel.label + (s.now - phase.elapsed)), sub := 0, slew := 0, slewArmed := false, slewHold := false
    lastInterval := none }

/-- The time base a confirmation from UNSET leaves, but for the boundaries counted as seen. -/
theorem time_confirmation_of_unset (h : s.time.state = .unset) (source : PhaseSource) :
    ∃ minute half, (confirmation tel phase source s).time =
      { (started tel phase s).confirmed s.tables.time tel phase.elapsed 0 source s.now with
        minuteSeen := minute, halfSeen := half } := by
  unfold confirmation
  rw [h]
  exact time_retime _ _ _ _

theorem confirmation_of_set (h : s.time.state ≠ .unset) (source : PhaseSource) :
    ∃ cause always, confirmation tel phase source s = s.retime
      (((disciplined tel phase s).correct s.tables.time.threshold (measured tel phase s)).confirmed s.tables.time tel
        phase.elapsed (measured tel phase s) source s.now) cause always := by
  unfold confirmation
  split
  · contradiction
  · exact ⟨_, _, rfl⟩

/-- The time base a confirmation outside UNSET leaves, but for the boundaries counted as seen. -/
theorem time_confirmation_of_set (h : s.time.state ≠ .unset) (source : PhaseSource) :
    ∃ minute half, (confirmation tel phase source s).time =
      { ((disciplined tel phase s).correct s.tables.time.threshold (measured tel phase s)).confirmed s.tables.time tel
          phase.elapsed (measured tel phase s) source s.now with minuteSeen := minute, halfSeen := half } := by
  obtain ⟨cause, always, e⟩ := confirmation_of_set (tel := tel) (phase := phase) h source
  rw [e]
  exact time_retime _ _ _ _

theorem abs_lt_iff_natAbs_lt (offset : Int) (n : Nat) : |offset| < (n : Int) ↔ offset.natAbs < n := by
  rw [Int.abs_eq_natAbs, Nat.cast_lt]

theorem le_abs_iff_le_natAbs (offset : Int) (n : Nat) : (n : Int) ≤ |offset| ↔ n ≤ offset.natAbs := by
  rw [Int.abs_eq_natAbs, Nat.cast_le]

/-- What a confirmation leaves in every state: LOCKED, its instant, its source, the flag's offset, and elapsed time and the
trim's bounds as they were. -/
theorem confirmation_leaves (tel : Telegram) (phase : Latch) (source : PhaseSource) (s : State) :
    let t := confirmation tel phase source s
    t.time.state = .locked ∧ t.time.lastConf = some s.now ∧ t.time.lastPhase = some source ∧
    t.time.offset = some (if tel.seasonal then s.tables.time.offset else 0) ∧ t.time.elapsed = s.time.elapsed ∧
    (-2000 ≤ s.time.trim → s.time.trim ≤ 2000 → -2000 ≤ t.time.trim ∧ t.time.trim ≤ 2000) := by
  intro t
  by_cases h : s.time.state = .unset
  · obtain ⟨minute, half, e⟩ := time_confirmation_of_unset (tel := tel) (phase := phase) h source
    rw [show t.time = _ from e]
    exact ⟨rfl, rfl, rfl, rfl, rfl, And.intro⟩
  · obtain ⟨minute, half, e⟩ := time_confirmation_of_set (tel := tel) (phase := phase) h source
    obtain ⟨kept, slew, armed, hold, corrected⟩ :=
      correct_eq (disciplined tel phase s) s.tables.time.threshold (measured tel phase s)
    obtain ⟨trim, interval, moved, bounds⟩ := disciplined_eq tel phase s
    rw [show t.time = _ from e, corrected, moved]
    exact ⟨rfl, rfl, rfl, rfl, rfl, bounds⟩

/-- From UNSET kept time is set, with no slew and the trim as it was (R8). -/
theorem confirmation_sets (h : s.time.state = .unset) (source : PhaseSource) :
    (confirmation tel phase source s).time.kept = some (tel.label + (s.now - phase.elapsed)) ∧
      (confirmation tel phase source s).time.slew = 0 ∧ (confirmation tel phase source s).time.trim = s.time.trim := by
  obtain ⟨minute, half, e⟩ := time_confirmation_of_unset (tel := tel) (phase := phase) h source
  rw [e]
  exact ⟨rfl, rfl, rfl⟩

/-- Outside UNSET the offset is measured, recorded, and corrected by a step at the threshold and by the slew below it (R8,
R9). -/
theorem confirmation_corrects (h : s.time.state ≠ .unset) (source : PhaseSource) :
    let t := confirmation tel phase source s
    let offset := measured tel phase s
    t.time.lastOffset = some offset ∧ t.time.prevConf = some { phase := phase.elapsed, offset := offset, account := 0 } ∧
    ((s.tables.time.threshold : Int) ≤ |offset| →
      t.time.kept = s.time.kept.map (fun kept : Nat => ((kept : Int) + offset).toNat) ∧ t.time.slew = 0) ∧
    (|offset| < (s.tables.time.threshold : Int) → t.time.kept = s.time.kept ∧ t.time.slew = offset) := by
  intro t offset
  obtain ⟨minute, half, e⟩ := time_confirmation_of_set (tel := tel) (phase := phase) h source
  obtain ⟨trim, interval, moved, -⟩ := disciplined_eq tel phase s
  rw [show t.time = _ from e]
  refine ⟨rfl, rfl, fun large => ?step, fun small => ?slew⟩
  case step =>
    rw [correct_of_step ((le_abs_iff_le_natAbs _ _).mp large), moved]
    exact ⟨rfl, rfl⟩
  case slew =>
    rw [correct_of_slew ((abs_lt_iff_natAbs_lt _ _).mp small), moved]
    exact ⟨rfl, rfl⟩

/-- The trim after a confirmation outside UNSET is the disciplined one, and so is the interval reported (R10). -/
theorem trim_confirmation_of_set (h : s.time.state ≠ .unset) (source : PhaseSource) :
    (confirmation tel phase source s).time.trim = (disciplined tel phase s).trim ∧
      (confirmation tel phase source s).time.lastInterval = (disciplined tel phase s).lastInterval := by
  obtain ⟨minute, half, e⟩ := time_confirmation_of_set (tel := tel) (phase := phase) h source
  obtain ⟨kept, slew, armed, hold, corrected⟩ :=
    correct_eq (disciplined tel phase s) s.tables.time.threshold (measured tel phase s)
  rw [e, corrected]
  exact ⟨rfl, rfl⟩

/-- Settles O26: what every confirmation leaves, then UNSET, the correction, and the trim that moves or stands. (Under `Settled`,
so that `confirmation` still names the model's function here.) -/
theorem Settled.confirmation : Obligations.Confirmation := by
  unfold Obligations.Confirmation
  intro tel phase source s t threshold ago latched offset
  obtain ⟨locked, last, sourced, flagged, stands, bounds⟩ := confirmation_leaves tel phase source s
  refine ⟨locked, last, sourced, flagged, stands, bounds, fun h => confirmation_sets h source, fun h => ?_⟩
  obtain ⟨recorded, previous, steps, slews⟩ := confirmation_corrects (tel := tel) (phase := phase) h source
  obtain ⟨trim, interval⟩ := trim_confirmation_of_set (tel := tel) (phase := phase) h source
  refine ⟨recorded, previous, steps, slews, fun p hs hp small => ?moves, fun noDrift => ?stands⟩
  case moves =>
    rw [trim, interval, disciplined_of_drift hs hp ((abs_lt_iff_natAbs_lt _ _).mp small)]
    exact ⟨rfl, rfl⟩
  case stands =>
    have still := disciplined_of_noDrift (tel := tel) (phase := phase) (s := s)
      (noDrift.imp_right (Or.imp_right (le_abs_iff_le_natAbs _ _).mp))
    rw [trim, interval, still]
    exact ⟨rfl, rfl⟩

end Sys2Proof.Proofs
end

section
/-! SUPPORT. SETTIME (R7), and what a PUT of the TIME group does to the monitor's mode and to the time base (R20, R23). -/

namespace Sys2Proof.Proofs

open Sys2Proof.Machine Sys2Proof.Claims

variable {s : State}

/-! ## SETTIME (R7) -/

/-- The date and time of a SETTIME are in range. -/
def InstantGood (d : Date) (hour minute second ms : Nat) : Prop :=
  d.valid = true ∧ 2000 ≤ d.year ∧ d.year ≤ 2099 ∧ hour < 24 ∧ minute < 60 ∧ second < 60 ∧ ms < 1000

theorem instantGood_iff (d : Date) (hour minute second ms : Nat) :
    (d.valid && within 2000 2099 d.year && decide (hour < 24) && decide (minute < 60) && decide (second < 60) &&
        decide (ms < 1000)) = true ↔ InstantGood d hour minute second ms := by
  simp [InstantGood, within, and_assoc]

theorem settimeRequest_of_range {year month day hour minute second ms : Nat}
    (h : ¬InstantGood { year := year, month := month, day := day } hour minute second ms) (s : State) :
    settimeRequest [year, month, day, hour, minute, second, ms] s = (s, .range, []) := by
  rw [← instantGood_iff, Bool.not_eq_true] at h
  unfold settimeRequest
  exact if_pos (by rw [h]; rfl)

theorem settimeRequest_of_good {year month day hour minute second ms : Nat}
    (h : InstantGood { year := year, month := month, day := day } hour minute second ms) (s : State) :
    settimeRequest [year, month, day, hour, minute, second, ms] s =
      if s.time.state = .locked then (s, .referenceHeld, [])
      else (s.setTime (dateMs { year := year, month := month, day := day } + timeMs hour minute second ms), .ok, []) := by
  rw [← instantGood_iff] at h
  unfold settimeRequest
  exact if_neg (by rw [h]; decide)

/-- SETTIME's nine bytes are seven numbers. -/
theorem fields_settime (yh yl month day hour minute second mh ml : Byte) (run : List Nat → State → Answer) (s : State) :
    fields [.bytes 2, .bytes 1, .bytes 1, .bytes 1, .bytes 1, .bytes 1, .bytes 2]
        [yh, yl, month, day, hour, minute, second, mh, ml] run s =
      run [yh.toNat * 256 + yl.toNat, month.toNat, day.toNat, hour.toNat, minute.toNat, second.toNat,
        mh.toNat * 256 + ml.toNat] s := by
  refine fields_of_unpack ((unpack_of_noMarks rfl _).trans ?_) run
  simp [unpackFrom, beNat_one, beNat_two]

/-- A SETTIME frame is answered as its request's numbers are. -/
theorem exec_settime {yh yl month day hour minute second mh ml : Byte} {t : State} {status : Status} (hs : slotFree s)
    (h : settimeRequest [yh.toNat * 256 + yl.toNat, month.toNat, day.toNat, hour.toNat, minute.toNat, second.toNat,
      mh.toNat * 256 + ml.toNat] (taken s) = (t, status, [])) :
    exec (.settime [yh, yl, month, day, hour, minute, second, mh, ml]) s = .next (answered 0x10 status [] t).finish :=
  frameCommand_answered (kind := 0x10) hs rfl rfl rfl (by decide) (by decide) ((fields_settime ..).trans h)

/-! ## A change of the reference mode (R20) -/

theorem newTimeSettings_of_sameMode {new : TimeSettings} (h : s.tables.time.mode = new.mode) :
    s.newTimeSettings new = (s.withTables { s.tables with time := new }).applyTimeSettings := by
  unfold State.newTimeSettings
  exact congrArg State.applyTimeSettings (if_pos h)

theorem newTimeSettings_of_newMode {new : TimeSettings} (h : s.tables.time.mode ≠ new.mode) :
    s.newTimeSettings new = ((s.withTables { s.tables with time := new }).changeMode new.mode).applyTimeSettings := by
  unfold State.newTimeSettings
  exact congrArg State.applyTimeSettings (if_neg h)

/-- The state once NONE is the mode: no second marks, no decision, no telegram. -/
def silenced (s : State) : State :=
  s.withRefs { s.refs with
    second := .absent, secondCount := 0, lastEdge := none, skew := none, deciding := []
    qual := .absent, count := 0, predecessor := none, pending := none, record := none, prevMark := none }

theorem changeMode_off (s : State) :
    s.changeMode .off = if s.time.state = .locked then (silenced s).holdOver .mode else silenced s := rfl

/-! ## The time base under new settings (R23) -/

/-- HOLDOVER judged by its limit (R6), the first part of R23. -/
def limitJudged (s : State) : State :=
  match s.holdEnd, s.time.kept with
  | some limit, some kept => if limit ≤ kept then s.freeRun else s
  | _, _ => s

/-- The offset in force judged by the new settings, the second part of R23. -/
def offsetJudged (s : State) : State :=
  match s.time.state with
  | .unset => s
  | .locked => s.retime { s.time with offset := some (flagOffset s.tables.time s.time.flagS) } .seasonal false
  | _ => s.retime (s.time.byRule s.tables.time) .seasonal false

theorem applyTimeSettings_eq (s : State) : s.applyTimeSettings = offsetJudged (limitJudged s) := rfl

theorem limitJudged_of_passed {limit kept : Nat} (hl : s.holdEnd = some limit) (hk : s.time.kept = some kept)
    (h : limit ≤ kept) : limitJudged s = s.freeRun := by
  unfold limitJudged
  rw [hl, hk]
  exact if_pos h

theorem limitJudged_of_notPassed (h : ∀ limit kept, s.holdEnd = some limit → s.time.kept = some kept → ¬limit ≤ kept) :
    limitJudged s = s := by
  unfold limitJudged
  split
  · exact if_neg (h _ _ ‹_› ‹_›)
  · rfl

theorem limitJudged_of_notHoldover (hs : s.time.state ≠ .holdover) : limitJudged s = s :=
  limitJudged_of_notPassed fun limit kept h => by rw [holdEnd_of_notHoldover hs] at h; cases h

theorem offsetJudged_of_unset (hs : s.time.state = .unset) : offsetJudged s = s := by
  unfold offsetJudged
  rw [hs]

theorem offsetJudged_of_locked (hs : s.time.state = .locked) :
    offsetJudged s = s.retime { s.time with offset := some (flagOffset s.tables.time s.time.flagS) } .seasonal false := by
  unfold offsetJudged
  rw [hs]

theorem offsetJudged_of_rule (hs : s.time.state = .free ∨ s.time.state = .holdover) :
    offsetJudged s = s.retime (s.time.byRule s.tables.time) .seasonal false := by
  unfold offsetJudged
  rcases hs with hs | hs <;> rw [hs]

/-- Once HOLDOVER has become FREE the rule's offset is in force already, so that judging it again changes nothing (log 65). -/
theorem offsetJudged_freeRun (s : State) : offsetJudged s.freeRun = s.freeRun := by
  obtain ⟨minute, half, e⟩ := time_retime s ({ s.time with state := .free }.byRule s.tables.time) .freeRun true
  have time : s.freeRun.time = { ({ s.time with state := .free } : TimeBase).byRule s.tables.time with
    minuteSeen := minute, halfSeen := half } := e
  have settled : s.freeRun.time.byRule s.freeRun.tables.time = s.freeRun.time := by
    rw [(moves_freeRun (Moves.refl s)).tables, time]
    rfl
  rw [offsetJudged_of_rule (Or.inl (by rw [time]; rfl)), settled]
  exact retime_self _ _

/-- Settles O27: the refusals and the setting of SETTIME, the new mode's part, then the limit and the offset of R23. -/
theorem setTime : Obligations.SetTime := by
  unfold Obligations.SetTime
  refine ⟨fun yh yl month day hour minute second mh ml s hs => ⟨fun bad => ?range, fun good held => ?held,
      fun good free => ?set⟩,
    fun new s => ⟨newTimeSettings_of_sameMode, newTimeSettings_of_newMode⟩,
    fun s => ⟨rfl, rfl, fun unlocked => ?quiet, fun locked => ?mode⟩,
    fun s => ⟨fun unset => ?unset, fun locked => ?locked, fun rule => ?rule, fun holdover passed => ?passed⟩⟩
  case range => exact exec_settime hs (settimeRequest_of_range bad _)
  case held => exact exec_settime hs ((settimeRequest_of_good good _).trans (if_pos held))
  case set => exact exec_settime hs ((settimeRequest_of_good good _).trans (if_neg free))
  case quiet => exact (changeMode_off s).trans (if_neg unlocked)
  case mode => exact (changeMode_off s).trans (if_pos locked)
  case unset =>
    rw [applyTimeSettings_eq, limitJudged_of_notHoldover (by rw [unset]; decide), offsetJudged_of_unset unset]
  case locked =>
    rw [applyTimeSettings_eq, limitJudged_of_notHoldover (by rw [locked]; decide), offsetJudged_of_locked locked]
    rfl
  case rule =>
    have inLimit : limitJudged s = s := by
      rcases rule with free | ⟨holdover, notPassed⟩
      · exact limitJudged_of_notHoldover (by rw [free]; decide)
      · refine limitJudged_of_notPassed fun limit kept hl hk passed => notPassed ?_
        rw [holdEnd_of_holdover holdover, Option.map_eq_some_iff] at hl
        obtain ⟨start, hh, rfl⟩ := hl
        exact ⟨start, kept, hh, hk, passed⟩
    rw [applyTimeSettings_eq, inLimit, offsetJudged_of_rule (rule.imp_right And.left)]
    rfl
  case passed =>
    obtain ⟨start, kept, hh, hk, h⟩ := passed
    have limit : s.holdEnd = some (start + s.tables.time.holdLimit * 3600000) := by
      rw [holdEnd_of_holdover holdover, hh, Option.map_some]
    rw [applyTimeSettings_eq, limitJudged_of_passed limit hk h, offsetJudged_freeRun]
    rfl

end Sys2Proof.Proofs
end

section
/-! SUPPORT. The telegram line: one character of a record, the limits of the line, and the mark of a telegram (R11-R16). -/

namespace Sys2Proof.Proofs

open Sys2Proof.Machine Sys2Proof.Claims

variable {s : State}

/-! ## Failed telegrams (R12, R13, R15) -/

theorem failPending_of_some {p : PendingTelegram} (h : s.refs.pending = some p) :
    s.failPending = s.withRefs { s.refs with
      pending := none, qual := .checking, count := 0, predecessor := none, lastTelegram := some (p.chars, false) } := by
  unfold State.failPending
  rw [h]
  rfl

theorem failPending_of_none (h : s.refs.pending = none) : s.failPending = s := by
  unfold State.failPending
  rw [h]

/-- A telegram becomes pending where none was; the deadline of its mark is 61 000 ms after the previous mark, or after now. -/
theorem makePending_of_idle (h : s.refs.pending = none) (tel : Telegram) (chars : List Byte) :
    s.makePending tel chars = s.withRefs { s.refs with
      pending := some { telegram := tel, chars := chars, deadline := (s.recentMark.getD s.now) + 61000 } } := by
  unfold State.makePending
  rw [failPending_of_none h]
  rfl

/-- A telegram becomes pending while another is, which fails (R13). -/
theorem makePending_of_busy {p : PendingTelegram} (h : s.refs.pending = some p) (tel : Telegram) (chars : List Byte) :
    s.makePending tel chars = s.withRefs { s.refs with
      qual := .checking, count := 0, predecessor := none, lastTelegram := some (p.chars, false)
      pending := some { telegram := tel, chars := chars, deadline := (s.recentMark.getD s.now) + 61000 } } := by
  unfold State.makePending
  rw [failPending_of_some h]
  rfl

/-! ## One character (R12, R13) -/

section
variable {start : Nat} {chars : List Byte} {c : Byte}

theorem takeChar_hash_outside (h : s.refs.record = none) :
    takeChar s 0x23 = s.withRefs { s.refs with record := some (s.now, [0x23]) } := by
  unfold takeChar
  rw [h]
  rfl

theorem takeChar_other_outside (h : s.refs.record = none) (hc : c ≠ 0x23) : takeChar s c = s := by
  unfold takeChar
  rw [h]
  exact if_neg hc

/-- A `#` inside a record fails it and begins another. -/
theorem takeChar_hash_inside (h : s.refs.record = some (start, chars)) :
    takeChar s 0x23 = s.withRefs { s.refs with
      record := some (s.now, [0x23]), lastTelegramTime := some s.now, qual := .checking, count := 0, predecessor := none
      lastTelegram := some (chars, false) } := by
  unfold takeChar
  rw [h]
  rfl

/-- A character at its place in a record that is not full joins it or fails it. -/
theorem takeChar_inside (h : s.refs.record = some (start, chars)) (hc : c ≠ 0x23) (hl : chars.length < 16) :
    takeChar s c = if allowedAt chars.length c then s.withRefs { s.refs with record := some (start, chars ++ [c]) }
      else s.failRecord chars := by
  unfold takeChar
  rw [h]
  exact (if_neg hc).trans (if_pos hl)

/-- Only a carriage return may follow the 16 characters. -/
theorem takeChar_other_full (h : s.refs.record = some (start, chars)) (hl : chars.length = 16) (hc : c ≠ 0x23)
    (hr : c ≠ 0x0D) : takeChar s c = s.failRecord chars := by
  unfold takeChar
  rw [h]
  exact (if_neg hc).trans ((if_neg (by omega)).trans (if_neg hr))

/-- The carriage return of a full record that makes no valid telegram. -/
theorem takeChar_return_invalid (h : s.refs.record = some (start, chars)) (hl : chars.length = 16) (hc : c = charReturn)
    (ht : readTelegram s.tables.time chars = none) : takeChar s c = s.failRecord chars := by
  have inside : c ≠ charHash := by rw [hc]; decide
  have full : ¬chars.length < 16 := by omega
  unfold takeChar
  rw [h]
  refine (if_neg inside).trans ((if_neg full).trans ((if_pos hc).trans ?_))
  rw [ht]

/-- The record of the line is over, complete. -/
def recordDone (s : State) : State := s.withRefs { s.refs with record := none, lastTelegramTime := some s.now }

/-- The carriage return of a full record: its valid telegram becomes pending. -/
theorem takeChar_return_valid {tel : Telegram} (h : s.refs.record = some (start, chars)) (hl : chars.length = 16)
    (hc : c = charReturn) (ht : readTelegram s.tables.time chars = some tel) :
    takeChar s c = (recordDone s).makePending tel chars := by
  have inside : c ≠ charHash := by rw [hc]; decide
  have full : ¬chars.length < 16 := by omega
  unfold takeChar
  rw [h]
  refine (if_neg inside).trans ((if_neg full).trans ((if_pos hc).trans ?_))
  rw [ht]
  rfl

end

/-! ## The line's commands -/

/-- A single character of the line, in a mode that reads it. -/
theorem exec_telegramRecord_one {t : State} {c : Byte} (hr : s.ready = true) (hm : s.tables.time.mode ≠ .off)
    (h : takeChar s c = t) : exec (.telegramRecord [c]) s = .next t.finish :=
  exec_of_ready (f := telegramRecord [c]) rfl hr ((whenReading_ready hr hm _).trans h)

theorem telegramRecordTimeout_eq {start : Nat} {chars : List Byte} (hr : s.ready = true) (hm : s.tables.time.mode ≠ .off)
    (h : s.refs.record = some (start, chars)) :
    telegramRecordTimeout s = (s.runTo (start + 2000)).failRecord chars := by
  refine (whenReading_ready hr hm _).trans ?_
  rw [h]
  rfl

theorem telegramMarkDeadline_eq {p : PendingTelegram} (hr : s.ready = true) (hm : s.tables.time.mode ≠ .off)
    (h : s.refs.pending = some p) : telegramMarkDeadline s = (s.runTo p.deadline).failPending := by
  refine (whenReading_ready hr hm _).trans ?_
  rw [h]

theorem telegramSilence_eq {last : Nat} (hr : s.ready = true) (hm : s.tables.time.mode ≠ .off)
    (h : s.refs.lastTelegramTime = some last) :
    telegramSilence s = (s.runTo (last + 180000)).withRefs { (s.runTo (last + 180000)).refs with
      qual := .absent, count := 0, predecessor := none, pending := none } := by
  refine (whenReading_ready hr hm _).trans ?_
  rw [h]
  rfl

/-- Settles O28: the character automaton by the place in the record, then the three limits of the line. -/
theorem telegramLine : Obligations.TelegramLine := by
  unfold Obligations.TelegramLine
  refine ⟨fun s hr hm => ⟨fun outside => ?outside, fun start chars h => ?again,
      fun start chars c h hl hc => ?inside, fun start chars h hl => ?full⟩,
    fun s hr hm => ⟨fun start chars h => ?late, fun p h => ?unmarked, fun last h => ?silent⟩⟩
  case outside =>
    exact ⟨exec_telegramRecord_one hr hm (takeChar_hash_outside outside),
      fun c hc => exec_telegramRecord_one hr hm (takeChar_other_outside outside hc)⟩
  case again => exact exec_telegramRecord_one hr hm (takeChar_hash_inside h)
  case inside =>
    have taken := takeChar_inside h hc hl
    exact ⟨fun allowed => exec_telegramRecord_one hr hm (taken.trans (if_pos allowed)),
      fun bad => exec_telegramRecord_one hr hm (taken.trans (if_neg (by rw [bad]; decide)))⟩
  case full =>
    refine ⟨fun c hc hreturn => ?other, fun bad => ?invalid, fun tel good idle => ?valid,
      fun tel p good busy => ?replaced⟩
    case other => exact exec_telegramRecord_one hr hm (takeChar_other_full h hl hc hreturn)
    case invalid => exact exec_telegramRecord_one hr hm (takeChar_return_invalid h hl rfl bad)
    case valid =>
      exact exec_telegramRecord_one hr hm ((takeChar_return_valid h hl rfl good).trans
        (makePending_of_idle (s := recordDone s) idle tel chars))
    case replaced =>
      exact exec_telegramRecord_one hr hm ((takeChar_return_valid h hl rfl good).trans
        (makePending_of_busy (s := recordDone s) busy tel chars))
  case late => exact exec_of_ready (f := telegramRecordTimeout) rfl hr (telegramRecordTimeout_eq hr hm h)
  case unmarked =>
    refine exec_of_ready (f := telegramMarkDeadline) rfl hr ((telegramMarkDeadline_eq hr hm h).trans ?_)
    exact failPending_of_some h
  case silent => exact exec_of_ready (f := telegramSilence) rfl hr (telegramSilence_eq hr hm h)

end Sys2Proof.Proofs
end

section
/-! SUPPORT. The marks of the reference monitor: the qualification of a telegram, the second marks, and the phase a confirmation
takes (R14, R15, R17-R19). -/

namespace Sys2Proof.Proofs

open Sys2Proof.Machine Sys2Proof.Claims

variable {s : State}

/-! ## The qualification (R15) -/

/-- A telegram consistent with the one before it (R15). -/
def Consistent (r : RefMonitor) (tel : Telegram) : Prop :=
  ∃ p, r.predecessor = some p ∧ tel.label = p.label + 60000 ∧ (tel.seasonal = p.seasonal ∨ p.announce = true)

theorem consistent_iff (r : RefMonitor) (tel : Telegram) : r.predecessor.any tel.consistent = true ↔ Consistent r tel := by
  simp [Consistent, Telegram.consistent, Option.any_eq_true]

theorem consistent_false_iff (r : RefMonitor) (tel : Telegram) :
    r.predecessor.any tel.consistent = false ↔ ¬Consistent r tel := by
  rw [← consistent_iff, Bool.not_eq_true]

/-- The first telegram of a row. -/
theorem qualify_begins {r : RefMonitor} {tel : Telegram} (h : r.qual = .absent ∨ ¬Consistent r tel) :
    r.qualify tel = ({ r with qual := .checking, count := 1, predecessor := some tel }, false) := by
  unfold RefMonitor.qualify
  rcases h with h | h
  · rw [h]
  · rw [(consistent_false_iff r tel).mpr h]
    cases r.qual <;> rfl

/-- The second telegram of a row. -/
theorem qualify_confirms {r : RefMonitor} {tel : Telegram} (hq : r.qual = .checking) (hn : r.count = 1)
    (h : Consistent r tel) :
    r.qualify tel = ({ r with qual := .confirmed, count := 2, predecessor := some tel }, true) := by
  unfold RefMonitor.qualify
  rw [hq, (consistent_iff r tel).mpr h]
  exact if_pos (by rw [hn])

/-- Every later telegram of a row. -/
theorem qualify_stays {r : RefMonitor} {tel : Telegram} (hq : r.qual = .confirmed) (h : Consistent r tel) :
    r.qualify tel = ({ r with count := min 255 (r.count + 1), predecessor := some tel }, true) := by
  unfold RefMonitor.qualify
  rw [hq, (consistent_iff r tel).mpr h]

/-- A mark moves the qualification, its count and the predecessor alone. -/
theorem qualify_eq (r : RefMonitor) (tel : Telegram) :
    ∃ qual count, (r.qualify tel).1 = { r with qual := qual, count := count, predecessor := some tel } := by
  unfold RefMonitor.qualify
  dsimp only
  split
  case h_4 => split <;> exact ⟨_, _, rfl⟩
  all_goals exact ⟨_, _, rfl⟩

/-! ## The phase of a confirmation (R18, R19) -/

/-- A confirmation delivered with a phase, where one is owed. -/
def delivered (confirms : Option Telegram) (phase : Latch) (source : PhaseSource) (s : State) : State :=
  match confirms with
  | some tel => confirmation tel phase source s
  | none => s

theorem delivered_ite (owed : Bool) (tel : Telegram) (phase : Latch) (source : PhaseSource) (s : State) :
    delivered (if owed then some tel else none) phase source s =
      if owed then confirmation tel phase source s else s := by
  cases owed <;> rfl

/-- A skew recorded (R18). -/
def skewed (skew : Option Int) (s : State) : State := s.withRefs { s.refs with skew := skew }

/-- The skew of a chosen second mark from a telegram mark. -/
def skewOf (mark : Latch) (e : SecEdge) : Int := (e.latch.elapsed : Int) - mark.elapsed

section
variable {d : Decision} {after : Option SecEdge} {e : SecEdge}

theorem decideMark_of_noMark (h : nearestMark d.mark.elapsed d.before after = none) (s : State) :
    decideMark d after s = delivered d.confirms d.mark .telegram (skewed none s) := by
  unfold decideMark
  rw [h]
  cases d.confirms <;> rfl

/-- The chosen mark is the phase where it is stable and within 50 ms, else the telegram mark is (R19). -/
theorem decideMark_of_mark (h : nearestMark d.mark.elapsed d.before after = some e) (s : State) :
    decideMark d after s =
      if e.stable = true ∧ |skewOf d.mark e| ≤ 50 then
        delivered d.confirms e.latch .second (skewed (some (skewOf d.mark e)) s)
      else delivered d.confirms d.mark .telegram (skewed (some (skewOf d.mark e)) s) := by
  have near : (e.stable && decide ((skewOf d.mark e).natAbs ≤ Config.skewBound)) = true ↔
      e.stable = true ∧ |skewOf d.mark e| ≤ 50 := by
    rw [Bool.and_eq_true, decide_eq_true_iff, Int.abs_eq_natAbs]
    exact and_congr_right fun _ => (Nat.cast_le (α := Int)).symm
  unfold decideMark
  rw [h]
  cases d.confirms with
  | none => exact (ite_self _).symm
  | some tel => exact if_congr near rfl rfl

theorem decideMark_of_noConfirmation {chosen : Option SecEdge} (h : nearestMark d.mark.elapsed d.before after = chosen)
    (hc : d.confirms = none) (s : State) : decideMark d after s = skewed (chosen.map (skewOf d.mark)) s := by
  cases chosen with
  | none => rw [decideMark_of_noMark h, hc]; rfl
  | some e => rw [decideMark_of_mark h, hc]; exact ite_self _

theorem decideMark_of_second {tel : Telegram} (h : nearestMark d.mark.elapsed d.before after = some e)
    (hc : d.confirms = some tel) (hs : e.stable = true) (hk : |skewOf d.mark e| ≤ 50) (s : State) :
    decideMark d after s = confirmation tel e.latch .second (skewed (some (skewOf d.mark e)) s) := by
  rw [decideMark_of_mark h, hc]
  exact if_pos ⟨hs, hk⟩

theorem decideMark_of_telegram {tel : Telegram} {chosen : Option SecEdge}
    (h : nearestMark d.mark.elapsed d.before after = chosen) (hc : d.confirms = some tel)
    (hf : ∀ e, chosen = some e → e.stable = false ∨ 50 < |skewOf d.mark e|) (s : State) :
    decideMark d after s = confirmation tel d.mark .telegram (skewed (chosen.map (skewOf d.mark)) s) := by
  cases chosen with
  | none => rw [decideMark_of_noMark h, hc]; rfl
  | some e =>
    rw [decideMark_of_mark h, hc]
    refine if_neg fun ⟨stable, near⟩ => ?_
    rcases hf e rfl with unstable | far
    · rw [stable] at unstable; cases unstable
    · exact absurd near (not_le.mpr far)

end

theorem phaseOf_of_notAuto (h : s.tables.time.mode ≠ .auto) (mark : Latch) (confirms : Option Telegram) :
    s.phaseOf mark confirms = delivered confirms mark .telegram s := by
  unfold State.phaseOf
  exact if_neg h

/-- In AUTO without second marks a mark is decided at once (R18). -/
theorem phaseOf_of_absent (hm : s.tables.time.mode = .auto) (h : s.refs.second = .absent) (mark : Latch)
    (confirms : Option Telegram) : s.phaseOf mark confirms = delivered confirms mark .telegram (skewed none s) := by
  unfold State.phaseOf
  exact (if_pos hm).trans ((if_pos h).trans (decideMark_of_noMark rfl s))

/-- In AUTO with second marks a mark waits for its decision, with the second mark of the last 1000 ms (R18); the monitor of
the mark itself tracks the second marks as before. -/
theorem phaseOf_of_seconds {r : RefMonitor} (hm : s.tables.time.mode = .auto) (h : r.second ≠ .absent)
    (hd : r.deciding = s.refs.deciding) (he : r.lastEdge = s.refs.lastEdge) (mark : Latch) (confirms : Option Telegram) :
    (s.withRefs r).phaseOf mark confirms = s.withRefs { r with
      deciding := s.refs.deciding ++
        [{ mark := mark, confirms := confirms
           before := s.refs.lastEdge.filter fun e => s.now - e.latch.elapsed ≤ 1000 }] } := by
  rw [← hd, ← he]
  unfold State.phaseOf
  exact (if_pos hm).trans (if_neg h)

/-! ## A telegram mark (R14) -/

section
variable {p : PendingTelegram}

/-- The monitor after a mark that its pending telegram passes. -/
def passed (s : State) (p : PendingTelegram) : RefMonitor :=
  { (s.refs.qualify p.telegram).1 with
    pending := none, prevMark := some s.now, lastTelegram := some (p.chars, true) }

/-- The monitor after a mark out of its band. -/
def missed (s : State) (p : PendingTelegram) : RefMonitor :=
  { s.refs with
    pending := none, qual := .checking, count := 0, predecessor := none, lastTelegram := some (p.chars, false)
    prevMark := some s.now }

theorem passed_seconds (s : State) (p : PendingTelegram) :
    (passed s p).second = s.refs.second ∧ (passed s p).deciding = s.refs.deciding ∧
      (passed s p).lastEdge = s.refs.lastEdge := by
  obtain ⟨qual, count, e⟩ := qualify_eq s.refs p.telegram
  unfold passed
  rw [e]
  exact ⟨rfl, rfl, rfl⟩

theorem telegramMark_of_noPending (hr : s.ready = true) (hm : s.tables.time.mode ≠ .off) (hp : s.refs.pending = none) :
    telegramMark s = s.withRefs { s.refs with prevMark := some s.now } := by
  refine (whenReading_ready hr hm _).trans ?_
  rw [hp]
  rfl

theorem telegramMark_of_passed (hr : s.ready = true) (hm : s.tables.time.mode ≠ .off) (hp : s.refs.pending = some p)
    (hb : s.markInBand = true) :
    telegramMark s = (s.withRefs (passed s p)).phaseOf s.latch
      (if (s.refs.qualify p.telegram).2 then some p.telegram else none) := by
  refine (whenReading_ready hr hm _).trans ?_
  rw [hp]
  exact if_pos hb

theorem telegramMark_of_missed (hr : s.ready = true) (hm : s.tables.time.mode ≠ .off) (hp : s.refs.pending = some p)
    (hb : s.markInBand = false) :
    telegramMark s = (s.withRefs (missed s p)).phaseOf s.latch none := by
  refine (whenReading_ready hr hm _).trans ?_
  rw [hp]
  refine (if_neg (by rw [hb]; decide)).trans ?_
  rw [failPending_of_some hp]
  rfl

end

/-- Settles O29: the phase by the mode and the second marks, for a mark that passes and for one that fails its telegram. -/
theorem telegramMarks : Obligations.TelegramMarks := by
  unfold Obligations.TelegramMarks
  refine ⟨fun s hr hm => ?telegram, fun s hr hm => ?auto, fun r tel => ?qualification⟩
  case telegram =>
    have reads : s.tables.time.mode ≠ .off := by rw [hm]; decide
    have notAuto : s.tables.time.mode ≠ .auto := by rw [hm]; decide
    refine ⟨fun hp => ?alone, fun p hp hb => ?missed, fun p hp hb => ?passed⟩
    case alone => exact exec_of_ready (f := telegramMark) rfl hr (telegramMark_of_noPending hr reads hp)
    case missed =>
      exact exec_of_ready (f := telegramMark) rfl hr ((telegramMark_of_missed hr reads hp hb).trans
        (phaseOf_of_notAuto (s := s.withRefs (missed s p)) notAuto _ _))
    case passed =>
      exact exec_of_ready (f := telegramMark) rfl hr ((telegramMark_of_passed hr reads hp hb).trans
        ((phaseOf_of_notAuto (s := s.withRefs (passed s p)) notAuto _ _).trans (delivered_ite _ _ _ _ _)))
  case auto =>
    have reads : s.tables.time.mode ≠ .off := by rw [hm]; decide
    refine ⟨fun hp => ?alone, fun p hp hb => ⟨fun absent => ?missedNow, fun seconds => ?missedWaits⟩,
      fun p hp hb => ⟨fun absent => ?passedNow, fun seconds => ?passedWaits⟩⟩
    case alone => exact exec_of_ready (f := telegramMark) rfl hr (telegramMark_of_noPending hr reads hp)
    case missedNow =>
      exact exec_of_ready (f := telegramMark) rfl hr ((telegramMark_of_missed hr reads hp hb).trans
        (phaseOf_of_absent (s := s.withRefs (missed s p)) hm absent _ _))
    case missedWaits =>
      exact exec_of_ready (f := telegramMark) rfl hr ((telegramMark_of_missed hr reads hp hb).trans
        (phaseOf_of_seconds (r := missed s p) hm seconds rfl rfl _ _))
    case passedNow =>
      obtain ⟨second, -, -⟩ := passed_seconds s p
      exact exec_of_ready (f := telegramMark) rfl hr ((telegramMark_of_passed hr reads hp hb).trans
        ((phaseOf_of_absent (s := s.withRefs (passed s p)) hm (second.trans absent) _ _).trans (delivered_ite _ _ _ _ _)))
    case passedWaits =>
      obtain ⟨second, deciding, lastEdge⟩ := passed_seconds s p
      exact exec_of_ready (f := telegramMark) rfl hr ((telegramMark_of_passed hr reads hp hb).trans
        (phaseOf_of_seconds hm (second ▸ seconds) deciding lastEdge _ _))
  case qualification =>
    obtain ⟨qual, count, e⟩ := qualify_eq r tel
    refine ⟨by rw [e], fun begins => ?begins, fun hq hn h => ?confirms, fun hq h => ?stays⟩
    case begins => rw [qualify_begins begins]; exact ⟨rfl, rfl, rfl⟩
    case confirms => rw [qualify_confirms hq hn h]; exact ⟨rfl, rfl, rfl⟩
    case stays => rw [qualify_stays hq h]; exact ⟨hq, rfl, rfl⟩

/-! ## Second marks (R17) -/

/-- A good interval between second marks (R17). -/
def GoodInterval (interval : Option Nat) : Prop := ∃ i, interval = some i ∧ 998 ≤ i ∧ i ≤ 1002

theorem goodInterval_iff (interval : Option Nat) :
    (interval.any fun i => 998 ≤ i && i ≤ 1002) = true ↔ GoodInterval interval := by
  simp [GoodInterval, Option.any_eq_true]

theorem goodInterval_false_iff (interval : Option Nat) :
    (interval.any fun i => 998 ≤ i && i ≤ 1002) = false ↔ ¬GoodInterval interval := by
  rw [← goodInterval_iff, Bool.not_eq_true]

section
variable {interval : Option Nat}

theorem secondAfter_absent (count : Nat) (interval : Option Nat) : secondAfter .absent count interval = (.unstable, 0) :=
  rfl

theorem secondAfter_unstable_good (h : GoodInterval interval) (count : Nat) :
    secondAfter .unstable count interval = if count + 1 = 10 then (.stable, 10) else (.unstable, count + 1) := by
  unfold secondAfter
  rw [(goodInterval_iff interval).mpr h]

theorem secondAfter_stable_good (h : GoodInterval interval) (count : Nat) :
    secondAfter .stable count interval = (.stable, 10) := by
  unfold secondAfter
  rw [(goodInterval_iff interval).mpr h]

theorem secondAfter_bad (h : ¬GoodInterval interval) (state : SecState) (count : Nat) :
    secondAfter state count interval = (.unstable, 0) := by
  unfold secondAfter
  rw [(goodInterval_false_iff interval).mpr h]
  cases state <;> rfl

end

/-- The second-mark state and count an edge now moves to. -/
def secondNow (s : State) : SecState × Nat :=
  secondAfter s.refs.second s.refs.secondCount (s.refs.lastEdge.map fun e => s.now - e.latch.elapsed)

/-- An edge now. -/
def edgeNow (s : State) : SecEdge := { latch := s.latch, stable := decide ((secondNow s).1 = .stable) }

/-- The monitor with an edge now, before the decisions it makes. -/
def edged (s : State) : State :=
  s.withRefs { s.refs with second := (secondNow s).1, secondCount := (secondNow s).2, lastEdge := some (edgeNow s) }

theorem secondMarkEdge_of_auto (hr : s.ready = true) (hm : s.tables.time.mode = .auto) :
    secondMarkEdge s = (edged s).decideAll (some (edgeNow s)) :=
  (whenReady_ready hr _).trans (if_neg (not_not_intro hm))

theorem secondMarkEdge_of_notAuto (hr : s.ready = true) (hm : s.tables.time.mode ≠ .auto) : secondMarkEdge s = s :=
  (whenReady_ready hr _).trans (if_pos hm)

theorem secondMarkTimeout_eq {e : SecEdge} (hr : s.ready = true) (h : s.refs.lastEdge = some e) :
    secondMarkTimeout s = (s.runTo (e.latch.elapsed + 3000)).withRefs { (s.runTo (e.latch.elapsed + 3000)).refs with
      second := .absent, secondCount := 0, lastEdge := none } := by
  refine (whenReady_ready hr _).trans ?_
  rw [h]
  rfl

/-! ## Decisions that wait (R18) -/

theorem decideAll_of_none (h : s.refs.deciding = []) (after : Option SecEdge) : s.decideAll after = s := by
  have still : { s.refs with deciding := [] } = s.refs := by rw [← h]
  unfold State.decideAll
  rw [h]
  exact congrArg s.withRefs still

theorem decideAll_of_one {d : Decision} (h : s.refs.deciding = [d]) (after : Option SecEdge) :
    s.decideAll after = decideMark d (after.filter fun e => e.latch.elapsed - d.mark.elapsed ≤ 1000)
      (s.withRefs { s.refs with deciding := [] }) := by
  unfold State.decideAll
  rw [h]
  rfl

/-- A decision whose 1000 ms have run is made with the mark before it alone. -/
theorem skewDecisionTimeout_of_one {d : Decision} (hr : s.ready = true) (h : s.refs.deciding = [d]) :
    skewDecisionTimeout s = decideMark d none ((s.runTo (d.mark.elapsed + 1000)).withRefs
      { (s.runTo (d.mark.elapsed + 1000)).refs with deciding := [] }) := by
  have ended : d.mark.elapsed + Config.skewReach ≤ (s.runTo (d.mark.elapsed + Config.skewReach)).now := by
    rw [State.now_runTo]
    exact le_max_right _ _
  refine (whenReady_ready hr _).trans ?_
  simp [h, ended]
  rfl

section
variable {d : Decision} {e : SecEdge}

theorem nearestMark_of_noBefore (hb : d.before = none) (after : Option SecEdge) :
    nearestMark d.mark.elapsed d.before after = after := by
  rw [hb]
  rfl

theorem nearestMark_of_noAfter (hb : d.before = some e) : nearestMark d.mark.elapsed d.before none = some e := by
  rw [hb]
  rfl

theorem nearestMark_of_both (hb : d.before = some e) (a : SecEdge) :
    nearestMark d.mark.elapsed d.before (some a) =
      if a.latch.elapsed - d.mark.elapsed < d.mark.elapsed - e.latch.elapsed then some a else some e := by
  rw [hb]
  rfl

end

/-- Settles O30: the table of the second marks, a decision made by an edge, and one made at its limit. -/
theorem secondMarksAndSkew : Obligations.SecondMarksAndSkew := by
  unfold Obligations.SecondMarksAndSkew
  refine ⟨⟨fun s hr hm hd => ?table, fun s e hr h => ?timeout, fun s hr hm => ?ignored⟩,
    fun s d hr hm hd => ?decision, fun s d tel hr hd hc => ⟨fun hb => ?limitAlone, fun e hb => ?limit⟩⟩
  case table =>
    intro interval good after
    have moves : ∀ {state : SecState} {count : Nat}, secondNow s = (state, count) → after state count := by
      intro state count h
      refine exec_of_ready (f := secondMarkEdge) rfl hr ((secondMarkEdge_of_auto hr hm).trans
        ((decideAll_of_none (s := edged s) hd _).trans ?_))
      unfold edged edgeNow
      rw [h]
      rfl
    refine ⟨fun absent => moves ?_, fun unstable isGood few => moves ?_, fun unstable isGood nine => moves ?_,
      fun unstable bad => moves (secondAfter_bad bad _ _), fun stable isGood => moves ?_,
      fun stable bad => moves (secondAfter_bad bad _ _)⟩
    · unfold secondNow; rw [absent, secondAfter_absent]
    · unfold secondNow; rw [unstable, secondAfter_unstable_good isGood]; exact if_neg (by omega)
    · unfold secondNow; rw [unstable, secondAfter_unstable_good isGood]; exact if_pos (by omega)
    · unfold secondNow; rw [stable, secondAfter_stable_good isGood]
  case timeout => exact exec_of_ready (f := secondMarkTimeout) rfl hr (secondMarkTimeout_eq hr h)
  case ignored => exact exec_of_ready (f := secondMarkEdge) rfl hr (secondMarkEdge_of_notAuto hr hm)
  case decision =>
    intro moved edge recorded after decided
    have made : ∀ {chosen : Option SecEdge}, nearestMark d.mark.elapsed d.before
        ((some edge).filter fun e => e.latch.elapsed - d.mark.elapsed ≤ 1000) = chosen → decided chosen := by
      intro chosen h
      have done := (secondMarkEdge_of_auto hr hm).trans (decideAll_of_one (s := edged s) hd _)
      refine ⟨fun hc => ?_, fun tel hc => ⟨fun e he hs hk => ?_, fun hf => ?_⟩⟩
      · exact exec_of_ready (f := secondMarkEdge) rfl hr (done.trans (decideMark_of_noConfirmation h hc _))
      · subst he
        exact exec_of_ready (f := secondMarkEdge) rfl hr (done.trans (decideMark_of_second h hc hs hk _))
      · exact exec_of_ready (f := secondMarkEdge) rfl hr (done.trans (decideMark_of_telegram h hc hf _))
    have reaches : after ≤ 1000 →
        (some edge).filter (fun e => e.latch.elapsed - d.mark.elapsed ≤ 1000) = some edge := fun near =>
      Option.filter_some_pos (decide_eq_true near)
    have misses : 1000 < after →
        (some edge).filter (fun e => e.latch.elapsed - d.mark.elapsed ≤ 1000) = none := fun far =>
      Option.filter_some_neg (decide_eq_false (Nat.not_le.mpr far))
    refine ⟨fun hb near => made ?_, fun hb far => made ?_, fun e hb => ⟨fun near nearer => made ?_, fun first => made ?_⟩⟩
    · rw [reaches near, nearestMark_of_noBefore hb]
    · rw [misses far, nearestMark_of_noBefore hb]
    · rw [reaches near, nearestMark_of_both hb]
      exact if_pos nearer
    · rcases Nat.lt_or_ge 1000 after with far | near
      · rw [misses far, nearestMark_of_noAfter hb]
      · rw [reaches near, nearestMark_of_both hb]
        exact if_neg (Nat.not_lt.mpr (first.resolve_left (Nat.not_lt.mpr near)))
  case limitAlone =>
    refine exec_of_ready (f := skewDecisionTimeout) rfl hr ((skewDecisionTimeout_of_one hr hd).trans ?_)
    exact decideMark_of_telegram (nearestMark_of_noBefore hb none) hc (fun e he => by cases he) _
  case limit =>
    refine exec_of_ready (f := skewDecisionTimeout) rfl hr ((skewDecisionTimeout_of_one hr hd).trans ?_)
    rw [decideMark_of_mark (nearestMark_of_noAfter hb), hc]
    rfl

end Sys2Proof.Proofs
end

section
/-! SUPPORT. The start (R174-R176): what a change made for each object establishes and leaves, the opening of LOADING, and the
entry to READY. -/

namespace Sys2Proof.Proofs

open Sys2Proof.Machine Sys2Proof.Claims

variable {s : State}

/-! ## A change made for each object -/

theorem each_keeps {P : State → Prop} {f : Nat → State → State} (keeps : ∀ i t, P t → P (f i t)) (l : List Nat)
    (h : P s) : P (s.each l f) := by
  unfold State.each
  induction l generalizing s with
  | nil => exact h
  | cons i l ih => exact ih (keeps i s h)

/-- What a change makes true of its own object, and leaves true of every other, is true of each object of the list. -/
theorem each_establishes {Q : Nat → State → Prop} {f : Nat → State → State} (makes : ∀ i t, Q i (f i t))
    (keeps : ∀ i j t, Q i t → Q i (f j t)) {l : List Nat} {i : Nat} (h : i ∈ l) (s : State) : Q i (s.each l f) := by
  induction l generalizing s with
  | nil => cases h
  | cons j l ih =>
    rcases List.mem_cons.mp h with rfl | later
    · exact each_keeps (P := Q i) (fun k t => keeps i k t) l (makes i s)
    · exact ih later (f j s)

theorem each_setBell_eq (l : List Nat) (v : Nat → State → Bell) (s : State) :
    ∃ bells, (s.each l fun b t => t.setBell b (v b t)) = s.withBells bells :=
  each_keeps (P := fun t => ∃ bells, t = s.withBells bells) (by rintro i t ⟨bells, rfl⟩; exact ⟨_, rfl⟩) l ⟨s.bells, rfl⟩

theorem each_setUnit_eq (l : List Nat) (v : Nat → State → SwingUnit) (s : State) :
    ∃ units, (s.each l fun u t => t.setUnit u (v u t)) = s.withUnits units :=
  each_keeps (P := fun t => ∃ units, t = s.withUnits units) (by rintro i t ⟨units, rfl⟩; exact ⟨_, rfl⟩) l ⟨s.units, rfl⟩

theorem each_setDial_eq (l : List Nat) (v : Nat → State → Dial) (s : State) :
    ∃ dials, (s.each l fun d t => t.setDial d (v d t)) = s.withDials dials :=
  each_keeps (P := fun t => ∃ dials, t = s.withDials dials) (by rintro i t ⟨dials, rfl⟩; exact ⟨_, rfl⟩) l ⟨s.dials, rfl⟩

theorem each_setCircuit_eq (l : List Nat) (v : Nat → State → Circuit) (s : State) :
    ∃ floods, (s.each l fun c t => t.setCircuit c (v c t)) = s.withFloods floods :=
  each_keeps (P := fun t => ∃ floods, t = s.withFloods floods) (by rintro i t ⟨floods, rfl⟩; exact ⟨_, rfl⟩) l
    ⟨s.floods, rfl⟩

/-- What every value set is, each bell of the list is. -/
theorem bell_each_setBell {p : Bell → Prop} {v : Nat → State → Bell} (hv : ∀ b t, p (v b t)) {l : List Nat} {b : Nat}
    (h : b ∈ l) (s : State) : p ((s.each l fun b t => t.setBell b (v b t)).bell b) := by
  refine each_establishes (Q := fun b t => p (t.bell b)) (fun i t => ?_) (fun i j t hp => ?_) h s
  · rw [State.bell_setBell_self]; exact hv i t
  · rw [State.bell_setBell]
    split
    · exact hv j t
    · exact hp

theorem unit_each_setUnit {p : SwingUnit → Prop} {v : Nat → State → SwingUnit} (hv : ∀ u t, p (v u t)) {l : List Nat}
    {u : Nat} (h : u ∈ l) (s : State) : p ((s.each l fun u t => t.setUnit u (v u t)).unit u) := by
  refine each_establishes (Q := fun u t => p (t.unit u)) (fun i t => ?_) (fun i j t hp => ?_) h s
  · rw [State.unit_setUnit_self]; exact hv i t
  · rw [State.unit_setUnit]
    split
    · exact hv j t
    · exact hp

theorem dial_each_setDial {p : Dial → Prop} {v : Nat → State → Dial} (hv : ∀ d t, p (v d t)) {l : List Nat} {d : Nat}
    (h : d ∈ l) (s : State) : p ((s.each l fun d t => t.setDial d (v d t)).dial d) := by
  refine each_establishes (Q := fun d t => p (t.dial d)) (fun i t => ?_) (fun i j t hp => ?_) h s
  · rw [State.dial_setDial_self]; exact hv i t
  · rw [State.dial_setDial]
    split
    · exact hv j t
    · exact hp

theorem circuit_each_setCircuit {p : Circuit → Prop} {v : Nat → State → Circuit} (hv : ∀ c t, p (v c t)) {l : List Nat}
    {c : Nat} (h : c ∈ l) (s : State) : p ((s.each l fun c t => t.setCircuit c (v c t)).circuit c) := by
  refine each_establishes (Q := fun c t => p (t.circuit c)) (fun i t => ?_) (fun i j t hp => ?_) h s
  · rw [State.circuit_setCircuit_self]; exact hv i t
  · rw [State.circuit_setCircuit]
    split
    · exact hv j t
    · exact hp

/-! ## The opening of LOADING (R174) -/

theorem lit_openCircuit (r : CircuitRec) (w : Circuit) : (openCircuit r w).state.lit = false := by
  unfold openCircuit
  cases r.kind <;> rfl

/-- The opening's objects, one kind after another. -/
theorem openObjects_eq (s : State) :
    ∃ bells units dials floods,
      s.openObjects = (((s.withBells bells).withUnits units).withDials dials).withFloods floods ∧ s.openObjects.dark := by
  obtain ⟨bells, hb⟩ := each_setBell_eq bellNumbers (fun b _ => openBell (s.unitOfBell b) (s.bell b)) s
  obtain ⟨units, hu⟩ := each_setUnit_eq unitNumbers (fun u _ => openUnit (s.swingRec u)) (s.withBells bells)
  obtain ⟨dials, hd⟩ := each_setDial_eq dialNumbers (fun d _ => openDial (s.dial d)) ((s.withBells bells).withUnits units)
  obtain ⟨floods, hc⟩ := each_setCircuit_eq circuitNumbers (fun c _ => openCircuit (s.circuitRec c) (s.circuit c))
    (((s.withBells bells).withUnits units).withDials dials)
  have opens : s.openObjects = (((s.withBells bells).withUnits units).withDials dials).withFloods floods := by
    unfold State.openObjects
    dsimp only
    rw [hb, hu, hd, hc]
  have quietBells : ∀ b < 16, ((s.withBells bells).bell b).hammer.pulses = false := fun b h =>
    hb ▸ bell_each_setBell (p := fun w => w.hammer.pulses = false) (fun _ _ => rfl) (List.mem_range.mpr h) s
  have quietUnits : ∀ u < 6, (((s.withBells bells).withUnits units).unit u).drive.impulsing = false := fun u h =>
    hu ▸ unit_each_setUnit (p := fun w => w.drive.impulsing = false) (fun _ _ => rfl) (List.mem_range.mpr h) _
  have quietDials : ∀ d < 4, ((((s.withBells bells).withUnits units).withDials dials).dial d).drive.impulsing = false :=
    fun d h => hd ▸ dial_each_setDial (p := fun w => w.drive.impulsing = false) (fun _ _ => rfl) (List.mem_range.mpr h) _
  have quietCircuits : ∀ c < 12,
      (((((s.withBells bells).withUnits units).withDials dials).withFloods floods).circuit c).state.lit = false :=
    fun c h => hc ▸ circuit_each_setCircuit (p := fun w => w.state.lit = false) (fun _ _ => lit_openCircuit _ _)
      (List.mem_range.mpr h) _
  refine ⟨bells, units, dials, floods, opens, ?_⟩
  rw [opens]
  exact ⟨quietBells, quietUnits, quietDials, quietCircuits⟩

/-- What the objects do not bear on, their opening keeps. -/
theorem openObjects_keeps {P : State → Prop}
    (keeps : ∀ t bells units dials floods, P t → P ((((t.withBells bells).withUnits units).withDials dials).withFloods floods))
    (h : P s) : P s.openObjects := by
  obtain ⟨bells, units, dials, floods, opens, -⟩ := openObjects_eq s
  rw [opens]
  exact keeps s bells units dials floods h

theorem dark_openObjects (s : State) : s.openObjects.dark := by
  obtain ⟨-, -, -, -, -, dark⟩ := openObjects_eq s
  exact dark

/-- The state `t` opens LOADING from `s`, with nothing driven by the objects of `u`. -/
def Opened (cause : StartCause) (s t u : State) : Prop :=
  t.start.phase = .loading ∧ t.start.cause = cause ∧ t.start.failed = s.store.bad ∧ t.running = true ∧
  t.time.elapsed = 0 ∧ t.time.kept = s.time.kept ∧ t.time.trim = s.time.trim ∧ t.time.slew = 0 ∧
  t.tables = s.store.load ∧ t.refs = refMonitor0 ∧ t.run = pealRun0 ∧ t.supply = supply0 ∧ t.light = light0 ∧
  t.converter = converter0 ∧ t.link = link0 ∧ t.agenda = [] ∧ t.chime.queue = [] ∧ t.chime.playing = none ∧
  t.power.mains = (if s.power.linePresent then .returning else .reserve) ∧
  t.power.access = s.power.accessShows ∧ t.power.key = s.power.keyShows ∧ t.store.saving = none ∧ u.dark ∧
  t.pending = s.pending

theorem openLoading_opened (cause : StartCause) (h : s.running = true) :
    Opened cause s (openLoading cause s) (openLoading cause s) := by
  have dark : (openLoading cause s).dark := dark_openObjects _
  refine openObjects_keeps (P := fun t => Opened cause s t (openLoading cause s)) (fun _ _ _ _ _ opened => opened) ?_
  exact ⟨rfl, rfl, rfl, h, rfl, rfl, rfl, rfl, rfl, rfl, rfl, rfl, rfl, rfl, rfl, rfl, rfl, rfl, rfl, rfl, rfl, rfl, dark,
    rfl⟩

theorem retainedGood_openLoading (cause : StartCause) (s : State) :
    (openLoading cause s).start.retainedGood = s.start.retainedGood :=
  openObjects_keeps (P := fun t => t.start.retainedGood = s.start.retainedGood) (fun _ _ _ _ _ kept => kept) rfl

theorem resetLineRelease_of_held (hh : s.start.resetHeld = true) (hs : s.start.supplied = true) :
    resetLineRelease s = openLoading .resetLine (s.withStart { s.start with resetHeld := false }) := by
  unfold resetLineRelease
  exact (if_pos hh).trans (if_pos hs)

theorem powerOn_of_failed (hh : s.start.resetHeld = false) (hs : s.start.supplied = false) (retained : Bool) :
    powerOn retained s = openLoading .powerOn
      (s.withStart { s.start with supplied := true, retainedGood := s.start.retainedGood && retained }) := by
  unfold powerOn
  exact (if_neg (by rw [hs]; decide)).trans (if_neg (by rw [hh]; decide))

/-- Settles O58: the opening is the same from either cause, on the state with its line or its supply back. -/
theorem loadingOpens : Obligations.LoadingOpens := by
  unfold Obligations.LoadingOpens
  intro s opened
  refine ⟨fun hh hs => ?line, fun retained hh hs => ?supply⟩
  case line =>
    have running : (s.withStart { s.start with resetHeld := false }).running = true := by
      simp [State.running, hs]
    exact ⟨_, congrArg Host.Outcome.next (resetLineRelease_of_held hh hs), openLoading_opened .resetLine running⟩
  case supply =>
    have running :
        (s.withStart { s.start with supplied := true, retainedGood := s.start.retainedGood && retained }).running = true := by
      simp [State.running, hh]
    exact ⟨_, congrArg Host.Outcome.next (powerOn_of_failed hh hs retained), openLoading_opened .powerOn running,
      retainedGood_openLoading _ _⟩

/-! ## The entry to READY (R175) -/

/-- A warm start touches the day programme's guards and the bells alone. -/
theorem warmStart_eq (s : State) : ∃ day bells, s.warmStart = (s.withDay day).withBells bells := by
  obtain ⟨day, hd⟩ : ∃ day,
      (if s.start.failed.contains .schedule then s.withDay { s.day with guards := [] } else s) = s.withDay day := by
    split
    · exact ⟨_, rfl⟩
    · exact ⟨s.day, rfl⟩
  unfold State.warmStart
  dsimp only
  rw [hd]
  split
  · obtain ⟨bells, hb⟩ := each_setBell_eq bellNumbers (fun b t => clearedBell (t.bell b)) (s.withDay day)
    exact ⟨day, bells, hb⟩
  · exact ⟨day, s.bells, rfl⟩

/-- Retained memory's values at a cold start, but for the bells' and the circuits'. -/
def forgotten (s : State) : State :=
  { s with
    time := coldTime s.time
    day := dayProgramme0
    chime := { s.chime with quarterGuard := none }
    dials := { s.dials with dials := [] }
    floods := { s.floods with lastScene := none } }

/-- A cold start clears what retained memory holds, each bell's fault and each circuit's scene level with it. -/
theorem coldStart_eq (s : State) :
    ∃ bells floods, s.coldStart = ((forgotten s).withBells bells).withFloods floods ∧
      (∀ b < 16, (s.coldStart.bell b).fault = .none ∧ (s.coldStart.bell b).opens = 0) ∧
      ∀ c < 12, (s.coldStart.circuit c).sceneLevel = 0 := by
  obtain ⟨bells, hb⟩ := each_setBell_eq bellNumbers (fun b t => clearedBell (t.bell b)) (forgotten s)
  obtain ⟨floods, hc⟩ := each_setCircuit_eq circuitNumbers (fun c t => { t.circuit c with sceneLevel := 0 })
    ((forgotten s).withBells bells)
  have cleared : s.coldStart = ((forgotten s).withBells bells).withFloods floods := by
    show ((forgotten s).each bellNumbers fun b t => t.setBell b (clearedBell (t.bell b))).each circuitNumbers
      (fun c t => t.setCircuit c { t.circuit c with sceneLevel := 0 }) = _
    rw [hb, hc]
  have bellsClear : ∀ b < 16, (((forgotten s).withBells bells).bell b).fault = .none ∧
      (((forgotten s).withBells bells).bell b).opens = 0 := fun b h =>
    hb ▸ bell_each_setBell (p := fun w => w.fault = .none ∧ w.opens = 0) (fun _ _ => ⟨rfl, rfl⟩) (List.mem_range.mpr h) _
  have circuitsClear : ∀ c < 12, ((((forgotten s).withBells bells).withFloods floods).circuit c).sceneLevel = 0 :=
    fun c h => hc ▸ circuit_each_setCircuit (p := fun w => w.sceneLevel = 0) (fun _ _ => rfl) (List.mem_range.mpr h) _
  refine ⟨bells, floods, cleared, ?_⟩
  rw [cleared]
  exact ⟨bellsClear, circuitsClear⟩

/-- The state warm or cold as retained memory's check decides (R175). -/
def judged (s : State) : State := if s.start.retainedGood then s.warmStart else s.coldStart

theorem judged_agenda_tables (s : State) : (judged s).agenda = s.agenda ∧ (judged s).tables = s.tables := by
  obtain ⟨day, bells, warm⟩ := warmStart_eq s
  obtain ⟨bells', floods, cold, -⟩ := coldStart_eq s
  unfold judged
  split
  · rw [warm]; exact ⟨rfl, rfl⟩
  · rw [cold]; exact ⟨rfl, rfl⟩

theorem loadingEnd_of_loading (h : s.start.phase = .loading) :
    loadingEnd s = ((judged s).withStart { (judged s).start with phase := .ready, retainedGood := true }).postAll
      (readyMessages (.start s.start.cause s.start.retainedGood s.start.failed s.power.mains s.power.access
        s.power.key)) := by
  unfold loadingEnd
  exact if_pos h

/-- Settles O60: the state judged warm or cold, in READY, with the START notice before the blocks' work. -/
theorem loadingEnds : Obligations.LoadingEnds := by
  unfold Obligations.LoadingEnds
  intro s running loading
  obtain ⟨agenda, tables⟩ := judged_agenda_tables s
  refine ⟨_, congrArg Host.Outcome.next ((command_running running loadingEnd).trans
    (congrArg State.finish (loadingEnd_of_loading loading))), rfl, rfl, tables, congrArg (· ++ _) agenda,
    fun good => ?warm, fun bad => ?cold⟩
  case warm =>
    obtain ⟨day, bells, warm⟩ := warmStart_eq s
    have isWarm : judged s = (s.withDay day).withBells bells := (if_pos good).trans warm
    rw [isWarm]
    exact ⟨rfl, rfl, rfl⟩
  case cold =>
    obtain ⟨bells, floods, cold, bellsClear, circuitsClear⟩ := coldStart_eq s
    have isCold : judged s = s.coldStart := if_neg (by rw [bad]; decide)
    rw [isCold]
    rw [cold] at bellsClear circuitsClear ⊢
    exact ⟨rfl, rfl, rfl, rfl, rfl, rfl, rfl, circuitsClear, bellsClear⟩

end Sys2Proof.Proofs
end

section
/-! SUPPORT. The day programme's guards and hand-off: QUIET, the guard of a candidate, and what a fired entry hands over
(R35, R36, R41-R43). -/

namespace Sys2Proof.Proofs

open Sys2Proof.Machine Sys2Proof.Claims

variable {s : State}

/-! ## QUIET (R41, R194) -/

theorem unpack_oneByte (v : Byte) : unpack [.bytes 1] [v] = some [v.toNat] := by
  rw [unpack_of_noMarks rfl, ← beNat_one v]
  rfl

theorem quietRequest_of_onOff {n : Nat} (h : n ≤ 1) (s : State) :
    quietRequest [n] s = (s.withDay { s.day with quiet := decide (n = 0) }, .ok, []) := by
  match n, h with
  | 0, _ => rfl
  | 1, _ => rfl

theorem quietRequest_of_range {n : Nat} (h : 2 ≤ n) (s : State) : quietRequest [n] s = (s, .range, []) := by
  match n, h with
  | _ + 2, _ => rfl

theorem exec_quiet {v : Byte} {t : State} {status : Status} (hs : slotFree s)
    (h : quietRequest [v.toNat] (taken s) = (t, status, [])) :
    exec (.quiet [v]) s = .next (answered 0x12 status [] t).finish :=
  frameCommand_answered (kind := 0x12) hs rfl rfl rfl (by decide) (by decide)
    ((fields_of_unpack (unpack_oneByte v) _).trans h)

/-! ## The action of an entry (R41, R42) -/

section
variable {e minute now : Nat} {kind : PerfKind} {args : PerfArgs} {t : State}

theorem handPerf_of_quiet (h : s.day.quiet = true) : s.handPerf e minute now kind args = s.skip e minute now .quiet .ok :=
  if_pos h

theorem handPerf_of_loud (h : s.day.quiet = false) :
    s.handPerf e minute now kind args =
      match s.offer (s.makePerf kind args .schedule (some e) s.now) with
      | (t, .accepted _) => t
      | (t, .noEntry) => t.skip e minute now .refused .noEntry
      | (t, .queueFull) => t.dropOffer (s.makePerf kind args .schedule (some e) s.now) .queueFull :=
  if_neg (by rw [h]; decide)

theorem handPerf_of_accepted (h : s.day.quiet = false) {id : Nat}
    (ho : s.offer (s.makePerf kind args .schedule (some e) s.now) = (t, .accepted id)) :
    s.handPerf e minute now kind args = t := by
  rw [handPerf_of_loud h, ho]

theorem handPerf_of_noEntry (h : s.day.quiet = false)
    (ho : s.offer (s.makePerf kind args .schedule (some e) s.now) = (t, .noEntry)) :
    s.handPerf e minute now kind args = t.skip e minute now .refused .noEntry := by
  rw [handPerf_of_loud h, ho]

theorem handPerf_of_queueFull (h : s.day.quiet = false)
    (ho : s.offer (s.makePerf kind args .schedule (some e) s.now) = (t, .queueFull)) :
    s.handPerf e minute now kind args =
      t.notify (.dropped (s.makePerf kind args .schedule (some e) s.now) false .queueFull) := by
  rw [handPerf_of_loud h, ho]
  rfl

theorem fireEntry_tune {tune repeats : Nat} (h : (s.entryRec e).action = .tune tune repeats) :
    fireEntry e minute now s = s.handPerf e minute now .tune (.tune tune repeats) := by
  unfold fireEntry
  rw [h]

theorem fireEntry_toll {bell count interval : Nat} (h : (s.entryRec e).action = .toll bell count interval) :
    fireEntry e minute now s =
      s.handPerf e minute now .toll (.strokes bell count (interval * 1000) s.tables.strike.velocity) := by
  unfold fireEntry
  rw [h]

theorem fireEntry_peal {plan : Nat} (h : (s.entryRec e).action = .peal plan) :
    fireEntry e minute now s = State.reportRefusal (startPeal plan s) e minute now := by
  unfold fireEntry
  rw [h]

theorem fireEntry_scene {scene : Nat} (h : (s.entryRec e).action = .scene scene) :
    fireEntry e minute now s = State.reportRefusal (activateScene scene s) e minute now := by
  unfold fireEntry
  rw [h]

theorem fireEntry_quietBegin (h : (s.entryRec e).action = .quietBegin) :
    fireEntry e minute now s = s.withDay { s.day with quiet := true } := by
  unfold fireEntry
  rw [h]

theorem fireEntry_quietEnd (h : (s.entryRec e).action = .quietEnd) :
    fireEntry e minute now s = s.withDay { s.day with quiet := false } := by
  unfold fireEntry
  rw [h]

end

/-! ## What an action leaves of the day programme -/

theorem day_offer (s : State) (p : Perf) : (s.offer p).1.day = s.day := by
  unfold State.offer
  split <;> rfl

theorem day_handPerf (s : State) (e minute now : Nat) (kind : PerfKind) (args : PerfArgs) :
    (s.handPerf e minute now kind args).day = s.day := by
  cases h : s.day.quiet with
  | true => rw [handPerf_of_quiet h]; rfl
  | false =>
    have stands := day_offer s (s.makePerf kind args .schedule (some e) s.now)
    rcases ho : s.offer (s.makePerf kind args .schedule (some e) s.now) with ⟨t, id | _ | _⟩ <;> rw [ho] at stands
    · rw [handPerf_of_accepted h ho]; exact stands
    · rw [handPerf_of_noEntry h ho]; exact stands
    · rw [handPerf_of_queueFull h ho]; exact stands

theorem day_startPeal (plan : Nat) (s : State) : (startPeal plan s).1.day = s.day := by
  unfold startPeal
  split <;> rfl

theorem day_writeLevels (s : State) (levels : List (Option Nat)) (last : Option Nat) :
    (s.writeLevels levels last).day = s.day := by
  obtain ⟨floods, written⟩ := each_setCircuit_eq
    (circuitNumbers.filter fun c => (levels.getD c none).any fun l => l ≠ (s.circuit c).sceneLevel)
    (fun c t => { t.circuit c with sceneLevel := (levels.getD c none).getD 0 }) s
  unfold State.writeLevels
  dsimp only
  rw [written]
  rfl

theorem day_activateScene (scene : Nat) (s : State) : (activateScene scene s).1.day = s.day := by
  unfold activateScene
  dsimp only
  split
  · exact day_writeLevels s _ _
  · rfl

theorem day_reportRefusal (r : State × Status) (e minute now : Nat) :
    (State.reportRefusal r e minute now).day = r.1.day := by
  unfold State.reportRefusal
  split <;> rfl

/-- A fired entry leaves every guard. -/
theorem guards_fireEntry (e minute now : Nat) (s : State) : (fireEntry e minute now s).day.guards = s.day.guards := by
  cases h : (s.entryRec e).action with
  | tune => rw [fireEntry_tune h, day_handPerf]
  | toll => rw [fireEntry_toll h, day_handPerf]
  | peal => rw [fireEntry_peal h, day_reportRefusal, day_startPeal]
  | scene => rw [fireEntry_scene h, day_reportRefusal, day_activateScene]
  | quietBegin => rw [fireEntry_quietBegin h]; rfl
  | quietEnd => rw [fireEntry_quietEnd h]; rfl

/-! ## A candidate judged (R35, R36) -/

section
variable {e minute now : Nat}

theorem guarded_iff : (s.guard e).any (minute ≤ ·) = true ↔ ∃ g, s.guard e = some g ∧ minute ≤ g := by
  simp only [Option.any_eq_true, decide_eq_true_eq]

theorem judgeEntry_of_guarded (h : ∃ g, s.guard e = some g ∧ minute ≤ g) : judgeEntry e minute now s = s :=
  if_pos (guarded_iff.mpr h)

theorem judgeEntry_of_fresh (h : ∀ g, s.guard e = some g → g < minute) :
    judgeEntry e minute now s =
      if now - minute ≤ (s.entryRec e).lateness then fireEntry e minute now (s.setGuard e (some minute))
      else (s.setGuard e (some minute)).skip e minute now .late .ok :=
  if_neg fun guarded =>
    have ⟨g, hg, later⟩ := guarded_iff.mp guarded
    absurd (h g hg) (Nat.not_lt.mpr later)

theorem guard_judgeEntry_of_fresh (h : ∀ g, s.guard e = some g → g < minute) :
    (judgeEntry e minute now s).guard e = some minute := by
  have isSet : (s.setGuard e (some minute)).guard e = some minute := State.guard_setGuard_self s e _
  rw [judgeEntry_of_fresh h]
  split
  · unfold State.guard
    rw [guards_fireEntry]
    exact isSet
  · exact isSet

end

/-- Settles O31: the request's two values, and the guard taken before the entry fires or is skipped. -/
theorem quietAndGuards : Obligations.QuietAndGuards := by
  unfold Obligations.QuietAndGuards
  refine ⟨fun v s hs => ⟨fun onOff => ?_, fun range => ?_⟩, fun e minute now s => ⟨judgeEntry_of_guarded, fun fresh => ?_⟩⟩
  · exact exec_quiet hs (quietRequest_of_onOff onOff (taken s))
  · exact exec_quiet hs (quietRequest_of_range range (taken s))
  · refine ⟨guard_judgeEntry_of_fresh fresh, fun timely => ?_, fun late => ?_⟩
    · exact (judgeEntry_of_fresh fresh).trans (if_pos timely)
    · exact (judgeEntry_of_fresh fresh).trans (if_neg (Nat.not_le.mpr late))

end Sys2Proof.Proofs
end

section
/-! SUPPORT. What the day programme reads (R27-R34): the day class of a date, the table dusk and dawn, the instants of the
today record, the trigger minute of an entry, and its application. -/

namespace Sys2Proof.Proofs

open Sys2Proof.Machine Sys2Proof.Claims

variable {s : State}

/-! ## The day class (R30) -/

theorem fits_iff (e : Special) (d : Date) :
    e.fits d = true ↔ e.used = true ∧ e.month = d.month ∧ e.day = d.day ∧ (e.year = none ∨ e.year = some d.year) := by
  have year : e.year.all (· = d.year) = true ↔ e.year = none ∨ e.year = some d.year := by
    cases e.year <;> simp
  simp only [Special.fits, Bool.and_eq_true, decide_eq_true_eq, year, and_assoc]

/-- The first entry of a kind, or else the first of all: an entry of another kind is taken only where none is of it. -/
theorem find_or_head {α : Type} {l : List α} (h : l ≠ []) (p : α → Bool) :
    ∃ x ∈ l, (l.find? p).or l.head? = some x ∧ (p x = false → ∀ y ∈ l, p y = false) := by
  cases found : l.find? p with
  | some x =>
    exact ⟨x, List.mem_of_find?_eq_some found, rfl, fun other => absurd (List.find?_some found) (by rw [other]; decide)⟩
  | none =>
    have others : ∀ y ∈ l, p y = false := fun y hy => by simpa using List.find?_eq_none.mp found y hy
    exact ⟨l.head h, List.head_mem h, by rw [Option.none_or, List.head?_eq_some_head h], fun _ => others⟩

theorem dayClass_of_noFit {day : Nat} (h : ∀ x ∈ s.tables.special, x.2.fits (dateOf day) = false) :
    s.dayClass day = (.weekday (weekdayOf day), none) := by
  have nothing : s.tables.special.filter (fun e => e.2.fits (dateOf day)) = [] :=
    List.filter_eq_nil_iff.mpr fun x hx => by rw [h x hx]; decide
  unfold State.dayClass
  dsimp only
  rw [nothing]
  rfl

theorem dayClass_of_fit {day : Nat} (h : ∃ x ∈ s.tables.special, x.2.fits (dateOf day) = true) :
    ∃ i e, (i, e) ∈ s.tables.special ∧ e.fits (dateOf day) = true ∧ s.dayClass day = (.special e.cls, some i) ∧
      (e.year = none → ∀ x ∈ s.tables.special, x.2.fits (dateOf day) = true → x.2.year = none) := by
  obtain ⟨x, hx, fits⟩ := h
  have filtered (y : Nat × Special) : y ∈ s.tables.special.filter (fun x => x.2.fits (dateOf day)) ↔
      y ∈ s.tables.special ∧ y.2.fits (dateOf day) = true := List.mem_filter
  obtain ⟨⟨i, e⟩, listed, chosen, undated⟩ :=
    find_or_head (List.ne_nil_of_mem ((filtered x).mpr ⟨hx, fits⟩)) fun x => x.2.year.isSome
  obtain ⟨member, fit⟩ := (filtered _).mp listed
  refine ⟨i, e, member, fit, ?_, fun noYear y hy hfits => ?_⟩
  · unfold State.dayClass
    dsimp only
    rw [chosen]
  · have noneSet := undated (by rw [noYear]; rfl) y ((filtered y).mpr ⟨hy, hfits⟩)
    exact Option.not_isSome_iff_eq_none.mp (Bool.eq_false_iff.mp noneSet)

/-! ## Sun minutes (R31) -/

theorem tableSun_some (s : State) (minute : Nat) :
    s.tableSun (some minute) =
      if minute + s.time.offset.getD 0 ≤ 1439 ∧ minute + s.time.offset.getD 0 + s.tables.light.margin ≤ 1439 then
        some (minute + s.time.offset.getD 0 + s.tables.light.margin)
      else none := by
  by_cases h : minute + s.time.offset.getD 0 ≤ 1439 <;> simp [State.tableSun, State.civilSun, h]

/-! ## The instants of the record (R32, R33) -/

theorem fixInstant_held (now : Nat) (table : Option Nat) (i : Nat × SunSource) :
    fixInstant now table (some i) = some i := rfl

theorem fixInstant_unset (now : Nat) : fixInstant now none none = none := rfl

theorem fixInstant_table (now m : Nat) : fixInstant now (some m) none = if m ≤ now then some (m, .table) else none := rfl

section
variable {t : Today} {civil : Nat}

theorem transitionDay_dark (ht : s.day.today = some t) (hc : s.time.civil = some civil) :
    transitionDay .dark s =
      if t.dusk = none ∧ 43200000 ≤ civil % 86400000 ∧ firstMinute (civil % 86400000) t.last ≤ 1439 then
        s.setToday { t with dusk := some (firstMinute (civil % 86400000) t.last, .light) }
      else s := by
  unfold transitionDay
  rw [ht, hc]
  rfl

theorem transitionDay_light (ht : s.day.today = some t) (hc : s.time.civil = some civil) :
    transitionDay .light s =
      if t.dawn = none ∧ civil % 86400000 < 43200000 then
        s.setToday { t with dawn := some (firstMinute (civil % 86400000) t.last, .light) }
      else s := by
  unfold transitionDay
  rw [ht, hc]
  rfl

end

/-! ## Triggers (R27) -/

theorem minuteOfDay_eq_some (k : Int) (m : Nat) : minuteOfDay k = some m ↔ m ≤ 1439 ∧ (m : Int) = k := by
  unfold minuteOfDay
  split
  · rw [Option.some.injEq]; omega
  · constructor
    · rintro ⟨⟩
    · omega

theorem sunTrigger_eq_some (s : State) (instant : Option (Nat × SunSource)) (sun : Option Nat) (offset : Int) (m : Nat) :
    s.sunTrigger instant sun offset = some m ↔ m ≤ 1439 ∧
      if 0 ≤ offset then ∃ i, instant = some i ∧ (m : Int) = i.1 + offset
      else ∃ c, s.civilSun sun = some c ∧ (m : Int) = c + offset := by
  unfold State.sunTrigger
  split <;> simp only [Option.bind_eq_some_iff, minuteOfDay_eq_some, ← exists_and_left, and_left_comm]

section
variable {t : Today} {e : Entry}

theorem trigger_clock {m : Nat} (h : e.trigger = .clock m) : s.trigger t e = some m := by
  unfold State.trigger
  rw [h]

theorem trigger_dusk {offset : Int} (h : e.trigger = .dusk offset) :
    s.trigger t e = s.sunTrigger t.dusk (s.sunRec (sunIndex t.day)).dusk offset := by
  unfold State.trigger
  rw [h]
  rfl

theorem trigger_dawn {offset : Int} (h : e.trigger = .dawn offset) :
    s.trigger t e = s.sunTrigger t.dawn (s.sunRec (sunIndex t.day)).dawn offset := by
  unfold State.trigger
  rw [h]
  rfl

end

/-! ## Application (R28) -/

theorem window_holds_iff (w : Window) (d : Date) :
    w.holds d = true ↔
      if monthDayCode w.fromMonth w.fromDay ≤ monthDayCode w.toMonth w.toDay then
        monthDayCode w.fromMonth w.fromDay ≤ monthDayCode d.month d.day ∧
          monthDayCode d.month d.day ≤ monthDayCode w.toMonth w.toDay
      else monthDayCode w.fromMonth w.fromDay ≤ monthDayCode d.month d.day ∨
        monthDayCode d.month d.day ≤ monthDayCode w.toMonth w.toDay := by
  unfold Window.holds
  dsimp only
  split <;> simp only [Bool.and_eq_true, Bool.or_eq_true, decide_eq_true_eq]

theorem applies_iff (e : Entry) (t : Today) :
    e.applies t = true ↔ e.used = true ∧
      (match t.cls with
        | .special c => e.classes.testBit c = true
        | .weekday w => e.days.testBit (w - 1) = true) ∧
      ∀ w, e.window = some w → w.holds (dateOf t.day) = true := by
  unfold Entry.applies
  cases t.cls <;> simp only [Bool.and_eq_true, and_assoc, Option.all_eq_true]

/-- Settles O32: each definition the day programme reads by, case by case. -/
theorem dayRecord : Obligations.DayRecord := by
  unfold Obligations.DayRecord
  refine ⟨fun s day => ?cls, fun s minute => ?sun, fun s t now => ?instants, fun s t civil ht hc => ?transition,
    fun s t e => ?entry⟩
  case cls =>
    intro fits
    have is (e : Special) : fits e ↔ e.fits (dateOf day) = true := (fits_iff e (dateOf day)).symm
    simp only [is]
    exact ⟨fun no => dayClass_of_noFit fun x hx => Bool.eq_false_iff.mpr (no x hx), dayClass_of_fit⟩
  case sun => exact ⟨rfl, rfl, rfl, tableSun_some s minute⟩
  case instants =>
    intro u fixed
    have fixes (old : Option (Nat × SunSource)) (table : Option Nat) :
        fixed old (fixInstant now table old) table := by
      refine ⟨?_, ?_, ?_⟩
      · rintro i rfl; exact fixInstant_held now table i
      · rintro rfl rfl; exact fixInstant_unset now
      · rintro m rfl rfl; exact fixInstant_table now m
    exact ⟨fixes _ _, fixes _ _, rfl⟩
  case transition =>
    intro ms minute
    have dark := transitionDay_dark ht hc
    have light := transitionDay_light ht hc
    refine ⟨fun absent noon today => dark.trans (if_pos ⟨absent, noon, today⟩), fun no => dark.trans (if_neg ?_),
      fun absent morning => light.trans (if_pos ⟨absent, morning⟩), fun no => light.trans (if_neg ?_)⟩
    · rintro ⟨absent, noon, today⟩
      rcases no with held | morning | tomorrow
      · exact held absent
      · exact Nat.not_lt.mpr noon morning
      · exact Nat.not_lt.mpr today tomorrow
    · rintro ⟨absent, morning⟩
      rcases no with held | noon
      · exact held absent
      · exact Nat.not_lt.mpr noon morning
  case entry =>
    intro sun follows
    refine ⟨fun m clock => trigger_clock clock, fun offset dusk m => ?_, fun offset dawn m => ?_, ?_⟩
    · rw [trigger_dusk dusk]; exact sunTrigger_eq_some s t.dusk sun.dusk offset m
    · rw [trigger_dawn dawn]; exact sunTrigger_eq_some s t.dawn sun.dawn offset m
    · rw [applies_iff]
      simp only [window_holds_iff]
      rfl

end Sys2Proof.Proofs
end

section
/-! SUPPORT. The evaluation of the day programme (R35-R42, R45): its candidates in index order, the range each event of civil
time evaluates, and what a fired entry hands over. -/

namespace Sys2Proof.Proofs

open Sys2Proof.Machine Sys2Proof.Claims

variable {s : State}

/-! ## The entries of a canonical table -/

section
variable {α : Type} {d : α} {table : Table α} {i : Nat} {v : α}

theorem sorted_of_wfAbove [DecidableEq α] {bound : Option Nat} (h : Table.wfAbove d bound table = true) :
    (∀ x ∈ table, ∀ n ∈ bound, n < x.1) ∧ table.Pairwise fun a b => a.1 < b.1 := by
  induction table generalizing bound with
  | nil => exact ⟨List.forall_mem_nil _, List.Pairwise.nil⟩
  | cons x l ih =>
    simp only [Table.wfAbove, Bool.and_eq_true, decide_eq_true_eq] at h
    obtain ⟨⟨above, -⟩, rest⟩ := h
    obtain ⟨later, sorted⟩ := ih rest
    refine ⟨fun y hy n hn => ?_, List.pairwise_cons.mpr ⟨fun y hy => later y hy x.1 rfl, sorted⟩⟩
    rcases List.mem_cons.mp hy with rfl | inRest
    · exact above n hn
    · exact (above n hn).trans (later y inRest x.1 rfl)

/-- A listed entry of a sorted table is the one read. -/
theorem get_of_mem (sorted : table.Pairwise fun a b => a.1 < b.1) (h : (i, v) ∈ table) : Table.get d table i = v := by
  induction table with
  | nil => cases h
  | cons x l ih =>
    obtain ⟨first, rest⟩ := List.pairwise_cons.mp sorted
    rcases List.mem_cons.mp h with rfl | later
    · exact if_pos rfl
    · exact (if_neg (Nat.ne_of_lt (first _ later))).trans (ih rest later)

/-- What is read, where it is not the default, is listed. -/
theorem mem_of_get_ne (h : Table.get d table i ≠ d) : (i, Table.get d table i) ∈ table := by
  induction table with
  | nil => exact absurd rfl h
  | cons x l ih =>
    obtain ⟨k, w⟩ := x
    unfold Table.get at h ⊢
    split
    · rename_i here
      exact here ▸ List.mem_cons_self
    · rename_i elsewhere
      rw [if_neg elsewhere] at h
      exact List.mem_cons_of_mem _ (ih h)

end

/-! ## The candidates (R35 step 2) -/

section
variable {t : Today} {now : Nat}

/-- The candidate an entry of the table gives, if it gives one. -/
def candidateOf (s : State) (t : Today) (now : Nat) (x : Nat × Entry) : Option (Nat × Nat) :=
  if x.2.applies t then
    (s.trigger t x.2).bind fun m => if t.last.all (· < m) && decide (m ≤ now) then some (x.1, m) else none
  else none

theorem candidates_eq (s : State) (t : Today) (now : Nat) :
    s.candidates t now = s.tables.schedule.filterMap (candidateOf s t now) := rfl

theorem candidateOf_eq_some {x : Nat × Entry} {e m : Nat} :
    candidateOf s t now x = some (e, m) ↔ x.1 = e ∧ x.2.applies t = true ∧ s.trigger t x.2 = some m ∧
      (∀ l, t.last = some l → l < m) ∧ m ≤ now := by
  unfold candidateOf
  split
  · simp only [Option.bind_eq_some_iff, Option.ite_none_right_eq_some, Bool.and_eq_true, decide_eq_true_eq,
      Option.all_eq_true, Option.some.injEq, Prod.mk.injEq]
    constructor
    · rintro ⟨m', fires, ⟨after, before⟩, rfl, rfl⟩
      exact ⟨rfl, ‹_›, fires, after, before⟩
    · rintro ⟨rfl, -, fires, after, before⟩
      exact ⟨m, fires, ⟨after, before⟩, rfl, rfl⟩
  · rename_i idle
    simp [idle]

theorem mem_candidates_iff (canonical : Table.wf entry0 s.tables.schedule = true) (e m : Nat) :
    (e, m) ∈ s.candidates t now ↔ (s.entryRec e).applies t = true ∧ s.trigger t (s.entryRec e) = some m ∧
      (∀ l, t.last = some l → l < m) ∧ m ≤ now := by
  obtain ⟨-, sorted⟩ := sorted_of_wfAbove canonical
  rw [candidates_eq, List.mem_filterMap]
  constructor
  · rintro ⟨⟨i, r⟩, listed, gives⟩
    obtain ⟨rfl, rest⟩ := candidateOf_eq_some.mp gives
    have read : s.entryRec i = r := get_of_mem sorted listed
    rw [read]
    exact rest
  · intro judged
    have used : s.entryRec e ≠ entry0 := fun unused => by
      have applies := judged.1
      rw [unused] at applies
      exact absurd applies (by simp [Entry.applies, entry0])
    exact ⟨(e, s.entryRec e), mem_of_get_ne used, candidateOf_eq_some.mpr ⟨rfl, judged⟩⟩

theorem candidates_sorted (canonical : Table.wf entry0 s.tables.schedule = true) :
    (s.candidates t now).Pairwise fun a b => a.1 < b.1 := by
  obtain ⟨-, sorted⟩ := sorted_of_wfAbove canonical
  rw [candidates_eq]
  refine sorted.filterMap _ fun a b before a' ha b' hb => ?_
  obtain ⟨ea, ma⟩ := a'
  obtain ⟨eb, mb⟩ := b'
  rw [← (candidateOf_eq_some.mp ha).1, ← (candidateOf_eq_some.mp hb).1]
  exact before

end

/-! ## The events of civil time (R35, R37-R40, R45) -/

section
variable {t : Today} {minute : Nat} {forward : Bool}

theorem comeTo_sameDay_forward (h : t.day = minute / 1440) : s.comeTo t minute true = s.evaluate t minute :=
  (if_pos h).trans (if_pos rfl)

theorem comeTo_sameDay_back (h : t.day = minute / 1440) :
    s.comeTo t minute false = s.setToday { t with last := some (minute % 1440) } :=
  (if_pos h).trans (if_neg (by decide))

theorem comeTo_laterDay (h : t.day < minute / 1440) :
    s.comeTo t minute forward = s.evaluate (s.rebuild (minute / 1440)) minute :=
  (if_neg (Nat.ne_of_lt h)).trans (if_pos h)

theorem comeTo_earlierDay (h : minute / 1440 < t.day) :
    s.comeTo t minute forward = s.setToday { s.rebuild (minute / 1440) with last := some (minute % 1440) } :=
  (if_neg (Nat.ne_of_gt h)).trans (if_neg (Nat.lt_asymm h))

theorem minuteDay_of_today (ht : s.day.today = some t) :
    minuteDay minute s = s.evaluate (if t.day = minute / 1440 then t else s.rebuild (minute / 1440)) minute := by
  unfold minuteDay
  rw [ht]

theorem minuteDay_of_noToday (ht : s.day.today = none) : minuteDay minute s = s := by
  unfold minuteDay
  rw [ht]

theorem stepDay_of_today (ht : s.day.today = some t) (old new : Nat) :
    stepDay old new s = s.comeTo t (new / 60000) (decide (old < new)) := by
  unfold stepDay
  rw [ht]

theorem stepDay_of_noToday (ht : s.day.today = none) (old new : Nat) : stepDay old new s = s := by
  unfold stepDay
  rw [ht]

theorem readyDay_of_today {civil : Nat} (hc : s.time.civil = some civil) (ht : s.day.today = some t) :
    readyDay s = s.comeTo t (civil / 60000) true := by
  unfold readyDay
  rw [hc, ht]

theorem readyDay_of_noCivil (hc : s.time.civil = none) : readyDay s = s.withDay { s.day with today := none } := by
  unfold readyDay
  rw [hc]

end

/-- Settles O33: the candidates are those of the sorted table, each event comes to its minute from the record's date, and each
action goes to its target. -/
theorem dayEvaluation : Obligations.DayEvaluation := by
  unfold Obligations.DayEvaluation
  refine ⟨fun s t now canonical => ?candidates, fun s t minute => rfl, fun s minute old new civil => ?events,
    fun e minute now s => ?fired⟩
  case candidates =>
    obtain ⟨⟨-, -, -, -, -, -, -, -, schedule, -⟩, -⟩ := canonical
    exact ⟨mem_candidates_iff schedule, candidates_sorted schedule⟩
  case events =>
    intro built moved toMinute toDay
    refine ⟨fun absent => ⟨minuteDay_of_noToday absent, stepDay_of_noToday absent old new⟩, fun t ht => ?_, rfl,
      readyDay_of_noCivil, fun t hc ht => ?_⟩
    · have boundary := minuteDay_of_today (minute := minute) ht
      have step := stepDay_of_today ht old new
      refine ⟨fun same => ?_, fun other => ?_, fun same ahead => ?_, fun same back => ?_,
        fun later => step.trans (comeTo_laterDay later), fun earlier => step.trans (comeTo_earlierDay earlier)⟩
      · rw [boundary, if_pos same]
      · rw [boundary, if_neg other]; rfl
      · rw [step, decide_eq_true ahead]; exact comeTo_sameDay_forward same
      · rw [step, decide_eq_false (Nat.not_lt.mpr back)]; exact comeTo_sameDay_back same
    · have ready := readyDay_of_today hc ht
      exact ⟨fun same => ready.trans (comeTo_sameDay_forward same), fun later => ready.trans (comeTo_laterDay later)⟩
  case fired =>
    intro action skipped offered handed
    have offers {kind : PerfKind} {args : PerfArgs}
        (h : fireEntry e minute now s = s.handPerf e minute now kind args) : offered kind args := by
      refine ⟨fun quiet => h.trans (handPerf_of_quiet quiet), fun loud => h.trans ?_⟩
      generalize answer : s.offer _ = r
      obtain ⟨t, id | _ | _⟩ := r
      · exact handPerf_of_accepted loud answer
      · exact handPerf_of_noEntry loud answer
      · exact handPerf_of_queueFull loud answer
    exact ⟨fun tune repeats h => offers (fireEntry_tune h), fun bell count interval h => offers (fireEntry_toll h),
      fun plan h => fireEntry_peal h, fun scene h => fireEntry_scene h, fireEntry_quietBegin, fireEntry_quietEnd⟩

end Sys2Proof.Proofs
end

section
/-! SUPPORT. PUT (R186): what is judged before the values, the refusals of each table's owner in their order, and that a
refusal has no effect while an accepted PUT replaces one entry of one table. -/

namespace Sys2Proof.Proofs

open Sys2Proof.Machine Sys2Proof.Claims

variable {s : State}

/-! ## The frame of a request that writes the store (R173, R182) -/

/-- With no save in its way, a request that writes the store is answered as any other. -/
theorem frameCommand_answered_of_notSaving {kind : Byte} {body fields : List Byte} {t : State} {status : Status}
    (hs : slotFree s) (hn : s.store.saving = none) (hk : assignedKind kind = true)
    (hl : (requiredLength kind.toNat).any (· ≠ body.length) = false) (ha : kind.toNat ≠ 0x09 ∧ kind.toNat ≠ 0x0A)
    (hb : 1 ≤ kind.toNat ∧ kind.toNat ≤ 0x3F) (hr : runRequest kind.toNat body (taken s) = (t, status, fields)) :
    frameCommand kind body s = .next (answered kind.toNat status fields t).finish := by
  obtain ⟨ready, slot⟩ := hs
  have free : (writesStore kind.toNat && s.inSlot.store.saving.isSome) = false := by
    rw [show s.inSlot.store.saving = none from hn]
    exact Bool.and_false _
  have judged : judgeRequest kind body s.inSlot = (t, status, fields) := (judgeRequest_run hk free hl).trans hr
  have follows : followUp kind body status s.link.rate = .nothing := by
    unfold followUp
    rw [if_neg ha.1, if_neg ha.2, ite_self]
  have reply : replyFrame kind status fields =
      { kind := byte (kind.toNat + 0x80), body := byte status.ctorIdx :: fields } := if_pos (by simpa using hb)
  rw [frameCommand_inSlot ready slot, judged, follows, reply]
  rfl

theorem exec_put {body : List Byte} {t : State} {status : Status} (hs : slotFree s) (hn : s.store.saving = none)
    (h : putRequest body (taken s) = (t, status, [])) :
    exec (.put body) s = .next (answered 0x05 status [] t).finish :=
  frameCommand_answered_of_notSaving (kind := 0x05) hs hn rfl rfl (by decide) (by decide) h

/-! ## What is judged before the values (R184, R186) -/

theorem le_of_inTable {table i : Nat} (h : inTable table i = true) : table ≤ 11 := by
  by_contra beyond
  have noRange : tableRange table = none := List.getElem?_eq_none (Nat.not_le.mp beyond)
  unfold inTable at h
  rw [noRange] at h
  cases h

theorem fieldAt_index (table hi lo : Byte) (values : List Byte) :
    fieldAt (table :: hi :: lo :: values) 0 1 = table.toNat ∧
      fieldAt (table :: hi :: lo :: values) 1 2 = hi.toNat * 256 + lo.toNat := ⟨beNat_one table, beNat_two hi lo⟩

/-- Where three bytes of an address came, the table number and the index are judged as one. -/
theorem putRequest_eq (table hi lo : Byte) (values : List Byte) (s : State) :
    putRequest (table :: hi :: lo :: values) s =
      if inTable table.toNat (hi.toNat * 256 + lo.toNat) = false then (s, .range, [])
      else if values.length ≠ roomBytes (recordRooms table.toNat (hi.toNat * 256 + lo.toNat)) then (s, .badLength, [])
      else ((unpack (recordRooms table.toNat (hi.toNat * 256 + lo.toNat)) values).map fun v =>
        plain (putValues table.toNat (hi.toNat * 256 + lo.toNat) v s)).getD (s, .range, []) := by
  obtain ⟨number, index⟩ := fieldAt_index table hi lo values
  unfold putRequest
  dsimp only
  rw [number, index]
  have whole : ¬(table :: hi :: lo :: values).length < 3 := by simp
  by_cases named : inTable table.toNat (hi.toNat * 256 + lo.toNat) = true
  · rw [if_neg (Nat.not_lt.mpr (le_of_inTable named)), if_neg whole, named]
    simp only [List.length_cons, List.drop_succ_cons, List.drop_zero]
    cases unpack (recordRooms table.toNat (hi.toNat * 256 + lo.toNat)) values <;> rfl
  · rw [Bool.not_eq_true] at named
    rw [named, if_neg whole]
    exact ite_self _

section
variable {table hi lo : Byte} {values : List Byte} {v : List Nat}

theorem putRequest_of_outside (h : inTable table.toNat (hi.toNat * 256 + lo.toNat) = false) :
    putRequest (table :: hi :: lo :: values) s = (s, .range, []) :=
  (putRequest_eq ..).trans (if_pos h)

theorem putRequest_of_length (h : inTable table.toNat (hi.toNat * 256 + lo.toNat) = true)
    (hl : values.length ≠ roomBytes (recordRooms table.toNat (hi.toNat * 256 + lo.toNat))) :
    putRequest (table :: hi :: lo :: values) s = (s, .badLength, []) :=
  (putRequest_eq ..).trans ((if_neg (by rw [h]; decide)).trans (if_pos hl))

theorem putRequest_of_spareBit (h : inTable table.toNat (hi.toNat * 256 + lo.toNat) = true)
    (hl : values.length = roomBytes (recordRooms table.toNat (hi.toNat * 256 + lo.toNat)))
    (hv : unpack (recordRooms table.toNat (hi.toNat * 256 + lo.toNat)) values = none) :
    putRequest (table :: hi :: lo :: values) s = (s, .range, []) := by
  rw [putRequest_eq, if_neg (by rw [h]; decide), if_neg (not_not_intro hl), hv]
  rfl

theorem putRequest_of_values {n i : Nat} (ht : table.toNat = n) (hx : hi.toNat * 256 + lo.toNat = i)
    (h : inTable n i = true) (hl : values.length = roomBytes (recordRooms n i))
    (hv : unpack (recordRooms n i) values = some v) :
    putRequest (table :: hi :: lo :: values) s = plain (putValues n i v s) := by
  subst ht hx
  rw [putRequest_eq, if_neg (by rw [h]; decide), if_neg (not_not_intro hl), hv]
  rfl

end

/-! ## Refusals in their order -/

section
variable {α : Type} {c d A B : Prop} [Decidable c] [Decidable d] {r x y z : α}

theorem cases_of_refusal (hr : r = if c then x else y) (hc : c ↔ A) : (A → r = x) ∧ (¬A → r = y) :=
  ⟨fun a => hr.trans (if_pos (hc.mpr a)), fun na => hr.trans (if_neg (mt hc.mp na))⟩

theorem cases_of_refusals (hr : r = if c then x else if d then y else z) (hc : c ↔ A) (hd : d ↔ B) :
    (A → r = x) ∧ (¬A → B → r = y) ∧ (¬A → ¬B → r = z) :=
  have ⟨first, rest⟩ := cases_of_refusal hr hc
  ⟨first, fun na => (cases_of_refusal (rest na) hd).1, fun na => (cases_of_refusal (rest na) hd).2⟩

end

/-- The key gates what differs (R47, R93, R116, R129, R158). -/
theorem locked_iff {differs : Bool} {P : Prop} (h : differs = true ↔ P) :
    (!s.keyOn && differs) = true ↔ s.keyOn = false ∧ P := by
  rw [Bool.and_eq_true, Bool.not_eq_true', h]

theorem not_locked {P : Prop} (h : s.keyOn = true ∨ P) : ¬(s.keyOn = false ∧ ¬P) := by
  rintro ⟨off, no⟩
  rcases h with on | yes
  · rw [on] at off; cases off
  · exact no yes

/-! ## What a PUT comes to -/

/-- A refusal has no effect. -/
def RefusalKeeps (r : State × Status) (s : State) : Prop := r.2 ≠ .ok → r.1 = s

/-- A PUT refused without effect, or accepted with the tables given. -/
def Writes (r : State × Status) (s : State) (tables : Tables) : Prop :=
  r.2 ≠ .ok ∧ r.1 = s ∨ r.2 = .ok ∧ r.1.tables = tables

section
variable {r q : State × Status} {tables : Tables} {t : State} {status : Status} {c : Prop} [Decidable c]

theorem Writes.keeps (h : Writes r s tables) : RefusalKeeps r s := fun refused =>
  h.elim And.right fun accepted => absurd accepted.1 refused

theorem Writes.replaces (h : Writes r s tables) (accepted : r.2 = .ok) : r.1.tables = tables :=
  h.elim (fun refused => absurd accepted refused.1) And.right

theorem writes_accepted (h : t.tables = tables) : Writes (t, .ok) s tables := .inr ⟨rfl, h⟩

theorem writes_unless (hs : status ≠ .ok) (h : Writes r s tables) : Writes (if c then (s, status) else r) s tables := by
  split
  · exact .inl ⟨hs, rfl⟩
  · exact h

theorem keeps_accepted (t s : State) : RefusalKeeps (t, .ok) s := fun refused => absurd rfl refused

theorem keeps_ite (hr : RefusalKeeps r s) (hq : RefusalKeeps q s) : RefusalKeeps (if c then r else q) s := by
  split
  · exact hr
  · exact hq

theorem keeps_ranged {α : Type} {write : α → State → State × Status} (h : ∀ new, RefusalKeeps (write new s) s)
    (reading : Option α) : RefusalKeeps (ranged reading write s) s := by
  cases reading with
  | none => exact fun _ => rfl
  | some new => exact h new

theorem putJudged_ranged {α : Type} {reading : Option α} {write : α → State → State × Status} :
    putJudged reading write (ranged reading write s) s :=
  ⟨by rintro rfl; rfl, by rintro new rfl; rfl⟩

end

/-! ## Bells (R47, R48) -/

section
variable {b : Nat} {new : BellRec}

theorem bell_gated_iff (new old : BellRec) :
    (!new.sameCommissioning old) = true ↔ { new with enabled := old.enabled, coilCheck := old.coilCheck } ≠ old := by
  simp [BellRec.sameCommissioning]

theorem unitOfBell_eq_some_iff {u : Nat} :
    s.unitOfBell b = some u ↔ (s.bellRec b).inUse = true ∧ (s.bellRec b).swing = some u := by
  unfold State.unitOfBell
  split <;> simp [*]

theorem bindsMoving_iff :
    s.bindsMoving b new = true ↔ new.inUse = true ∧ ∃ u, new.swing = some u ∧ (s.unit u).state ≠ .rest ∧
      ¬((s.bellRec b).inUse = true ∧ (s.bellRec b).swing = some u) := by
  simp only [State.bindsMoving, Bool.and_eq_true, Option.any_eq_true, decide_eq_true_eq, ne_eq, unitOfBell_eq_some_iff]

theorem bindsTwice_iff :
    s.bindsTwice b new = true ↔ new.inUse = true ∧ ∃ u, new.swing = some u ∧ ∃ o < 16, o ≠ b ∧
      (s.bellRec o).inUse = true ∧ (s.bellRec o).swing = some u := by
  simp only [State.bindsTwice, bellNumbers, Bool.and_eq_true, Option.any_eq_true, List.any_eq_true, List.mem_range,
    decide_eq_true_eq, unitOfBell_eq_some_iff]

end

theorem writes_putBell (b : Nat) (new : BellRec) (s : State) :
    Writes (putBell b new s) s { s.tables with bell := Table.put bellRec0 s.tables.bell b new } :=
  writes_unless (by decide) (writes_unless (by decide) (writes_unless (by decide) (writes_accepted rfl)))

/-! ## Swing units, plans, tunes, notes, scenes and sun minutes (R31, R76, R93, R109, R132) -/

theorem writes_putSwing (u : Nat) (new : SwingRec) (s : State) :
    Writes (putSwing u new s) s { s.tables with swing := Table.put swingRec0 s.tables.swing u new } :=
  writes_unless (by decide) (writes_unless (by decide) (writes_accepted rfl))

theorem writes_putPlan (p : Nat) (new : Plan) (s : State) :
    Writes (putPlan p new s) s { s.tables with plan := Table.put plan0 s.tables.plan p new } :=
  writes_unless (by decide) (writes_accepted rfl)

theorem playsTune_iff (s : State) (i : Nat) :
    (s.chime.playing.any fun pl => pl.tune = some i) = true ↔ ∃ pl, s.chime.playing = some pl ∧ pl.tune = some i := by
  simp only [Option.any_eq_true, decide_eq_true_eq]

theorem writes_putTune (i : Nat) (new : Tune) (s : State) :
    Writes (putTune i new s) s { s.tables with tune := Table.put tune0 s.tables.tune i new } :=
  writes_unless (by decide) (writes_accepted rfl)

theorem playsNote_iff (s : State) (i : Nat) :
    (s.chime.playing.any fun pl => pl.run.any fun r => r.holds i) = true ↔
      ∃ pl r, s.chime.playing = some pl ∧ pl.run = some r ∧ r.first ≤ i ∧ i < r.first + r.count := by
  simp only [Option.any_eq_true, Run.holds, Bool.and_eq_true, decide_eq_true_eq, exists_and_left]

theorem writes_putNote (i : Nat) (new : Note) (s : State) :
    Writes (putNote i new s) s { s.tables with note := Table.put note0 s.tables.note i new } :=
  writes_unless (by decide) (writes_accepted rfl)

/-! ## Dials (R116, R122) -/

section
variable {d : Nat} {old new : DialRec}

theorem dialHeld_iff :
    s.dialHeld d = true ↔ (s.dialRec d).inUse = true ∧ (s.dial d).state ≠ .unknown ∧ (s.dial d).state ≠ .stopped ∨
      (s.dial d).drive ≠ .idle := by
  simp only [State.dialHeld, Bool.or_eq_true, Bool.and_eq_true, decide_eq_true_eq, and_assoc]

theorem newDialRecord_of_interval (h : old.interval ≠ new.interval) :
    s.newDialRecord d old new = s.forgetDial d .table := if_pos h

theorem newDialRecord_of_comes (h : old.interval = new.interval) (hc : old.inUse = false ∧ new.inUse = true) :
    s.newDialRecord d old new = repeatOrClassify .table d s :=
  (if_neg (not_not_intro h)).trans (if_pos (by rw [hc.1, hc.2]; rfl))

theorem newDialRecord_of_stands (h : old.interval = new.interval) (hc : ¬(old.inUse = false ∧ new.inUse = true)) :
    s.newDialRecord d old new = s :=
  (if_neg (not_not_intro h)).trans (if_neg (by simpa using hc))

/-- A dial that comes into use with its in-flight mark set asks for its repeat (R122). -/
theorem newDialRecord_of_inFlight (h : old.interval = new.interval) (hc : old.inUse = false ∧ new.inUse = true)
    (hr : s.dialRec d = new) (hm : s.mainsNormal = true) (hf : (s.dial d).inFlight = true)
    (hd : (s.dial d).drive = .idle) :
    s.newDialRecord d old new =
      (s.setDial d { s.dial d with drive := .waiting true }).request (.dial d) new.units := by
  have repeats : repeatOrClassify .table d s = s.requestDial d true := if_pos (by simp [*])
  rw [newDialRecord_of_comes h hc, repeats]
  unfold State.requestDial
  rw [hr]

theorem newDialRecord_of_still (h : old.interval = new.interval) (hc : old.inUse = false ∧ new.inUse = true)
    (hs : s.mainsNormal = false ∨ (s.dial d).inFlight = false) : s.newDialRecord d old new = s.classify d .table :=
  (newDialRecord_of_comes h hc).trans (if_neg (by rcases hs with hs | hs <;> simp [hs]))

end

theorem tables_newDialRecord (s : State) (d : Nat) (old new : DialRec) : (s.newDialRecord d old new).tables = s.tables := by
  unfold State.newDialRecord
  split
  · exact (moves_forgetDial (.refl s) d _).tables
  · split
    · exact (moves_repeatOrClassify (.refl s) _ d).tables
    · rfl

theorem writes_putDial (d : Nat) (new : DialRec) (s : State) :
    Writes (putDial d new s) s { s.tables with dial := Table.put dialRec0 s.tables.dial d new } :=
  writes_unless (by decide) (writes_unless (by decide) (writes_accepted (tables_newDialRecord _ _ _ _)))

/-! ## Circuits (R129) -/

theorem circuit_gated_iff (new old : CircuitRec) :
    (!new.sameCommissioning old) = true ↔ { new with
      fade := old.fade, shed := old.shed, sheddable := old.sheddable, accessLight := old.accessLight } ≠ old := by
  simp [CircuitRec.sameCommissioning]

theorem writes_putCircuit (c : Nat) (new : CircuitRec) (s : State) :
    Writes (putCircuit c new s) s { s.tables with circuit := Table.put circuitRec0 s.tables.circuit c new } :=
  writes_unless (by decide) (writes_unless (by decide) (writes_accepted rfl))

/-! ## Special days (R29) -/

section
variable {e : Nat} {new : Special}

theorem sameDate_iff :
    s.sameDate e new = true ↔ new.used = true ∧ ∃ o < 48, o ≠ e ∧ (s.specialRec o).used = true ∧
      (s.specialRec o).month = new.month ∧ (s.specialRec o).day = new.day ∧ (s.specialRec o).year = new.year := by
  simp only [State.sameDate, Bool.and_eq_true, List.any_eq_true, List.mem_range, decide_eq_true_eq, and_assoc]

theorem reclass_of_noToday (h : s.day.today = none) : s.reclass = s := by
  unfold State.reclass
  rw [h]

theorem reclass_of_today {today : Today} (h : s.day.today = some today) :
    s.reclass = s.setToday { today with cls := (s.dayClass today.day).1, special := (s.dayClass today.day).2 } := by
  unfold State.reclass
  rw [h]

end

theorem writes_putSpecial (e : Nat) (new : Special) (s : State) :
    Writes (putSpecial e new s) s { s.tables with special := Table.put special0 s.tables.special e new } := by
  refine writes_unless (by decide) (writes_accepted ?_)
  unfold State.reclass
  split <;> rfl

/-! ## The SUPPLY group (R158) -/

theorem unpack_supply (bh bl dh dl : Byte) :
    unpack supplyRooms [bh, bl, dh, dl] = some [bh.toNat * 256 + bl.toNat, dh.toNat * 256 + dl.toNat] := by
  rw [unpack_of_noMarks rfl, ← beNat_two bh bl, ← beNat_two dh dl]
  rfl

theorem putValues_supply (v : List Nat) (s : State) : putValues 11 3 v s = ranged (readSupply v) putSupply s := rfl

theorem readSupply_eq (budget delay : Nat) :
    readSupply [budget, delay] =
      if 20 ≤ budget ∧ budget ≤ 1000 ∧ 20 ≤ delay ∧ delay ≤ 2000 then some { budget := budget, delay := delay } else none := by
  simp [readSupply, keepIf, within, and_assoc]

theorem putRequest_supply (bh bl dh dl : Byte) (s : State) :
    putRequest [11, 0, 3, bh, bl, dh, dl] s =
      plain (ranged (readSupply [bh.toNat * 256 + bl.toNat, dh.toNat * 256 + dl.toNat]) putSupply s) :=
  (putRequest_of_values (n := 11) (i := 3) rfl rfl rfl rfl (unpack_supply bh bl dh dl)).trans
    (congrArg plain (putValues_supply _ s))

theorem writes_putSupply (new : SupplySettings) (s : State) :
    Writes (putSupply new s) s { s.tables with supply := new } :=
  writes_unless (by decide) (writes_unless (by decide) (writes_accepted (arbitrates_serve (.refl _)).tables))

/-! ## A refused PUT or ERASE changes nothing (R186) -/

theorem keeps_putGroup (group : Nat) (v : List Nat) (s : State) : RefusalKeeps (putGroup group v s) s :=
  match group with
  | 0 => keeps_ranged (fun _ => keeps_accepted _ _) _
  | 1 => keeps_ranged (fun _ => keeps_accepted _ _) _
  | 2 => keeps_ranged (fun _ => keeps_accepted _ _) _
  | 3 => keeps_ranged (fun new => (writes_putSupply new s).keeps) _
  | 4 => keeps_ranged (fun _ => keeps_accepted _ _) _
  | _ + 5 => keeps_ranged (fun _ => keeps_accepted _ _) _

theorem keeps_putValues (table i : Nat) (v : List Nat) (s : State) : RefusalKeeps (putValues table i v s) s :=
  match table with
  | 0 => keeps_ranged (fun new => (writes_putBell i new s).keeps) _
  | 1 => keeps_ranged (fun new => (writes_putSwing i new s).keeps) _
  | 2 => keeps_ranged (fun new => (writes_putPlan i new s).keeps) _
  | 3 => keeps_ranged (fun new => (writes_putTune i new s).keeps) _
  | 4 => keeps_ranged (fun new => (writes_putNote i new s).keeps) _
  | 5 => keeps_ranged (fun new => (writes_putDial i new s).keeps) _
  | 6 => keeps_ranged (fun new => (writes_putCircuit i new s).keeps) _
  | 7 => keeps_ranged (fun _ => keeps_accepted _ _) _
  | 8 => keeps_ranged (fun _ => keeps_accepted _ _) _
  | 9 => keeps_ranged (fun new => (writes_putSpecial i new s).keeps) _
  | 10 => keeps_ranged (fun _ => keeps_accepted _ _) _
  | _ + 11 => keeps_putGroup i v s

theorem keeps_eraseGroup (group : Nat) (s : State) : RefusalKeeps (eraseGroup group s) s :=
  match group with
  | 0 => keeps_accepted _ _
  | 1 => keeps_accepted _ _
  | 2 => keeps_accepted _ _
  | 3 => (writes_putSupply _ s).keeps
  | 4 => keeps_accepted _ _
  | _ + 5 => keeps_accepted _ _

theorem keeps_eraseEntry (table i : Nat) (s : State) : RefusalKeeps (eraseEntry table i s) s :=
  match table with
  | 0 => keeps_ite (writes_putBell i _ s).keeps (keeps_accepted _ _)
  | 1 => (writes_putSwing i _ s).keeps
  | 2 => (writes_putPlan i _ s).keeps
  | 3 => (writes_putTune i _ s).keeps
  | 4 => (writes_putNote i _ s).keeps
  | 5 => keeps_ite (writes_putDial i _ s).keeps (keeps_accepted _ _)
  | 6 => keeps_ite (writes_putCircuit i _ s).keeps (keeps_accepted _ _)
  | 7 => keeps_accepted _ _
  | 8 => keeps_accepted _ _
  | 9 => (writes_putSpecial i _ s).keeps
  | 10 => keeps_accepted _ _
  | _ + 11 => keeps_eraseGroup i s

/-- Settles O18: each owner's refusals are the branches of its PUT in their order, and what an accepted PUT leaves is said once
for refusals and tables together (`Writes`). -/
theorem writesOfTables : Obligations.WritesOfTables := by
  unfold Obligations.WritesOfTables
  refine ⟨fun bh bl dh dl s hs hn => ?supply, fun table hi lo values s hs hn => ?request, fun i v s => ?judged,
    fun b new s => ?bell, fun u new s => ?swing, fun i s plan tune note scene sun => ?plain, fun d new s => ?dial,
    fun c new s => ?circuit, fun e entry special s => ?days,
    fun table i v s => ⟨keeps_putValues table i v s, keeps_eraseEntry table i s⟩, fun i s => ?tables⟩
  case supply =>
    intro new answer good
    have request := putRequest_supply bh bl dh dl (taken s)
    have read := readSupply_eq new.budget new.delay
    have answers {t : State} {status : Status} (inRange : good) (h : putSupply new (taken s) = (t, status)) :
        answer = .next (answered 0x05 status [] t).finish :=
      exec_put hs hn (by rw [request, read, if_pos inRange]; exact congrArg plain h)
    obtain ⟨isLocked, isUsed, accepted⟩ := cases_of_refusals (r := putSupply new (taken s)) rfl
      (locked_iff decide_eq_true_iff) Iff.rfl
    exact ⟨fun bad => exec_put hs hn (by rw [request, read, if_neg bad]; rfl),
      fun inRange off differs => answers inRange (isLocked ⟨off, differs⟩),
      fun inRange free below => answers inRange (isUsed (not_locked free) below),
      fun inRange free enough => answers inRange (accepted (not_locked free) (Nat.not_lt.mpr enough))⟩
  case request =>
    intro i rooms answer
    exact ⟨fun outside => exec_put hs hn (putRequest_of_outside outside), fun named =>
      ⟨fun wrong => exec_put hs hn (putRequest_of_length named wrong), fun right =>
        ⟨fun spare => exec_put hs hn (putRequest_of_spareBit named right spare), fun v read =>
          exec_put hs hn (putRequest_of_values rfl rfl named right read)⟩⟩⟩
  case judged =>
    exact ⟨putJudged_ranged, putJudged_ranged, putJudged_ranged, putJudged_ranged, putJudged_ranged, putJudged_ranged,
      putJudged_ranged, putJudged_ranged, putJudged_ranged, putJudged_ranged, putJudged_ranged, putJudged_ranged,
      putJudged_ranged, putJudged_ranged, putJudged_ranged, putJudged_ranged, putJudged_ranged⟩
  case bell =>
    intro old locked moving twice claimed
    obtain ⟨isLocked, isUsed, rest⟩ := cases_of_refusals (r := putBell b new s) rfl
      (locked_iff (bell_gated_iff new old)) (or_congr_right bindsMoving_iff)
    exact ⟨isLocked, isUsed, fun free fit => (cases_of_refusal (rest free fit) bindsTwice_iff).1,
      fun free fit => (cases_of_refusal (rest free fit) bindsTwice_iff).2⟩
  case swing =>
    obtain ⟨isLocked, isUsed, accepted⟩ :=
      cases_of_refusals (r := putSwing u new s) rfl (locked_iff decide_eq_true_iff) Iff.rfl
    exact ⟨isLocked, isUsed, fun free rests => congrArg Prod.snd (accepted free rests)⟩
  case plain =>
    obtain ⟨runs, planTaken⟩ := cases_of_refusal (r := putPlan i plan s) rfl Iff.rfl
    obtain ⟨plays, tuneTaken⟩ := cases_of_refusal (r := putTune i tune s) rfl (playsTune_iff s i)
    obtain ⟨sounds, noteTaken⟩ := cases_of_refusal (r := putNote i note s) rfl (playsNote_iff s i)
    exact ⟨runs, fun no => congrArg Prod.snd (planTaken no), plays, fun no => congrArg Prod.snd (tuneTaken no), sounds,
      fun no => congrArg Prod.snd (noteTaken no), rfl, rfl⟩
  case dial =>
    intro old w locked busy t comes
    obtain ⟨isLocked, isBusy, accepted⟩ :=
      cases_of_refusals (r := putDial d new s) rfl (locked_iff decide_eq_true_iff) dialHeld_iff
    refine ⟨isLocked, isBusy, fun free rests => ?_⟩
    have put := accepted free rests
    have read : t.dialRec d = new := Table.get_put_self dialRec0 s.tables.dial d new
    have idle : w.drive = .idle := not_not.mp fun drives => rests (.inr drives)
    have accepts {u : State} (h : t.newDialRecord d old new = u) : putDial d new s = (u, .ok) := put.trans (congrArg (·, _) h)
    exact ⟨fun changes => accepts (newDialRecord_of_interval changes),
      fun same begins mains flying => accepts (newDialRecord_of_inFlight same begins read mains flying idle),
      fun same begins still => accepts (newDialRecord_of_still same begins still),
      fun same stands => accepts (newDialRecord_of_stands same stands)⟩
  case circuit =>
    intro old locked
    obtain ⟨isLocked, isUsed, accepted⟩ :=
      cases_of_refusals (r := putCircuit c new s) rfl (locked_iff (circuit_gated_iff new old)) Iff.rfl
    exact ⟨isLocked, isUsed, fun free off => accepted free (not_not_intro off)⟩
  case days =>
    intro held t
    obtain ⟨isHeld, accepted⟩ := cases_of_refusal (r := putSpecial e special s) rfl sameDate_iff
    have accepts {u : State} (free : ¬held) (h : t.reclass = u) : putSpecial e special s = (u, .ok) :=
      (accepted free).trans (congrArg (·, _) h)
    exact ⟨rfl, isHeld, fun free absent => accepts free (reclass_of_noToday absent),
      fun today free ht => accepts free (reclass_of_today ht)⟩
  case tables =>
    exact ⟨fun new => (writes_putBell i new s).replaces, fun new => (writes_putSwing i new s).replaces,
      fun new => (writes_putPlan i new s).replaces, fun new => (writes_putTune i new s).replaces,
      fun new => (writes_putNote i new s).replaces, fun new => (writes_putDial i new s).replaces,
      fun new => (writes_putCircuit i new s).replaces, fun _ => rfl, fun _ => rfl⟩

end Sys2Proof.Proofs
end

section
/-! SUPPORT. What an operation of the model that writes no bell leaves of the bells' table: all of it. -/
namespace Sys2Proof.Proofs

open Sys2Proof.Machine Sys2Proof.Claims

@[simp] theorem ite_bells (c : Prop) [Decidable c] (s t : State) :
    (if c then s else t).bells = if c then s.bells else t.bells :=
  apply_ite State.bells c s t

theorem foldl_bells {α : Type} (l : List α) (f : State → α → State) (h : ∀ t a, (f t a).bells = t.bells) (s : State) :
    (l.foldl f s).bells = s.bells := by
  induction l generalizing s with
  | nil => rfl
  | cons a l ih => exact (ih _).trans (h s a)

theorem each_bells {f : Nat → State → State} (h : ∀ i t, (f i t).bells = t.bells) (s : State) (l : List Nat) :
    (s.each l f).bells = s.bells :=
  foldl_bells l _ (fun t i => h i t) s

/-! ### Notices and the converter -/

@[simp] theorem takeNotice_bells (s : State) (n : NoticeBody) : (s.takeNotice n).bells = s.bells := by
  simp [State.takeNotice]

@[simp] theorem beginConversion_bells (s : State) : s.beginConversion.bells = s.bells := by
  unfold State.beginConversion
  split <;> simp

@[simp] theorem queueConversion_bells (s : State) (c : Conversion) : (s.queueConversion c).bells = s.bells := by
  simp [State.queueConversion]

@[simp] theorem discardStale_bells (s : State) (b : Nat) : (s.discardStale b).bells = s.bells := rfl
@[simp] theorem converterLoss_bells (s : State) : (converterLoss s).bells = s.bells := rfl

/-! ### The chime player -/

@[simp] theorem dropOffer_bells (s : State) (p : Perf) (reason : DropReason) :
    (s.dropOffer p reason).bells = s.bells := rfl

@[simp] theorem leaveQueue_bells (s : State) (id : Nat) : (s.leaveQueue id).bells = s.bells := rfl
@[simp] theorem drop_bells (s : State) (p : Perf) (reason : DropReason) : (s.drop p reason).bells = s.bells := rfl
@[simp] theorem onPlaying_bells (s : State) (f : Perf → Perf) : (s.onPlaying f).bells = s.bells := rfl
@[simp] theorem setPlaying_bells (s : State) (f : Playing → Playing) : (s.setPlaying f).bells = s.bells := rfl

@[simp] theorem sound_bells (s : State) : s.sound.bells = s.bells := by
  unfold State.sound
  split <;> simp

@[simp] theorem setOutstanding_bells (s : State) (l : List Nat) (dealing : Bool) :
    (s.setOutstanding l dealing).bells = s.bells := by
  unfold State.setOutstanding
  split <;> simp

@[simp] theorem blowTaken_bells (s : State) (b : Nat) : (s.blowTaken b).bells = s.bells := by
  unfold State.blowTaken
  split <;> simp

@[simp] theorem blowEnds_bells (s : State) (b : Nat) : (s.blowEnds b).bells = s.bells := by
  unfold State.blowEnds
  split <;> simp

@[simp] theorem blowFaulted_bells (s : State) (b : Nat) : (s.blowFaulted b).bells = s.bells := by
  unfold State.blowFaulted
  split <;> simp

@[simp] theorem blowClipped_bells (s : State) (b : Nat) : (s.blowClipped b).bells = s.bells := by
  simp [State.blowClipped]

@[simp] theorem noteDealt_bells (s : State) : (noteDealt s).bells = s.bells := by
  unfold noteDealt
  split <;> simp

@[simp] theorem requestNote_bells (s : State) : s.requestNote.bells = s.bells := by
  unfold State.requestNote
  split
  · simp only [State.post_bells]
    rw [foldl_bells _ _ (by simp)]
    simp
  · rfl

@[simp] theorem offer_bells (s : State) (p : Perf) : (s.offer p).1.bells = s.bells := by
  unfold State.offer
  split <;> simp

/-! ### The supply arbiter -/

@[simp] theorem serve_bells (s : State) : s.serve.bells = s.bells := (arbitrates_serve (.refl s)).bells

@[simp] theorem withdrawAll_bells (s : State) (l : List Claimant) : (s.withdrawAll l).bells = s.bells :=
  (arbitrates_withdrawAll (.refl s) l).bells

@[simp] theorem releaseAll_bells (s : State) (c : Claimant) : (s.releaseAll c).bells = s.bells := by
  simp [State.releaseAll]

@[simp] theorem supplyLoss_bells (s : State) : (supplyLoss s).bells = s.bells := by simp [supplyLoss]

@[simp] theorem shedTimerExpiry_bells (s : State) (c : Claimant) : (shedTimerExpiry c s).bells = s.bells := by
  unfold shedTimerExpiry
  repeat' split
  all_goals simp

/-! ### Answers of the bell table -/

@[simp] theorem preempt_bells (s : State) (u : Nat) : (s.preempt u).bells = s.bells := by
  unfold State.preempt
  repeat' split
  all_goals simp

@[simp] theorem answerRefused_bells (s : State) (b : Nat) (r : Refused) :
    (s.answerRefused b r).bells = s.bells := by
  unfold State.answerRefused
  split <;> simp

/-! ### Starts, notes and ends -/

theorem offer_bells_of_eq {s t : State} {p : Perf} {a : OfferAnswer} (h : s.offer p = (t, a)) : t.bells = s.bells := by
  rw [← offer_bells s p, h]

@[simp] theorem headDue_bells (s : State) : (headDue s).bells = s.bells := by
  unfold headDue
  split <;> simp

@[simp] theorem startDeadline_bells (s : State) (id : Nat) : (startDeadline id s).bells = s.bells := by
  unfold startDeadline
  split <;> simp

@[simp] theorem endPlaying_bells (s : State) (reason : EndReason) : (s.endPlaying reason).bells = s.bells := by
  unfold State.endPlaying
  split <;> simp

@[simp] theorem noteDue_bells (s : State) : (noteDue s).bells = s.bells := by
  unfold noteDue
  dsimp only
  repeat' split
  all_goals simp

@[simp] theorem noteWaitExpiry_bells (s : State) : (noteWaitExpiry s).bells = s.bells := by
  unfold noteWaitExpiry
  split <;> simp

@[simp] theorem tailEnd_bells (s : State) : (tailEnd s).bells = s.bells := by
  unfold tailEnd
  split <;> simp

@[simp] theorem releaseCheck_bells (s : State) : (releaseCheck s).bells = s.bells := by
  unfold releaseCheck
  split <;> simp

@[simp] theorem abortPlaying_bells (s : State) (reason : EndReason) (id : Option Nat) :
    (abortPlaying reason id s).bells = s.bells := by
  unfold abortPlaying
  split <;> simp

@[simp] theorem cancelPerf_bells (s : State) (id : Nat) : (cancelPerf id s).1.bells = s.bells := by
  unfold cancelPerf
  repeat' split
  all_goals simp

@[simp] theorem playRequest_bells (s : State) (kind : PerfKind) (args : PerfArgs) (due : Option Nat) :
    (playRequest kind args due s).1.bells = s.bells := by
  unfold playRequest
  split
  · rfl
  · dsimp only
    split <;> exact offer_bells_of_eq ‹_›

@[simp] theorem generate_bells (s : State) (quarter civil : Nat) (k : PerfKind × PerfArgs) :
    (s.generate quarter civil k).bells = s.bells := by
  unfold State.generate
  dsimp only
  repeat' split
  · rfl
  all_goals simpa using offer_bells_of_eq ‹_›

@[simp] theorem takeQuarter_bells (s : State) (quarter civil : Nat) :
    (takeQuarter quarter civil s).bells = s.bells := by
  unfold takeQuarter
  dsimp only
  repeat' split
  · rfl
  · rw [foldl_bells _ _ (by simp)]; simp
  · rw [foldl_bells _ _ (by simp)]; simp

@[simp] theorem minuteStrike_bells (s : State) (minute : Nat) : (minuteStrike minute s).bells = s.bells := by
  simp [minuteStrike]

@[simp] theorem stepStrike_bells (s : State) (old new : Nat) : (stepStrike old new s).bells = s.bells := by
  simp [stepStrike]

@[simp] theorem timeSetStrike_bells (s : State) (civil : Nat) : (timeSetStrike civil s).bells = s.bells := by
  simp [timeSetStrike]

@[simp] theorem readyStrike_bells (s : State) : (readyStrike s).bells = s.bells := by
  unfold readyStrike
  split <;> simp

/-! ### The floodlights -/

@[simp] theorem floodNotice_bells (s : State) (c : Nat) (old : CircuitState) (cause : FloodCause) (units : Nat) :
    (s.floodNotice c old cause units).bells = s.bells := rfl

@[simp] theorem changeCircuit_bells (s : State) (c : Nat) (w : Circuit) (cause : FloodCause) (units : Nat) :
    (s.changeCircuit c w cause units).bells = s.bells := by simp [State.changeCircuit]

@[simp] theorem moveCircuit_bells (s : State) (c : Nat) (w : Circuit) (cause : FloodCause) :
    (s.moveCircuit c w cause).bells = s.bells := by simp [State.moveCircuit]

@[simp] theorem giveUp_bells (s : State) (c : Nat) : (s.giveUp c).bells = s.bells := by simp [State.giveUp]

@[simp] theorem strike_bells (s : State) (c : Nat) (cause : FloodCause) : (s.strike c cause).bells = s.bells := by
  simp [State.strike]

@[simp] theorem cool_bells (s : State) (c : Nat) (cause : FloodCause) : (s.cool c cause).bells = s.bells := by
  simp [State.cool]

@[simp] theorem actSwitched_bells (s : State) (c : Nat) (cause : FloodCause) :
    (s.actSwitched c cause).bells = s.bells := by
  unfold State.actSwitched
  dsimp only
  split <;> simp

@[simp] theorem warmed_bells (s : State) (c : Nat) : (s.warmed c).bells = s.bells := by simp [State.warmed]

@[simp] theorem warmUpEnd_bells (s : State) (c : Nat) : (warmUpEnd c s).bells = s.bells := by
  unfold warmUpEnd
  split <;> simp

@[simp] theorem restrikeEnd_bells (s : State) (c : Nat) : (restrikeEnd c s).bells = s.bells := by
  unfold restrikeEnd
  dsimp only
  repeat' split
  all_goals simp

@[simp] theorem runFade_bells (s : State) (c : Nat) : (s.runFade c).bells = s.bells := rfl

@[simp] theorem darken_bells (s : State) (c : Nat) (cause : FloodCause) : (s.darken c cause).bells = s.bells := by
  simp [State.darken]

@[simp] theorem seek_bells (s : State) (c units : Nat) : (s.seek c units).bells = s.bells := by simp [State.seek]

@[simp] theorem retarget_bells (s : State) (c target : Nat) (cause : FloodCause) :
    (s.retarget c target cause).bells = s.bells := by simp [State.retarget]

@[simp] theorem fadeStep_bells (s : State) (c : Nat) : (fadeStep c s).bells = s.bells := by
  unfold fadeStep
  dsimp only
  repeat' split
  all_goals simp

@[simp] theorem markShed_bells (s : State) (c : Nat) : (s.markShed c).bells = s.bells := rfl

@[simp] theorem dropToShed_bells (s : State) (c : Nat) : (s.dropToShed c).bells = s.bells := by
  simp [State.dropToShed]

@[simp] theorem cap_bells (s : State) (c : Nat) (cause : FloodCause) : (s.cap c cause).bells = s.bells := by
  simp [State.cap]

@[simp] theorem unmarkShed_bells (s : State) (c : Nat) : (s.unmarkShed c).bells = s.bells := rfl
@[simp] theorem uncap_bells (s : State) (c : Nat) : (s.uncap c).bells = s.bells := by simp [State.uncap]

@[simp] theorem actDimmed_bells (s : State) (c : Nat) (cause : FloodCause) :
    (s.actDimmed c cause).bells = s.bells := by simp [State.actDimmed]

@[simp] theorem takeDemand_bells (s : State) (c : Nat) : (s.takeDemand c).bells = s.bells := by
  simp [State.takeDemand]

@[simp] theorem actCircuit_bells (s : State) (c : Nat) (cause : FloodCause) :
    (s.actCircuit c cause).bells = s.bells := by
  unfold State.actCircuit
  split <;> simp

@[simp] theorem floodGranted_bells (s : State) (c units : Nat) : (floodGranted c units s).bells = s.bells := by
  unfold floodGranted
  dsimp only
  split <;> simp

@[simp] theorem takeOwnGrants_bells (s : State) (c : Nat) : (s.takeOwnGrants c).bells = s.bells := by
  simp [State.takeOwnGrants, foldl_bells]

theorem eachCircuit_bells {f : Nat → State → State} (h : ∀ i t, (f i t).bells = t.bells) (s : State) (l : List Nat) :
    (s.eachCircuit l f).bells = s.bells := by
  simp [State.eachCircuit, each_bells, h]

@[simp] theorem shedSet_bells (s : State) : (shedSet s).bells = s.bells := by simp [shedSet, eachCircuit_bells]
@[simp] theorem shedClear_bells (s : State) : (shedClear s).bells = s.bells := by simp [shedClear, eachCircuit_bells]

@[simp] theorem judgeCircuits_bells (s : State) (l : List Nat) (cause : FloodCause) :
    (judgeCircuits l cause s).bells = s.bells := by simp [judgeCircuits, each_bells, eachCircuit_bells]

@[simp] theorem writeLevels_bells (s : State) (levels : List (Option Nat)) (last : Option Nat) :
    (s.writeLevels levels last).bells = s.bells := by
  have written := fun (levels : List (Option Nat)) (c : Nat) (t : State) =>
    State.setCircuit_bells t c { t.circuit c with sceneLevel := (levels.getD c none).getD 0 }
  exact each_bells (written levels) s _

@[simp] theorem activateScene_bells (s : State) (scene : Nat) : (activateScene scene s).1.bells = s.bells := by
  unfold activateScene
  dsimp only
  split <;> simp

@[simp] theorem clearLevels_bells (s : State) : s.clearLevels.bells = s.bells := by simp [State.clearLevels]

@[simp] theorem fallBack_bells (s : State) : s.fallBack.bells = s.bells := by
  unfold State.fallBack
  split <;> simp

@[simp] theorem transitionFloods_bells (s : State) (state : LightState) :
    (transitionFloods state s).bells = s.bells := by
  unfold transitionFloods
  repeat' split
  all_goals simp

@[simp] theorem unsetFloods_bells (s : State) : (unsetFloods s).bells = s.bells := by simp [unsetFloods]

@[simp] theorem overrideRequest_bells (s : State) (c : Nat) (level : Option Nat) (duration : Nat) :
    (overrideRequest c level duration s).1.bells = s.bells := by
  unfold overrideRequest
  dsimp only
  split <;> simp

@[simp] theorem overrideExpiry_bells (s : State) (c : Nat) : (overrideExpiry c s).bells = s.bells := by
  unfold overrideExpiry
  split <;> simp

@[simp] theorem accessFloods_bells (s : State) : (accessFloods s).bells = s.bells := by simp [accessFloods]

@[simp] theorem lossCircuit_bells (s : State) (c : Nat) : (lossCircuit c s).bells = s.bells := by
  unfold lossCircuit
  dsimp only
  split <;> simp

@[simp] theorem lossFloods_bells (s : State) : (lossFloods s).bells = s.bells := by simp [lossFloods, each_bells]

@[simp] theorem returnFloods_bells (s : State) (cause : FloodCause) : (returnFloods cause s).bells = s.bells := by
  simp [returnFloods]

/-! ### The light monitor -/

@[simp] theorem sampleNow_bells (s : State) : s.sampleNow.bells = s.bells := by simp [State.sampleNow]

@[simp] theorem sampleInstant_bells (s : State) : (sampleInstant s).bells = s.bells := by
  unfold sampleInstant
  split <;> simp

@[simp] theorem lightLoss_bells (s : State) : (lightLoss s).bells = s.bells := rfl

@[simp] theorem lightTransition_bells (s : State) (old new : LightState) :
    (s.lightTransition old new).bells = s.bells := by simp [State.lightTransition]

@[simp] theorem goodLight_bells (s : State) (r : Nat) : (goodLight r s).bells = s.bells := by simp [goodLight]
@[simp] theorem outLight_bells (s : State) (r : Nat) : (outLight r s).bells = s.bells := by simp [outLight]
@[simp] theorem lightResult_bells (s : State) (r : Nat) : (lightResult r s).bells = s.bells := by simp [lightResult]
@[simp] theorem clearLightMark_bells (s : State) : s.clearLightMark.bells = s.bells := rfl

@[simp] theorem newLightSettings_bells (s : State) (new : LightSettings) :
    (s.newLightSettings new).bells = s.bells := by simp [State.newLightSettings]

@[simp] theorem returnLight_bells (s : State) : (returnLight s).bells = s.bells := by simp [returnLight]

/-! ### The swing controller, but for a claim -/

@[simp] theorem unitNotice_bells (s : State) (u : Nat) (old : UnitState) (cause : UnitCause) :
    (s.unitNotice u old cause).bells = s.bells := rfl

@[simp] theorem pendingNotice_bells (s : State) (u : Nat) (failed : Option FailReason) :
    (s.pendingNotice u failed).bells = s.bells := rfl

@[simp] theorem askImpulse_bells (s : State) (u : Nat) (dir : Dir) (kick braking : Bool) :
    (s.askImpulse u dir kick braking).bells = s.bells := by
  unfold State.askImpulse
  dsimp only
  split <;> simp

@[simp] theorem swingGranted_bells (s : State) (u units : Nat) : (swingGranted u units s).bells = s.bells := by
  unfold swingGranted
  dsimp only
  split <;> simp

@[simp] theorem cutDrive_bells (s : State) (u : Nat) : (s.cutDrive u).bells = s.bells := by
  unfold State.cutDrive
  dsimp only
  split <;> simp

@[simp] theorem driveWindowExpiry_bells (s : State) (u : Nat) : (driveWindowExpiry u s).bells = s.bells := by
  unfold driveWindowExpiry
  split <;> simp

@[simp] theorem driveImpulseEnd_bells (s : State) (u : Nat) : (driveImpulseEnd u s).bells = s.bells := by
  unfold driveImpulseEnd
  split <;> simp

@[simp] theorem enterRaising_bells (s : State) (u : Nat) (owner : Owner) (minutes : Nat) (cause : UnitCause) :
    (s.enterRaising u owner minutes cause).bells = s.bells := by simp [State.enterRaising]

@[simp] theorem enterSwinging_bells (s : State) (u : Nat) : (s.enterSwinging u).bells = s.bells := by
  unfold State.enterSwinging
  split <;> simp

@[simp] theorem lowerUnit_bells (s : State) (u : Nat) (kind : LowKind) (cause : UnitCause) :
    (s.lowerUnit u kind cause).bells = s.bells := rfl

@[simp] theorem stopUnit_bells (s : State) (u : Nat) (kind : LowKind) (cause : UnitCause) :
    (s.stopUnit u kind cause).bells = s.bells := by simp [State.stopUnit]

@[simp] theorem ringEnd_bells (s : State) (u : Nat) : (ringEnd u s).bells = s.bells := by
  unfold ringEnd
  split <;> simp

@[simp] theorem encoderEdge_bells (s : State) (u : Nat) (dir : Dir) : (encoderEdge u dir s).bells = s.bells := rfl
@[simp] theorem unitHanded_bells (s : State) (u : Nat) : (unitHanded u s).bells = s.bells := by simp [unitHanded]

@[simp] theorem failStart_bells (s : State) (u : Nat) (reason : FailReason) :
    (s.failStart u reason).bells = s.bells := rfl

@[simp] theorem unitFailed_bells (s : State) (u : Nat) (reason : FailReason) :
    (unitFailed u reason s).bells = s.bells := by simp [unitFailed]

@[simp] theorem clearUnit_bells (s : State) (u : Nat) : (clearUnit u s).bells = s.bells := by
  unfold clearUnit
  split <;> simp

/-! ### The peal run, but for its units -/

@[simp] theorem moveRun_bells (s : State) (r : PealRun) (cause : RunCause) :
    (s.moveRun r cause).bells = s.bells := rfl

@[simp] theorem startPeal_bells (s : State) (plan : Nat) : (startPeal plan s).1.bells = s.bells := by
  unfold startPeal
  split <;> simp

@[simp] theorem settleRun_bells (s : State) : s.settleRun.bells = s.bells := by
  unfold State.settleRun State.finishRun
  repeat' split
  all_goals rfl

/-! ### The day programme -/

@[simp] theorem setToday_bells (s : State) (t : Today) : (s.setToday t).bells = s.bells := rfl

@[simp] theorem transitionDay_bells (s : State) (state : LightState) :
    (transitionDay state s).bells = s.bells := by
  unfold transitionDay
  repeat' split
  all_goals simp

@[simp] theorem evaluate_bells (s : State) (t : Today) (minute : Nat) :
    (s.evaluate t minute).bells = s.bells := rfl

@[simp] theorem skip_bells (s : State) (e minute now : Nat) (reason : SkipReason) (status : Status) :
    (s.skip e minute now reason status).bells = s.bells := rfl

@[simp] theorem handPerf_bells (s : State) (e minute now : Nat) (kind : PerfKind) (args : PerfArgs) :
    (s.handPerf e minute now kind args).bells = s.bells := by
  unfold State.handPerf
  dsimp only
  repeat' split
  · rfl
  all_goals simpa using offer_bells_of_eq ‹_›

@[simp] theorem reportRefusal_bells (r : State × Status) (e minute now : Nat) :
    (State.reportRefusal r e minute now).bells = r.1.bells := by
  simp [State.reportRefusal]

@[simp] theorem fireEntry_bells (s : State) (e minute now : Nat) :
    (fireEntry e minute now s).bells = s.bells := by
  unfold fireEntry
  split <;> simp

@[simp] theorem judgeEntry_bells (s : State) (e minute now : Nat) :
    (judgeEntry e minute now s).bells = s.bells := by simp [judgeEntry]

@[simp] theorem minuteDay_bells (s : State) (minute : Nat) : (minuteDay minute s).bells = s.bells := by
  unfold minuteDay
  split <;> simp

@[simp] theorem comeTo_bells (s : State) (t : Today) (minute : Nat) (forward : Bool) :
    (s.comeTo t minute forward).bells = s.bells := by simp [State.comeTo]

@[simp] theorem stepDay_bells (s : State) (old new : Nat) : (stepDay old new s).bells = s.bells := by
  unfold stepDay
  split <;> simp

@[simp] theorem timeSetDay_bells (s : State) (civil : Nat) : (timeSetDay civil s).bells = s.bells := rfl

@[simp] theorem readyDay_bells (s : State) : (readyDay s).bells = s.bells := by
  unfold readyDay
  split <;> simp

@[simp] theorem reclass_bells (s : State) : s.reclass.bells = s.bells := by
  unfold State.reclass
  split <;> simp

/-! ### The time base -/

@[simp] theorem retime_bells (s : State) (b : TimeBase) (cause : TimeCause) (always : Bool) :
    (s.retime b cause always).bells = s.bells := by
  unfold State.retime
  split <;> simp

@[simp] theorem civilMinuteBoundary_bells (s : State) : (civilMinuteBoundary s).bells = s.bells := by
  unfold civilMinuteBoundary
  split <;> simp

@[simp] theorem keptSecondEnd_bells (s : State) : (keptSecondEnd s).bells = s.bells := by
  unfold keptSecondEnd
  split <;> simp

@[simp] theorem loseTime_bells (s : State) : s.loseTime.bells = s.bells := rfl

@[simp] theorem rangeEnd_bells (s : State) : (Machine.rangeEnd s).bells = s.bells := by
  unfold Machine.rangeEnd
  split <;> simp

@[simp] theorem seasonalInstant_bells (s : State) : (seasonalInstant s).bells = s.bells := by
  unfold seasonalInstant
  repeat' split
  all_goals simp

@[simp] theorem holdOver_bells (s : State) (cause : TimeCause) : (s.holdOver cause).bells = s.bells := by
  simp [State.holdOver]

@[simp] theorem lossOfLock_bells (s : State) : (lossOfLock s).bells = s.bells := by
  unfold lossOfLock
  split <;> simp

@[simp] theorem freeRun_bells (s : State) : s.freeRun.bells = s.bells := by simp [State.freeRun]

@[simp] theorem holdoverLimit_bells (s : State) : (holdoverLimit s).bells = s.bells := by
  unfold holdoverLimit
  split <;> simp

@[simp] theorem setTime_bells (s : State) (kept : Nat) : (s.setTime kept).bells = s.bells := by simp [State.setTime]

@[simp] theorem confirmation_bells (s : State) (tel : Telegram) (phase : Latch) (source : PhaseSource) :
    (confirmation tel phase source s).bells = s.bells := by
  unfold confirmation
  split <;> simp

@[simp] theorem applyTimeSettings_bells (s : State) : s.applyTimeSettings.bells = s.bells := by
  unfold State.applyTimeSettings
  dsimp only
  repeat' split
  all_goals simp

@[simp] theorem readyTime_bells (s : State) : (readyTime s).bells = s.bells := by
  unfold readyTime
  dsimp only
  repeat' split
  all_goals simp

/-! ### The dials -/

@[simp] theorem moveDial_bells (s : State) (d : Nat) (new : DialState) (cause : DialCause) :
    (s.moveDial d new cause).bells = s.bells := by simp [State.moveDial]

@[simp] theorem requestDial_bells (s : State) (d : Nat) (again : Bool) :
    (s.requestDial d again).bells = s.bells := by simp [State.requestDial]

@[simp] theorem askDial_bells (s : State) (d : Nat) : (s.askDial d).bells = s.bells := by simp [State.askDial]

@[simp] theorem riseDial_bells (s : State) (d : Nat) : (s.riseDial d).bells = s.bells := by
  unfold State.riseDial
  split <;> simp

@[simp] theorem judgeDial_bells (s : State) (d : Nat) : (s.judgeDial d).bells = s.bells := by
  unfold State.judgeDial
  split <;> simp

@[simp] theorem dialGranted_bells (s : State) (d units : Nat) : (dialGranted d units s).bells = s.bells := by
  unfold dialGranted
  dsimp only
  split <;> simp

@[simp] theorem withdrawDial_bells (s : State) (d : Nat) : (s.withdrawDial d).bells = s.bells := by
  unfold State.withdrawDial
  split <;> simp

@[simp] theorem dialSpacingExpiry_bells (s : State) (d : Nat) : (dialSpacingExpiry d s).bells = s.bells := by
  unfold dialSpacingExpiry
  split <;> simp

@[simp] theorem classify_bells (s : State) (d : Nat) (cause : DialCause) :
    (s.classify d cause).bells = s.bells := by simp [State.classify]

@[simp] theorem dialImpulseEnd_bells (s : State) (d : Nat) : (dialImpulseEnd d s).bells = s.bells := by
  unfold dialImpulseEnd
  split <;> simp

@[simp] theorem lossDial_bells (s : State) (d : Nat) : (lossDial d s).bells = s.bells := by simp [lossDial]
@[simp] theorem lossDials_bells (s : State) : (lossDials s).bells = s.bells := by simp [lossDials, each_bells]

@[simp] theorem repeatOrClassify_bells (s : State) (cause : DialCause) (d : Nat) :
    (repeatOrClassify cause d s).bells = s.bells := by simp [repeatOrClassify]

@[simp] theorem returnDials_bells (s : State) (cause : DialCause) : (returnDials cause s).bells = s.bells := by
  simp [returnDials, each_bells]

@[simp] theorem setTargets_bells (s : State) (half : Option Nat) : (s.setTargets half).bells = s.bells := rfl

@[simp] theorem civilHalfMinuteBoundary_bells (s : State) : (civilHalfMinuteBoundary s).bells = s.bells := by
  unfold civilHalfMinuteBoundary passHalfMinute
  split
  · rename_i passed
    split at passed <;> cases passed
    refine (each_bells (fun d u => ?_) _ _).trans rfl
    split <;> simp
  · rfl

@[simp] theorem stepDials_bells (s : State) (civil : Nat) : (stepDials civil s).bells = s.bells := by
  simp [stepDials, each_bells]

@[simp] theorem timeSetDials_bells (s : State) (civil : Nat) : (timeSetDials civil s).bells = s.bells := by
  simp [timeSetDials, each_bells]

@[simp] theorem unsetDials_bells (s : State) : (unsetDials s).bells = s.bells := by simp [unsetDials, each_bells]

@[simp] theorem dialsetRequest_bells (s : State) (d face : Nat) (next : Dir) :
    (dialsetRequest d face next s).1.bells = s.bells := by
  unfold dialsetRequest
  split <;> simp

@[simp] theorem dialstopRequest_bells (s : State) (d : Nat) (stop : Bool) :
    (dialstopRequest d stop s).1.bells = s.bells := by
  unfold dialstopRequest
  repeat' split
  all_goals simp

@[simp] theorem forgetDial_bells (s : State) (d : Nat) (cause : DialCause) :
    (s.forgetDial d cause).bells = s.bells := by simp [State.forgetDial]

@[simp] theorem newDialRecord_bells (s : State) (d : Nat) (old new : DialRec) :
    (s.newDialRecord d old new).bells = s.bells := by simp [State.newDialRecord]

@[simp] theorem readyDial_bells (s : State) (d : Nat) : (readyDial d s).bells = s.bells := by simp [readyDial]

@[simp] theorem readyDials_bells (s : State) : (readyDials s).bells = s.bells := by
  simp [readyDials, each_bells]

/-! ### The reference monitor -/

theorem whenReady_bells {f : State → State} (h : ∀ t, (f t).bells = t.bells) (s : State) :
    (s.whenReady f).bells = s.bells := by
  simp [State.whenReady, h]

theorem whenReading_bells {f : State → State} (h : ∀ t, (f t).bells = t.bells) (s : State) :
    (s.whenReading f).bells = s.bells :=
  whenReady_bells (fun t => by simp [h]) s

@[simp] theorem recordOver_bells (s : State) : s.recordOver.bells = s.bells := rfl
@[simp] theorem failRecord_bells (s : State) (chars : List Byte) : (s.failRecord chars).bells = s.bells := rfl

@[simp] theorem failPending_bells (s : State) : s.failPending.bells = s.bells := by
  unfold State.failPending
  split <;> simp

@[simp] theorem makePending_bells (s : State) (tel : Telegram) (chars : List Byte) :
    (s.makePending tel chars).bells = s.bells := by simp [State.makePending]

@[simp] theorem takeChar_bells (s : State) (c : Byte) : (takeChar s c).bells = s.bells := by
  unfold takeChar
  repeat' split
  all_goals simp

@[simp] theorem decideMark_bells (s : State) (d : Decision) (after : Option SecEdge) :
    (decideMark d after s).bells = s.bells := by
  unfold decideMark
  dsimp only
  repeat' split
  all_goals simp

@[simp] theorem phaseOf_bells (s : State) (mark : Latch) (confirms : Option Telegram) :
    (s.phaseOf mark confirms).bells = s.bells := by
  unfold State.phaseOf
  repeat' split
  all_goals simp

@[simp] theorem decideAll_bells (s : State) (after : Option SecEdge) : (s.decideAll after).bells = s.bells := by
  simp [State.decideAll, foldl_bells]

@[simp] theorem telegramRecord_bells (s : State) (chars : List Byte) :
    (telegramRecord chars s).bells = s.bells :=
  whenReading_bells (foldl_bells chars _ takeChar_bells) s

@[simp] theorem telegramRecordTimeout_bells (s : State) : (telegramRecordTimeout s).bells = s.bells := by
  refine whenReading_bells (fun t => ?_) s
  split <;> simp

@[simp] theorem telegramSilence_bells (s : State) : (telegramSilence s).bells = s.bells := by
  refine whenReading_bells (fun t => ?_) s
  split <;> simp

@[simp] theorem telegramMark_bells (s : State) : (telegramMark s).bells = s.bells := by
  refine whenReading_bells (fun t => ?_) s
  dsimp only
  split <;> simp

@[simp] theorem telegramMarkDeadline_bells (s : State) : (telegramMarkDeadline s).bells = s.bells := by
  refine whenReading_bells (fun t => ?_) s
  split <;> simp

@[simp] theorem secondMarkEdge_bells (s : State) : (secondMarkEdge s).bells = s.bells :=
  whenReady_bells (fun t => by simp) s

@[simp] theorem secondMarkTimeout_bells (s : State) : (secondMarkTimeout s).bells = s.bells := by
  refine whenReady_bells (fun t => ?_) s
  split <;> simp

@[simp] theorem skewDecisionTimeout_bells (s : State) : (skewDecisionTimeout s).bells = s.bells := by
  refine whenReady_bells (fun t => ?_) s
  split
  · exact (foldl_bells _ _ (fun _ _ => decideMark_bells _ _ _) _).trans (by simp)
  · rfl

@[simp] theorem changeMode_bells (s : State) (new : RefMode) : (s.changeMode new).bells = s.bells := by
  unfold State.changeMode
  dsimp only
  split
  · split
    · exact holdOver_bells _ _
    · rfl
  · refine foldl_bells _ _ (fun t d => ?_) _
    split <;> simp
  · simp

@[simp] theorem newTimeSettings_bells (s : State) (new : TimeSettings) :
    (s.newTimeSettings new).bells = s.bells := by simp [State.newTimeSettings]

/-! ### PUT -/

@[simp] theorem putBell_bells (s : State) (b : Nat) (new : BellRec) : (putBell b new s).1.bells = s.bells := by
  unfold putBell
  repeat' split
  all_goals simp

@[simp] theorem putSwing_bells (s : State) (u : Nat) (new : SwingRec) : (putSwing u new s).1.bells = s.bells := by
  unfold putSwing
  repeat' split
  all_goals simp

@[simp] theorem putPlan_bells (s : State) (p : Nat) (new : Plan) : (putPlan p new s).1.bells = s.bells := by
  unfold putPlan
  split <;> simp

@[simp] theorem putTune_bells (s : State) (t : Nat) (new : Tune) : (putTune t new s).1.bells = s.bells := by
  unfold putTune
  split <;> simp

@[simp] theorem putNote_bells (s : State) (n : Nat) (new : Note) : (putNote n new s).1.bells = s.bells := by
  unfold putNote
  split <;> simp

@[simp] theorem putDial_bells (s : State) (d : Nat) (new : DialRec) : (putDial d new s).1.bells = s.bells := by
  unfold putDial
  repeat' split
  all_goals simp

@[simp] theorem putCircuit_bells (s : State) (c : Nat) (new : CircuitRec) :
    (putCircuit c new s).1.bells = s.bells := by
  unfold putCircuit
  repeat' split
  all_goals simp

@[simp] theorem putScene_bells (s : State) (i : Nat) (new : Scene) : (putScene i new s).1.bells = s.bells := rfl
@[simp] theorem putEntry_bells (s : State) (e : Nat) (new : Entry) : (putEntry e new s).1.bells = s.bells := rfl

@[simp] theorem putSpecial_bells (s : State) (e : Nat) (new : Special) :
    (putSpecial e new s).1.bells = s.bells := by
  unfold putSpecial
  split <;> simp

@[simp] theorem putSun_bells (s : State) (d : Nat) (new : Sun) : (putSun d new s).1.bells = s.bells := rfl

@[simp] theorem putSupply_bells (s : State) (new : SupplySettings) : (putSupply new s).1.bells = s.bells := by
  unfold putSupply
  repeat' split
  all_goals simp

end Sys2Proof.Proofs
end

section
/-! SUPPORT. What the messages of a command leave of a hammer in PULSE or RECOVERY (R58): all of it. -/
namespace Sys2Proof.Proofs

open Sys2Proof.Machine Sys2Proof.Claims

/-- A hammer in PULSE or RECOVERY: its state has an end of its own (R58). -/
def timed : Hammer → Bool
  | .pulse .. | .recovery _ => true
  | _ => false

/-- Every hammer in PULSE or RECOVERY stands as it was. -/
def KeepsTimed (p q : Table Bell) : Prop :=
  ∀ b, timed (Table.get bell0 p b).hammer = true → (Table.get bell0 q b).hammer = (Table.get bell0 p b).hammer

theorem KeepsTimed.refl (p : Table Bell) : KeepsTimed p p := fun _ _ => rfl

theorem KeepsTimed.trans {p q r : Table Bell} (h : KeepsTimed p q) (k : KeepsTimed q r) : KeepsTimed p r := fun b hb =>
  (k b (by rw [h b hb]; exact hb)).trans (h b hb)

variable {p : Table Bell} {s t : State}

/-- A bell's write keeps the timed hammers where it keeps its own. -/
theorem keeps_setBell (h : KeepsTimed p t.bells) {b : Nat} {v : Bell}
    (hv : timed (t.bell b).hammer = true → v.hammer = (t.bell b).hammer) : KeepsTimed p (t.setBell b v).bells := by
  refine h.trans fun j hj => ?_
  rw [State.setBell_bells, Table.get_put]
  split
  · subst b; exact hv hj
  · rfl

theorem keeps_foldl {α : Type} {f : State → α → State} (hf : ∀ t a, KeepsTimed p t.bells → KeepsTimed p (f t a).bells)
    (h : KeepsTimed p t.bells) (l : List α) : KeepsTimed p (l.foldl f t).bells := by
  induction l generalizing t with
  | nil => exact h
  | cons a l ih => exact ih (hf t a h)

theorem keeps_each {f : Nat → State → State} (hf : ∀ i t, KeepsTimed p t.bells → KeepsTimed p (f i t).bells)
    (h : KeepsTimed p t.bells) (l : List Nat) : KeepsTimed p (t.each l f).bells :=
  keeps_foldl (fun t i => hf i t) h l

/-! ## Claims -/

theorem keeps_completeRelease (h : KeepsTimed p t.bells) (b : Nat) : KeepsTimed p (completeRelease b t).bells := by
  unfold completeRelease
  dsimp only
  repeat' split
  all_goals
    simp only [State.post_bells]
    exact keeps_setBell h fun _ => rfl

theorem endBlows_keeps (w : Bell) (id : Nat) (h : timed w.hammer = true) : (w.endBlows id).hammer = w.hammer := by
  unfold Bell.endBlows
  dsimp only
  split
  · rename_i e; rw [e] at h; cases h
  · rfl

theorem keeps_releaseBell (h : KeepsTimed p t.bells) (b : Nat) : KeepsTimed p (releaseBell b t).bells := by
  unfold releaseBell
  split
  · exact keeps_setBell h fun _ => rfl
  · exact keeps_completeRelease h b

theorem keeps_releaseBells (h : KeepsTimed p t.bells) (bells : List Nat) (id : Nat) :
    KeepsTimed p (releaseBells bells id t).bells := by
  refine keeps_each (fun b u hu => keeps_releaseBell hu b) ?_ _
  rw [withdrawAll_bells]
  exact keeps_each (fun b u hu => keeps_setBell hu (endBlows_keeps _ id)) h _

theorem keeps_claimSwing (h : KeepsTimed p t.bells) (u : Nat) : KeepsTimed p (t.claimSwing u).1.bells := by
  unfold State.claimSwing
  dsimp only
  repeat' split
  all_goals first
    | exact h
    | (dsimp only; rw [State.post_bells]; exact keeps_setBell h fun _ => rfl)
    | exact keeps_setBell h fun _ => rfl

theorem keeps_cancelPending (h : KeepsTimed p t.bells) (u : Nat) : KeepsTimed p (t.cancelPending u).1.bells := by
  unfold State.cancelPending
  repeat' split
  all_goals first | exact h | exact keeps_setBell h fun _ => rfl

theorem keeps_moveClaim (h : KeepsTimed p t.bells) (u : Nat) (c : Claim) : KeepsTimed p (t.moveClaim u c).bells := by
  unfold State.moveClaim
  split
  · rw [State.post_bells]
    exact keeps_setBell h fun _ => rfl
  · exact h

theorem keeps_tryHead (h : KeepsTimed p t.bells) (perf : Perf) : KeepsTimed p (t.tryHead perf).bells := by
  unfold State.tryHead
  split
  · rwa [drop_bells]
  · split
    · exact h
    · rename_i claimed
      unfold State.claimBells at claimed
      split at claimed
      · cases claimed
        simp only [requestNote_bells, State.notify_bells, State.withChime_bells]
        refine keeps_each (fun b u hu => ?_) h _
        exact keeps_setBell hu fun _ => rfl
      · cases claimed

theorem keeps_strikeableReport (h : KeepsTimed p t.bells) (b : Nat) : KeepsTimed p (strikeableReport b t).bells := by
  unfold strikeableReport
  repeat' split
  all_goals first | exact h | exact keeps_tryHead h _

/-! ## Hammers -/

theorem keeps_takeBlow (h : KeepsTimed p t.bells) {b : Nat} (hb : timed (t.bell b).hammer = false) (v : Velocity)
    (id : Nat) : KeepsTimed p (t.takeBlow b v id).bells := by
  unfold State.takeBlow
  rw [State.request_bells]
  exact keeps_setBell h fun k => by rw [hb] at k; cases k

theorem keeps_blowRequest (h : KeepsTimed p t.bells) (b : Nat) (v : Velocity) (id : Nat) :
    KeepsTimed p (blowRequest b v id t).bells := by
  unfold blowRequest
  split
  · rwa [answerRefused_bells]
  · split
    · rename_i idle
      refine keeps_takeBlow (by rwa [blowTaken_bells]) ?_ v id
      unfold State.bell at idle ⊢
      rw [blowTaken_bells, idle]
      rfl
    · rw [blowTaken_bells]
      exact keeps_setBell h fun _ => rfl

theorem keeps_hammerGranted (h : KeepsTimed p t.bells) (b units : Nat) :
    KeepsTimed p (hammerGranted b units t).bells := by
  unfold hammerGranted
  split
  · rename_i waits
    have free {w : Bell} : timed (t.bell b).hammer = true → w.hammer = (t.bell b).hammer := fun k => by
      rw [waits] at k; cases k
    split
    · rw [answerRefused_bells, State.release_bells]
      exact keeps_setBell h free
    · rw [blowEnds_bells]
      exact keeps_setBell h free
  · rwa [State.release_bells]

theorem keeps_refuseHeld (h : KeepsTimed p t.bells) (b : Nat) (r : Refused) : KeepsTimed p (t.refuseHeld b r).bells := by
  unfold State.refuseHeld
  split
  · rw [answerRefused_bells]
    exact keeps_setBell h fun _ => rfl
  · exact h

theorem keeps_withdrawBlow (h : KeepsTimed p t.bells) (b id : Nat) : KeepsTimed p (withdrawBlow b id t).bells := by
  unfold withdrawBlow
  dsimp only
  split
  · rw [blowClipped_bells]
    exact keeps_setBell h fun _ => rfl
  · split
    · rename_i waits
      split
      · rw [blowClipped_bells, State.withdraw_bells]
        exact keeps_setBell h fun k => by rw [waits] at k; cases k
      · rwa [blowEnds_bells]
    · rwa [blowEnds_bells]

theorem keeps_accessHammer (h : KeepsTimed p t.bells) (b : Nat) : KeepsTimed p (accessHammer b t).bells := by
  have refused := keeps_refuseHeld h b .access
  unfold accessHammer
  dsimp only
  split
  · rename_i waits
    rw [answerRefused_bells, State.withdraw_bells]
    exact keeps_setBell refused fun k => by rw [waits] at k; cases k
  · exact refused

theorem keeps_accessBells (h : KeepsTimed p t.bells) : KeepsTimed p (accessBells t).bells := by
  unfold accessBells
  dsimp only
  rw [State.postAll_bells]
  split
  · exact keeps_each (fun b u hu => keeps_accessHammer hu b) h _
  · exact h

theorem keeps_setHammerFault (h : KeepsTimed p t.bells) (b : Nat) (f : HammerFault) (reading : Nat) :
    KeepsTimed p (t.setHammerFault b f reading).bells := by
  unfold State.setHammerFault
  refine keeps_refuseHeld ?_ b .fault
  rw [State.post_bells, State.notify_bells]
  exact keeps_setBell h fun _ => rfl

/-! ## Swing units, whose bells' claims move -/

theorem keeps_enterSettling (h : KeepsTimed p t.bells) (u : Nat) (cause : UnitCause) :
    KeepsTimed p (t.enterSettling u cause).bells := by
  unfold State.enterSettling
  dsimp only
  rw [unitNotice_bells]
  refine keeps_moveClaim ?_ _ _
  rwa [State.setUnit_bells, cutDrive_bells]

theorem keeps_enterFault (h : KeepsTimed p t.bells) (u : Nat) (f : UnitFault) : KeepsTimed p (t.enterFault u f).bells := by
  unfold State.enterFault
  dsimp only
  rw [unitNotice_bells, State.notify_bells]
  refine keeps_moveClaim ?_ _ _
  rwa [State.setUnit_bells, cutDrive_bells]

theorem keeps_startUnit (h : KeepsTimed p t.bells) (u : Nat) (owner : Owner) (prec : Precedence) (minutes : Nat) :
    KeepsTimed p (t.startUnit u owner prec minutes).1.bells := by
  have claimed := keeps_claimSwing h u
  unfold State.startUnit
  dsimp only
  repeat' split
  all_goals first
    | exact h
    | (rename_i e; rw [e] at claimed; simpa using claimed)
    | (rename_i e _; rw [e] at claimed; simpa using claimed)

theorem keeps_cancelStart (h : KeepsTimed p t.bells) (u : Nat) (reason : FailReason) :
    KeepsTimed p (t.cancelStart u reason).bells := by
  have cancelled := keeps_cancelPending h u
  unfold State.cancelStart
  repeat' split
  · rename_i e; rw [e] at cancelled; simpa using cancelled
  · rename_i e; rw [e] at cancelled; exact cancelled
  · exact h

theorem keeps_haltUnit (h : KeepsTimed p t.bells) (u : Nat) (cause : UnitCause) (reason : FailReason) :
    KeepsTimed p (t.haltUnit u cause reason).bells :=
  keeps_cancelStart (by rwa [stopUnit_bells]) u reason

theorem keeps_accessUnit (h : KeepsTimed p t.bells) (u : Nat) : KeepsTimed p (accessUnit u t).bells :=
  keeps_cancelStart (by rwa [stopUnit_bells, cutDrive_bells]) u .access

theorem keeps_accessSwing (h : KeepsTimed p t.bells) : KeepsTimed p (accessSwing t).bells := by
  unfold accessSwing
  split
  · exact keeps_each (fun u t ht => keeps_accessUnit ht u) h _
  · exact keeps_each (fun u t ht => by rwa [clearUnit_bells]) h _

theorem keeps_stepUnit (h : KeepsTimed p t.bells) (step u : Nat) : KeepsTimed p (t.stepUnit step u).bells := by
  have started := keeps_startUnit h u .peal (t.planRec t.run.plan).precedence 0
  unfold State.stepUnit
  repeat' split
  · exact h
  all_goals rename_i e; rw [e] at started; exact started

theorem keeps_takeStartStep (h : KeepsTimed p t.bells) : KeepsTimed p (takeStartStep t).bells := by
  unfold takeStartStep
  dsimp only
  repeat' split
  · rw [settleRun_bells, moveRun_bells]
    exact keeps_stepUnit (by rwa [State.withRun_bells]) _ _
  · exact keeps_stepUnit (by rwa [State.withRun_bells]) _ _
  · exact h

theorem keeps_takeStopStep (h : KeepsTimed p t.bells) : KeepsTimed p (takeStopStep t).bells := by
  unfold takeStopStep
  split
  · exact keeps_haltUnit (by rwa [State.withRun_bells]) _ _ _
  · exact h

theorem keeps_takeStopSteps (h : KeepsTimed p t.bells) : KeepsTimed p t.takeStopSteps.bells := by
  unfold State.takeStopSteps
  refine keeps_each (fun u t ht => keeps_haltUnit ht u _ _) ?_ _
  rwa [State.withRun_bells]

theorem keeps_stopRun (h : KeepsTimed p t.bells) (cause : RunCause) (gap : Nat) :
    KeepsTimed p (t.stopRun cause gap).bells := by
  unfold State.stopRun
  dsimp only
  rw [settleRun_bells]
  split
  · exact keeps_takeStopSteps h
  · exact keeps_takeStopStep h

theorem keeps_hurryRun (h : KeepsTimed p t.bells) (cause : RunCause) : KeepsTimed p (t.hurryRun cause).bells := by
  unfold State.hurryRun
  split
  · exact h
  · rw [settleRun_bells]
    exact keeps_takeStopSteps h
  · exact keeps_stopRun h _ _

theorem keeps_accessRun (h : KeepsTimed p t.bells) : KeepsTimed p (accessRun t).bells := by
  unfold accessRun
  split
  · exact keeps_hurryRun h _
  · exact h

/-! ## The messages of a command (log 3, log 4) -/

/-- No message ends a pulse or a recovery. -/
theorem keeps_handle (h : KeepsTimed p t.bells) (m : Msg) : KeepsTimed p (handle m t).bells := by
  cases m with
  | granted c units =>
    cases c with
    | hammer b => exact keeps_hammerGranted h b units
    | dial d => simpa [handle, grantTold] using h
    | swing u => simpa [handle, grantTold] using h
    | flood c => simpa [handle, grantTold] using h
  | report b => exact keeps_strikeableReport h b
  | blow b v id => exact keeps_blowRequest h b v id
  | withdraw b id => exact keeps_withdrawBlow h b id
  | release bells id => exact keeps_releaseBells h bells id
  | completeRelease b => exact keeps_completeRelease h b
  | startStep => exact keeps_takeStartStep h
  | accessBells => exact keeps_accessBells h
  | accessSwing => exact keeps_accessSwing h
  | accessRun => exact keeps_accessRun h
  | _ => simpa [handle] using h

theorem keeps_standing (h : KeepsTimed p t.bells) {u : State} (e : t.standing = some u) : KeepsTimed p u.bells := by
  unfold State.standing at e
  split at e
  · rename_i done
    cases e
    have settled := settleRun_bells t
    rw [State.settleRun, done, Option.getD_some] at settled
    rwa [settled]
  · obtain ⟨perf, -, rfl⟩ := Option.map_eq_some_iff.mp e
    exact keeps_tryHead h perf

theorem keeps_drain (h : KeepsTimed p t.bells) (n : Nat) : KeepsTimed p (t.drain n).bells := by
  induction n generalizing t with
  | zero => exact h
  | succ n ih =>
    unfold State.drain
    split
    · refine ih ?_
      unfold State.handleFirst
      exact keeps_handle (by rwa [State.withAgenda_bells]) _
    · split
      · rename_i e
        exact ih (keeps_standing h e)
      · exact h

theorem pump_bells (s : State) : s.pump.bells = s.bells := by rw [State.pump_eq]; rfl

/-- The messages of a command leave every hammer in PULSE or RECOVERY as its own effect left it. -/
theorem keeps_finish (h : KeepsTimed p t.bells) : KeepsTimed p t.finish.bells := by
  unfold State.finish
  split
  · rw [pump_bells]
    exact keeps_drain h _
  · rwa [pump_bells]

end Sys2Proof.Proofs
end

section
/-! SUPPORT. What a command leaves of a hammer in PULSE or RECOVERY where it is none of the hammer's own and no mains loss. -/
namespace Sys2Proof.Proofs

open Sys2Proof.Machine Sys2Proof.Claims

variable {p : Table Bell} {s t : State}

/-! ## Requests -/

theorem keeps_clearNewMarks (h : KeepsTimed p t.bells) : KeepsTimed p t.clearNewMarks.bells := by
  unfold State.clearNewMarks
  dsimp only
  rw [State.withLight_bells]
  refine (each_bells (fun u t => State.setUnit_bells t u { t.unit u with newMark := false }) _ _).symm ▸ ?_
  refine keeps_each (fun b u hu => ?_) h _
  exact keeps_setBell hu fun _ => rfl

theorem keeps_clearfaultRequest (h : KeepsTimed p t.bells) (v : List Nat) :
    KeepsTimed p (clearfaultRequest v t).1.bells := by
  unfold clearfaultRequest
  repeat' split
  · unfold State.clearBellFault
    rw [State.post_bells]
    exact keeps_setBell h fun _ => rfl
  · exact h
  · unfold State.clearUnitFault
    dsimp only
    split
    · exact keeps_enterSettling (by rwa [State.setUnit_bells]) _ _
    · exact h
  · exact h
  · rwa [clearLightMark_bells]
  · exact h

theorem ranged_bells {α : Type} {write : α → State → State × Status} (h : ∀ new s, (write new s).1.bells = s.bells)
    (reading : Option α) (s : State) : (ranged reading write s).1.bells = s.bells := by
  unfold ranged
  split
  · exact h _ s
  · rfl

@[simp] theorem putGroup_bells (group : Nat) (v : List Nat) (s : State) : (putGroup group v s).1.bells = s.bells := by
  unfold putGroup
  split
  all_goals exact ranged_bells (fun new s => by simp) _ s

@[simp] theorem putValues_bells (table i : Nat) (v : List Nat) (s : State) :
    (putValues table i v s).1.bells = s.bells := by
  unfold putValues
  split
  case h_12 => simp
  all_goals exact ranged_bells (fun new s => by simp) _ s

@[simp] theorem eraseEntry_bells (table i : Nat) (s : State) : (eraseEntry table i s).1.bells = s.bells := by
  unfold eraseEntry eraseBell eraseDial eraseCircuit eraseGroup
  repeat' split
  all_goals simp

@[simp] theorem putRequest_bells (body : List Byte) (s : State) : (putRequest body s).1.bells = s.bells := by
  unfold putRequest plain
  dsimp only
  repeat' split
  all_goals simp

@[simp] theorem eraseRequest_bells (body : List Byte) (s : State) : (eraseRequest body s).1.bells = s.bells := by
  unfold eraseRequest plain
  dsimp only
  split <;> simp

theorem fields_keeps {rooms : List Room} {run : List Nat → State → Answer} (h : KeepsTimed p t.bells)
    (hr : ∀ v, KeepsTimed p (run v t).1.bells) (body : List Byte) : KeepsTimed p (fields rooms body run t).1.bells := by
  unfold fields
  split
  · exact hr _
  · exact h

theorem keeps_ringBody (h : KeepsTimed p t.bells) (v : List Nat) : KeepsTimed p (ringBody v t).1.bells := by
  unfold ringBody ringRequest
  dsimp only
  repeat' split
  all_goals first | exact h | exact keeps_startUnit h _ _ _ _

theorem keeps_haltBody (h : KeepsTimed p t.bells) (v : List Nat) : KeepsTimed p (haltBody v t).1.bells := by
  unfold haltBody haltRequest
  dsimp only
  repeat' split
  all_goals first | exact h | (dsimp only; exact keeps_haltUnit h _ _ _)

theorem keeps_endPeal (h : KeepsTimed p t.bells) : KeepsTimed p (endPeal t).1.bells := by
  unfold endPeal
  split
  · exact h
  · exact h
  · exact keeps_stopRun h _ _

@[simp] theorem getRequest_bells (body : List Byte) (s : State) : (getRequest body s).1.bells = s.bells := by
  unfold getRequest
  dsimp only
  split <;> rfl

@[simp] theorem listRequest_bells (body : List Byte) (s : State) : (listRequest body s).1.bells = s.bells := by
  unfold listRequest
  dsimp only
  split <;> rfl

@[simp] theorem settimeRequest_bells (v : List Nat) (s : State) : (settimeRequest v s).1.bells = s.bells := by
  unfold settimeRequest
  dsimp only
  repeat' split
  all_goals simp

@[simp] theorem quietRequest_bells (v : List Nat) (s : State) : (quietRequest v s).1.bells = s.bells := by
  unfold quietRequest
  split <;> rfl

@[simp] theorem playBody_bells (v : List Nat) (s : State) : (playBody v s).1.bells = s.bells := by
  unfold playBody
  dsimp only
  repeat' split
  all_goals simp

@[simp] theorem cancelBody_bells (v : List Nat) (s : State) : (cancelBody v s).1.bells = s.bells := by
  unfold cancelBody plain
  split <;> simp

@[simp] theorem pealBody_bells (v : List Nat) (s : State) : (pealBody v s).1.bells = s.bells := by
  unfold pealBody plain
  repeat' split
  all_goals simp

@[simp] theorem dialsetBody_bells (v : List Nat) (s : State) : (dialsetBody v s).1.bells = s.bells := by
  unfold dialsetBody
  dsimp only
  repeat' split
  all_goals simp

@[simp] theorem dialstopBody_bells (v : List Nat) (s : State) : (dialstopBody v s).1.bells = s.bells := by
  unfold dialstopBody plain
  repeat' split
  all_goals simp

@[simp] theorem sceneBody_bells (v : List Nat) (s : State) : (sceneBody v s).1.bells = s.bells := by
  unfold sceneBody plain
  repeat' split
  all_goals simp

@[simp] theorem overrideBody_bells (v : List Nat) (s : State) : (overrideBody v s).1.bells = s.bells := by
  unfold overrideBody plain
  repeat' split
  all_goals simp

/-- No request ends a pulse or a recovery. -/
theorem keeps_runRequest (h : KeepsTimed p t.bells) (kind : Nat) (body : List Byte) :
    KeepsTimed p (runRequest kind body t).1.bells := by
  unfold runRequest plain
  split
  case h_2 => exact keeps_clearNewMarks h
  case h_3 => exact fields_keeps h (keeps_clearfaultRequest h) body
  case h_18 => exact fields_keeps h (keeps_ringBody h) body
  case h_19 => exact fields_keeps h (keeps_haltBody h) body
  case h_21 => exact keeps_endPeal h
  all_goals first
    | exact h
    | exact fields_keeps h (fun v => by simpa using h) body
    | simpa using h

theorem keeps_judgeRequest (h : KeepsTimed p t.bells) (kind : Byte) (body : List Byte) :
    KeepsTimed p (judgeRequest kind body t).1.bells := by
  unfold judgeRequest
  repeat' split
  all_goals first | exact h | exact keeps_runRequest h _ _

/-! ## Frames and bytes of the line -/

@[simp] theorem owe_bells (s : State) (o : Owed) : (s.owe o).bells = s.bells := rfl

theorem keeps_takeFrame (h : KeepsTimed p t.bells) (kind : Byte) (body : List Byte) :
    KeepsTimed p (takeFrame kind body t).bells := by
  unfold takeFrame
  dsimp only
  repeat' split
  · exact h
  · exact h
  · rw [owe_bells]
    exact keeps_judgeRequest (by exact h) kind body

theorem keeps_takeByte (h : KeepsTimed p t.bells) (v : Byte) : KeepsTimed p (t.takeByte v).bells := by
  unfold State.takeByte
  dsimp only
  repeat' split
  all_goals first | exact h | exact keeps_takeFrame h _ _

theorem keeps_receiveByte (h : KeepsTimed p t.bells) (b : RxByte) : KeepsTimed p (receiveByte b t).bells := by
  unfold receiveByte State.hunt
  dsimp only
  repeat' split
  all_goals first | exact h | exact keeps_takeByte (by rwa [State.withTime_bells]) _

/-! ## Timers of swing units and of the run -/

theorem keeps_raiseLimitExpiry (h : KeepsTimed p t.bells) (u : Nat) : KeepsTimed p (raiseLimitExpiry u t).bells := by
  unfold raiseLimitExpiry
  split
  · exact keeps_enterFault (by exact h) _ _
  · exact h

theorem keeps_lowerLimitExpiry (h : KeepsTimed p t.bells) (u : Nat) : KeepsTimed p (lowerLimitExpiry u t).bells := by
  unfold lowerLimitExpiry
  split
  · exact keeps_enterFault (by exact h) _ _
  · exact h

theorem keeps_noTurnTimeout (h : KeepsTimed p t.bells) (u : Nat) : KeepsTimed p (noTurnTimeout u t).bells := by
  unfold noTurnTimeout
  split
  · exact keeps_enterSettling (by exact h) _ _
  · exact h

theorem keeps_settleTimerExpiry (h : KeepsTimed p t.bells) (u : Nat) :
    KeepsTimed p (settleTimerExpiry u t).bells := by
  unfold settleTimerExpiry
  split
  · dsimp only
    rw [unitNotice_bells]
    refine keeps_moveClaim ?_ _ _
    rwa [State.setUnit_bells, State.runTo_bells]
  · exact h

theorem keeps_actOnTurn (h : KeepsTimed p t.bells) (u : Nat) (amplitude : Option Nat) (dir : Dir) :
    KeepsTimed p (t.actOnTurn u amplitude dir).bells := by
  unfold State.actOnTurn
  dsimp only
  repeat' split
  all_goals simpa using h

theorem keeps_takeTurn (h : KeepsTimed p t.bells) (u : Nat) (amplitude : Option Nat) (dir : Dir) :
    KeepsTimed p (t.takeTurn u amplitude dir).bells := by
  unfold State.takeTurn
  dsimp only
  split
  · exact h
  · split
    · exact keeps_enterFault (by rwa [State.setUnit_bells]) _ _
    · exact keeps_actOnTurn (by rwa [State.setUnit_bells]) _ _ _

theorem keeps_reversal (h : KeepsTimed p t.bells) (u : Nat) : KeepsTimed p (reversal u t).bells := by
  unfold reversal
  dsimp only
  repeat' split
  · exact h
  · exact keeps_takeTurn (by rwa [State.setUnit_bells]) _ _ _
  · exact keeps_takeTurn (by rwa [State.setUnit_bells]) _ _ _
  · exact keeps_enterSettling (by rwa [State.setUnit_bells]) _ _
  · exact h

theorem keeps_indexCrossing (h : KeepsTimed p t.bells) (u : Nat) : KeepsTimed p (indexCrossing u t).bells := by
  unfold indexCrossing
  dsimp only
  repeat' split
  · exact h
  · exact h
  · exact keeps_enterFault (by rwa [State.setUnit_bells]) _ _
  · exact h

theorem keeps_startStep (h : KeepsTimed p t.bells) : KeepsTimed p (startStep t).bells := by
  unfold startStep
  split
  · exact keeps_takeStartStep (by exact h)
  · exact h

theorem keeps_pealEndInstant (h : KeepsTimed p t.bells) : KeepsTimed p (pealEndInstant t).bells := by
  unfold pealEndInstant
  split
  · exact keeps_stopRun (by exact h) _ _
  · exact h

theorem keeps_stopStep (h : KeepsTimed p t.bells) : KeepsTimed p (stopStep t).bells := by
  unfold stopStep
  split
  · rw [settleRun_bells]
    exact keeps_takeStopStep (by exact h)
  · exact h

/-! ## The entry to READY -/

theorem keeps_clearBells (h : KeepsTimed p t.bells) :
    KeepsTimed p (t.each bellNumbers fun b t => t.setBell b (clearedBell (t.bell b))).bells := by
  refine keeps_each (fun b u hu => ?_) h _
  exact keeps_setBell hu fun _ => rfl

theorem keeps_warmStart (h : KeepsTimed p t.bells) : KeepsTimed p t.warmStart.bells := by
  unfold State.warmStart
  dsimp only
  repeat' split
  · exact keeps_clearBells (by exact h)
  · exact keeps_clearBells h
  · exact h
  · exact h

theorem keeps_coldStart (h : KeepsTimed p t.bells) : KeepsTimed p t.coldStart.bells := by
  unfold State.coldStart
  dsimp only
  have levels := fun (c : Nat) (t : State) => State.setCircuit_bells t c { t.circuit c with sceneLevel := 0 }
  rw [each_bells levels]
  exact keeps_clearBells (by exact h)

theorem keeps_loadingEnd (h : KeepsTimed p t.bells) : KeepsTimed p (loadingEnd t).bells := by
  unfold loadingEnd
  dsimp only
  split
  · rw [State.postAll_bells, State.withStart_bells]
    split
    · exact keeps_warmStart h
    · exact keeps_coldStart h
  · exact h

/-! ## The power monitor and the store, but for a mains loss -/

@[simp] theorem whenRunning_bells {f : State → State} (h : ∀ t, (f t).bells = t.bells) (s : State) :
    (s.whenRunning f).bells = s.bells := by
  simp [State.whenRunning, h]

@[simp] theorem accessSwitchChange_bells (shows : Access) (s : State) : (accessSwitchChange shows s).bells = s.bells := by
  unfold accessSwitchChange State.whenRunning
  dsimp only
  repeat' split
  all_goals rfl

@[simp] theorem accessTimerExpiry_bells (s : State) : (accessTimerExpiry s).bells = s.bells := by
  unfold accessTimerExpiry State.whenRunning
  dsimp only
  repeat' split
  all_goals rfl

@[simp] theorem keySwitchChange_bells (shows : Key) (s : State) : (keySwitchChange shows s).bells = s.bells := by
  unfold keySwitchChange State.whenRunning
  dsimp only
  repeat' split
  all_goals rfl

@[simp] theorem keyTimerExpiry_bells (s : State) : (keyTimerExpiry s).bells = s.bells := by
  unfold keyTimerExpiry State.whenRunning
  dsimp only
  repeat' split
  all_goals rfl

@[simp] theorem saveTableWritten_bells (readBack : Bool) (s : State) : (saveTableWritten readBack s).bells = s.bells := by
  unfold saveTableWritten
  dsimp only
  repeat' split
  all_goals rfl

/-! ## Commands -/

theorem keeps_command {f : State → State} (h : KeepsTimed p t.bells) (hf : KeepsTimed p (f t).bells) :
    KeepsTimed p (command f t).bells := by
  unfold command
  split
  · exact keeps_finish hf
  · exact h

end Sys2Proof.Proofs
end

section
/-! SUPPORT. What becomes of a hammer in PULSE or RECOVERY (R58, R61-R63). -/
namespace Sys2Proof.Proofs

open Sys2Proof.Machine Sys2Proof.Claims

variable {p : Table Bell} {s t u : State} {b : Nat}

/-! ## A mains loss at the swing controller and the run -/

theorem keeps_lossUnit (h : KeepsTimed p t.bells) (i : Nat) : KeepsTimed p (lossUnit i t).bells := by
  unfold lossUnit
  dsimp only
  split
  · exact h
  · exact keeps_cancelStart (by rwa [stopUnit_bells, State.setUnit_bells]) i _

theorem keeps_lossSwing (h : KeepsTimed p t.bells) : KeepsTimed p (lossSwing t).bells :=
  keeps_each (fun i _ hu => keeps_lossUnit hu i) h _

/-! ## What becomes of a bell's hammer -/

/-- What may have become of a hammer at an instant: its pulse is the same, or it is in the recovery that begins then; its
recovery is the same, or it is over. -/
def HammerKept (now recovery : Nat) (g h : Hammer) : Prop :=
  (∀ ends sense, g = .pulse ends sense → (∃ sense', h = .pulse ends sense') ∨ h = .recovery (now + recovery)) ∧
    (∀ ends, g = .recovery ends → h = .recovery ends ∨ ends ≤ now)

/-- A bell's hammer in `t` is what may have become of its hammer in `s`. -/
def RecoveryKept (b : Nat) (s t : State) : Prop :=
  HammerKept t.now (t.bellRec b).recovery (s.bell b).hammer (t.bell b).hammer

theorem hammerKept_of_timed {now recovery : Nat} {g h : Hammer} (k : timed g = true → h = g) :
    HammerKept now recovery g h := by
  refine ⟨fun ends sense e => .inl ?_, fun ends e => .inl ?_⟩
  · subst e; exact ⟨sense, k rfl⟩
  · subst e; exact k rfl

theorem recoveryKept_of_keeps (k : KeepsTimed s.bells t.bells) : RecoveryKept b s t := hammerKept_of_timed (k b)

theorem recoveryKept_of_bells (e : t.bells = s.bells) : RecoveryKept b s t :=
  recoveryKept_of_keeps (by rw [e]; exact .refl _)

/-- A change that keeps the clock, the tables and every timed hammer keeps what became of a hammer. -/
theorem recoveryKept_then (h : RecoveryKept b s t) (now : u.now = t.now) (tables : u.tables = t.tables)
    (k : KeepsTimed t.bells u.bells) : RecoveryKept b s u := by
  have record : u.bellRec b = t.bellRec b := by unfold State.bellRec; rw [tables]
  obtain ⟨pulse, recovery⟩ := h
  have same (e : timed (t.bell b).hammer = true) : (u.bell b).hammer = (t.bell b).hammer := k b e
  unfold RecoveryKept HammerKept
  rw [now, record]
  refine ⟨fun ends sense e => ?_, fun ends e => ?_⟩
  · rcases pulse ends sense e with ⟨sense', pulses⟩ | recovers
    · exact .inl ⟨sense', by rw [same (by rw [pulses]; rfl), pulses]⟩
    · exact .inr (by rw [same (by rw [recovers]; rfl), recovers])
  · exact (recovery ends e).imp_left fun recovers => by rw [same (by rw [recovers]; rfl), recovers]

theorem recoveryKept_moves (h : RecoveryKept b s t) (m : Moves t u) (k : KeepsTimed t.bells u.bells) :
    RecoveryKept b s u :=
  recoveryKept_then h m.elapsed m.tables k

theorem recoveryKept_finish (h : RecoveryKept b s t) : RecoveryKept b s t.finish := by
  obtain ⟨u, m, -, e⟩ := t.finish_eq
  have link : t.finish = u.withLink u.pump.link := e.trans u.pump_eq
  have k : KeepsTimed t.bells u.bells := by
    have := keeps_finish (KeepsTimed.refl t.bells)
    rwa [link] at this
  rw [link]
  exact recoveryKept_then h m.elapsed m.tables k

/-- A hammer in PULSE is written as what may become of it. -/
theorem recoveryKept_setBell_of_pulse (h : RecoveryKept b s t) {j ends : Nat} {sense : Option Nat} {v : Bell}
    (pulses : (t.bell j).hammer = .pulse ends sense)
    (hv : (∃ sense', v.hammer = .pulse ends sense') ∨ v.hammer = .recovery (t.now + (t.bellRec j).recovery)) :
    RecoveryKept b s (t.setBell j v) := by
  obtain ⟨pulse, recovery⟩ := h
  unfold RecoveryKept HammerKept
  rw [State.now_setBell, State.bellRec_setBell, State.bell_setBell]
  split
  · subst j
    refine ⟨fun ends' sense' e => ?_, fun ends' e => ?_⟩
    · rcases pulse ends' sense' e with ⟨_, pulses'⟩ | recovers
      · rw [pulses] at pulses'; cases pulses'; exact hv
      · rw [pulses] at recovers; cases recovers
    · refine (recovery ends' e).elim (fun recovers => ?_) .inr
      rw [pulses] at recovers; cases recovers
  · exact ⟨pulse, recovery⟩

/-- A hammer in RECOVERY is written when its time is over. -/
theorem recoveryKept_setBell_of_over (e : t.bells = s.bells) {j ends : Nat} {v : Bell}
    (recovers : (t.bell j).hammer = .recovery ends) (isOver : ends ≤ t.now) : RecoveryKept b s (t.setBell j v) := by
  have same (i : Nat) : s.bell i = t.bell i := by unfold State.bell; rw [e]
  unfold RecoveryKept HammerKept
  rw [State.now_setBell, State.bell_setBell, same]
  split
  · subst j
    rw [recovers]
    refine ⟨nofun, fun _ k => ?_⟩
    cases k
    exact .inr isOver
  · exact hammerKept_of_timed fun _ => rfl

/-! ## The end of a pulse -/

theorem recoveryKept_pulseOver (h : RecoveryKept b s t) {j ends : Nat} {sense : Option Nat}
    (pulses : (t.bell j).hammer = .pulse ends sense) : RecoveryKept b s (t.pulseOver j) := by
  have set := recoveryKept_setBell_of_pulse h pulses
    (v := { t.bell j with hammer := .recovery (t.now + (t.bellRec j).recovery) }) (.inr rfl)
  have stale := recoveryKept_moves set (moves_discardStale (.refl _) j) (.refl _)
  unfold State.pulseOver
  dsimp only
  split
  · exact recoveryKept_moves stale (moves_post (moves_post (.refl _) _) _) (.refl _)
  · exact stale

theorem recoveryKept_pulseEnds (h : RecoveryKept b s t) {j ends : Nat} {sense : Option Nat}
    (pulses : (t.bell j).hammer = .pulse ends sense) : RecoveryKept b s (t.pulseEnds j) := by
  unfold State.pulseEnds
  refine recoveryKept_pulseOver (recoveryKept_moves h (moves_releaseAll (.refl _) _) ?_) (ends := ends) (sense := sense) ?_
  · rw [State.releaseAll, State.release_bells]; exact .refl _
  · unfold State.bell at pulses ⊢
    rwa [State.releaseAll, State.release_bells]

theorem recoveryKept_pulseEnd (j : Nat) : RecoveryKept b s (pulseEnd j s) := by
  unfold pulseEnd
  split
  · rename_i pulses
    exact recoveryKept_pulseEnds (recoveryKept_of_bells rfl) pulses
  · exact recoveryKept_of_bells rfl

theorem recoveryKept_recoveryEnd (j : Nat) : RecoveryKept b s (recoveryEnd j s) := by
  unfold recoveryEnd
  split
  · rename_i ends recovers
    have isOver : ends ≤ (s.runTo ends).now := by rw [State.now_runTo]; exact le_max_right _ _
    have idle : RecoveryKept b s ((s.runTo ends).setBell j { (s.runTo ends).bell j with hammer := .idle, held := none }) :=
      recoveryKept_setBell_of_over rfl recovers isOver
    dsimp only
    repeat' split
    · exact idle
    · refine recoveryKept_moves idle (moves_answerRefused (.refl _) _ _) ?_
      rw [answerRefused_bells]
      exact .refl _
    · refine recoveryKept_moves idle (moves_takeBlow (.refl _) _ _ _) (keeps_takeBlow (.refl _) ?_ _ _)
      rw [State.bell_setBell_self]
      rfl
  · exact recoveryKept_of_bells rfl

theorem recoveryKept_senseInstant (j : Nat) : RecoveryKept b s (senseInstant j s) := by
  unfold senseInstant
  split
  · rename_i ends instant pulses
    have set := recoveryKept_setBell_of_pulse (b := b) (recoveryKept_of_bells (t := s.runTo instant) rfl) pulses
      (v := { (s.runTo instant).bell j with hammer := .pulse ends none }) (.inl ⟨none, rfl⟩)
    refine recoveryKept_moves set (moves_queueConversion (.refl _) _) ?_
    rw [queueConversion_bells]
    exact .refl _
  · exact recoveryKept_of_bells rfl

/-! ## The coil check -/

theorem recoveryKept_setHammerFault (h : RecoveryKept b s t) (j : Nat) (f : HammerFault) (reading : Nat) :
    RecoveryKept b s (t.setHammerFault j f reading) := by
  have k := keeps_setHammerFault (.refl t.bells) j f reading
  unfold State.setHammerFault at k ⊢
  exact recoveryKept_then h (moves_refuseHeld (.refl _) j .fault).elapsed (moves_refuseHeld (.refl _) j .fault).tables k

theorem recoveryKept_setBell_same (h : RecoveryKept b s t) {j : Nat} {v : Bell} (hv : v.hammer = (t.bell j).hammer) :
    RecoveryKept b s (t.setBell j v) :=
  recoveryKept_then h rfl rfl (keeps_setBell (.refl _) fun _ => hv)

theorem recoveryKept_coilResult (h : RecoveryKept b s t) (j reading : Nat) :
    RecoveryKept b s (coilResult j reading t) := by
  have taken : RecoveryKept b s (t.setBell j { t.bell j with reading := some reading }) :=
    recoveryKept_setBell_same h rfl
  unfold coilResult
  generalize t.setBell j { t.bell j with reading := some reading } = r at taken
  have counted (n : Nat) : RecoveryKept b s (r.setBell j { r.bell j with opens := n }) :=
    recoveryKept_setBell_same taken rfl
  dsimp only
  repeat' split
  · exact taken
  · exact recoveryKept_setHammerFault (counted _) j .opened reading
  · exact counted _
  · rename_i ends sense pulses
    refine recoveryKept_pulseEnds (recoveryKept_setHammerFault taken j .short reading) (ends := ends) (sense := sense) ?_
    rw [← pulses]
    exact keeps_setHammerFault (.refl _) _ _ _ j (by unfold State.bell at pulses; rw [pulses]; rfl)
  · exact recoveryKept_setHammerFault taken _ _ _
  · exact counted _

theorem recoveryKept_conversionEnd (reading : Nat) : RecoveryKept b s (conversionEnd reading s) := by
  unfold conversionEnd
  split
  · exact recoveryKept_of_bells rfl
  · dsimp only
    split
    · exact recoveryKept_coilResult (recoveryKept_of_bells (by rw [beginConversion_bells]; rfl)) _ _
    · refine recoveryKept_of_bells ?_
      rw [lightResult_bells, beginConversion_bells]
      rfl

/-! ## A mains loss -/

theorem recoveryKept_lossHammer (h : RecoveryKept b s t) (j : Nat) : RecoveryKept b s (lossHammer j t) := by
  have refused : RecoveryKept b s (t.refuseHeld j .reserve) :=
    recoveryKept_moves h (moves_refuseHeld (.refl _) _ _) (keeps_refuseHeld (.refl _) _ _)
  unfold lossHammer
  dsimp only
  split
  · rename_i pulses
    exact recoveryKept_pulseOver refused pulses
  · rename_i waits
    have idle : RecoveryKept b s ((t.refuseHeld j .reserve).setBell j
        { (t.refuseHeld j .reserve).bell j with hammer := .idle }) :=
      recoveryKept_then refused rfl rfl (keeps_setBell (.refl _) fun k => by rw [waits] at k; cases k)
    refine recoveryKept_moves idle (moves_answerRefused (.refl _) _ _) ?_
    rw [answerRefused_bells]
    exact .refl _
  · exact refused

theorem recoveryKept_lossBells (h : RecoveryKept b s t) : RecoveryKept b s (lossBells t) := by
  unfold lossBells
  have struck : RecoveryKept b s (t.each bellNumbers lossHammer) :=
    each_keeps (P := RecoveryKept b s) (fun j _ hu => recoveryKept_lossHammer hu j) _ h
  generalize t.each bellNumbers lossHammer = r at struck ⊢
  exact recoveryKept_then struck rfl rfl (.refl _)

theorem recoveryKept_loseMains (h : RecoveryKept b s t) : RecoveryKept b s t.loseMains := by
  unfold State.loseMains
  refine recoveryKept_moves (recoveryKept_lossBells h) (u := lightLoss _)
    (moves_lightLoss (moves_converterLoss (moves_supplyLoss (moves_lossFloods (moves_lossDials (moves_lossRun
      (moves_lossSwing (moves_abortPlaying (.refl _) _ _)))))))) ?_
  rw [lightLoss_bells, converterLoss_bells, supplyLoss_bells, lossFloods_bells, lossDials_bells]
  refine keeps_hurryRun (keeps_lossSwing ?_) _
  rw [abortPlaying_bells]
  exact .refl _

theorem recoveryKept_setMains (h : RecoveryKept b s t) (mains : Mains) (settle : Option Nat) :
    RecoveryKept b s (t.setMains mains settle) := by
  have set : RecoveryKept b s (t.withPower { t.power with mains := mains, settle := settle }) :=
    recoveryKept_then h rfl rfl (.refl _)
  unfold State.setMains
  dsimp only
  repeat' split
  · exact set
  · exact recoveryKept_loseMains (recoveryKept_then set rfl rfl (.refl _))
  · exact recoveryKept_then set rfl rfl (.refl _)
  · exact recoveryKept_then set rfl rfl (.refl _)

theorem recoveryKept_mainsLineAbsent : RecoveryKept b s (mainsLineAbsent s) := by
  have line : RecoveryKept b s (s.withPower { s.power with linePresent := false }) := recoveryKept_of_bells rfl
  unfold mainsLineAbsent State.whenRunning
  dsimp only
  repeat' split
  · exact line
  · exact recoveryKept_setMains line _ _
  · exact line

theorem recoveryKept_mainsLinePresent : RecoveryKept b s (mainsLinePresent s) := by
  have line : RecoveryKept b s (s.withPower { s.power with linePresent := true }) := recoveryKept_of_bells rfl
  unfold mainsLinePresent State.whenRunning
  dsimp only
  repeat' split
  · exact recoveryKept_setMains line _ _
  · exact line
  · exact line

theorem recoveryKept_mainsSettleExpiry : RecoveryKept b s (mainsSettleExpiry s) := by
  have same : RecoveryKept b s s := recoveryKept_of_bells rfl
  unfold mainsSettleExpiry State.whenRunning
  dsimp only
  repeat' split
  · exact same
  · rename_i instant _
    exact recoveryKept_setMains (t := s.runTo instant) (recoveryKept_of_bells rfl) _ _
  · exact same

end Sys2Proof.Proofs
end

section
/-! SUPPORT. Every command keeps a hammer's recovery time (R58). -/
namespace Sys2Proof.Proofs

open Sys2Proof.Machine Sys2Proof.Claims

variable {s t : State} {b : Nat}

/-! ## Every command -/

theorem recoveryKept_command {f : State → State} (h : RecoveryKept b s (f s)) : RecoveryKept b s (command f s) := by
  unfold command
  split
  · exact recoveryKept_finish h
  · exact recoveryKept_of_bells rfl

theorem recoveryKept_readyCommand {f : State → State} (h : RecoveryKept b s (f s)) :
    RecoveryKept b s (readyCommand f s) := by
  unfold readyCommand
  split
  · exact recoveryKept_finish h
  · exact recoveryKept_of_bells rfl

theorem recoveryKept_frame (kind : Byte) (body : List Byte) :
    RecoveryKept b s (command (wholeFrame kind body) s) :=
  recoveryKept_command (recoveryKept_of_keeps (keeps_takeFrame (t := s.withLink (s.link.heard s.now)) (.refl _) kind body))

theorem recoveryKept_bytes (bytes : List RxByte) :
    RecoveryKept b s (bytes.foldl (fun t x => command (receiveByte x) t) s) :=
  recoveryKept_of_keeps
    (keeps_foldl (fun _ x h => keeps_command h (keeps_receiveByte h x)) (.refl _) bytes)

theorem loading_openLoading (cause : StartCause) (s : State) : (openLoading cause s).start.phase = .loading :=
  openObjects_keeps (P := fun t => t.start.phase = .loading) (fun _ _ _ _ _ h => h) rfl

theorem start_finish (s : State) : s.finish.start = s.start := by
  obtain ⟨t, m, -, e⟩ := s.finish_eq
  rw [e, t.pump_eq]
  exact m.start

/-- A frame's end opens LOADING, or touches the link alone. -/
theorem transmitFrameEnd_cases (s : State) :
    (transmitFrameEnd s).start.phase = .loading ∨ (transmitFrameEnd s).bells = s.bells := by
  unfold transmitFrameEnd State.sent
  repeat' split
  case h_2 => exact .inl (loading_openLoading _ _)
  all_goals exact .inr rfl

/-- The line's release opens LOADING, or touches the start alone. -/
theorem resetLineRelease_cases (s : State) :
    (resetLineRelease s).start.phase = .loading ∨ (resetLineRelease s).bells = s.bells := by
  unfold resetLineRelease
  dsimp only
  repeat' split
  · exact .inl (loading_openLoading _ _)
  · exact .inr rfl
  · exact .inr rfl

theorem powerOn_cases (retained : Bool) (s : State) :
    (powerOn retained s).start.phase = .loading ∨ (powerOn retained s).bells = s.bells := by
  unfold powerOn
  dsimp only
  repeat' split
  · exact .inr rfl
  · exact .inr rfl
  · exact .inl (loading_openLoading _ _)

theorem recoveryKept_of_loading_or_bells (h : t.start.phase = .loading ∨ t.bells = s.bells)
    (ready : t.start.phase = .ready) : RecoveryKept b s t := by
  rcases h with loading | same
  · rw [loading] at ready; cases ready
  · exact recoveryKept_of_bells same

theorem recoveryKept_transmitFrameEnd (ready : (command transmitFrameEnd s).start.phase = .ready) :
    RecoveryKept b s (command transmitFrameEnd s) := by
  unfold command at ready ⊢
  split at ready
  · rename_i running
    rw [start_finish] at ready
    rw [if_pos running]
    exact recoveryKept_finish (recoveryKept_of_loading_or_bells (transmitFrameEnd_cases s) ready)
  · rename_i stopped
    rw [if_neg stopped]
    exact recoveryKept_of_bells rfl

/-- A command leaves every hammer as what may have become of it, where it ends in READY. -/
theorem recoveryKept_exec (i : Instr) (s : State) :
    ∃ t, exec i s = .next t ∧ (t.start.phase = .ready → RecoveryKept b s t) := by
  cases i with
  | status | faults | clearfault | get | put | erase | list | save | restart | rate | settime | timeinfo | quiet
  | dayinfo | play | cancel | queue | ring | halt | peal | endpeal | dialset | dialstop | scene | override
  | floodinfo | lightinfo | supplyinfo | unknownKindFrame => exact ⟨_, rfl, fun _ => recoveryKept_frame _ _⟩
  | frameDiscarded bytes => exact ⟨_, rfl, fun _ => recoveryKept_bytes bytes⟩
  | transmitFrameEnd => exact ⟨_, rfl, recoveryKept_transmitFrameEnd⟩
  | resetLineHeld | supplyFailure => exact ⟨_, rfl, fun _ => recoveryKept_of_bells rfl⟩
  | resetLineRelease => exact ⟨_, rfl, recoveryKept_of_loading_or_bells (resetLineRelease_cases s)⟩
  | powerOn retained => exact ⟨_, rfl, recoveryKept_of_loading_or_bells (powerOn_cases retained s)⟩
  | loadingEnd =>
    exact ⟨_, rfl, fun _ => recoveryKept_command (recoveryKept_of_keeps (keeps_loadingEnd (.refl _)))⟩
  | pulseEnd j => exact ⟨_, rfl, fun _ => recoveryKept_readyCommand (recoveryKept_pulseEnd j)⟩
  | recoveryEnd j => exact ⟨_, rfl, fun _ => recoveryKept_readyCommand (recoveryKept_recoveryEnd j)⟩
  | senseInstant j => exact ⟨_, rfl, fun _ => recoveryKept_readyCommand (recoveryKept_senseInstant j)⟩
  | conversionEnd reading => exact ⟨_, rfl, fun _ => recoveryKept_readyCommand (recoveryKept_conversionEnd reading)⟩
  | mainsLineAbsent => exact ⟨_, rfl, fun _ => recoveryKept_finish recoveryKept_mainsLineAbsent⟩
  | mainsLinePresent => exact ⟨_, rfl, fun _ => recoveryKept_finish recoveryKept_mainsLinePresent⟩
  | mainsSettleExpiry => exact ⟨_, rfl, fun _ => recoveryKept_command recoveryKept_mainsSettleExpiry⟩
  | accessSwitchChange shows =>
    exact ⟨_, rfl, fun _ => recoveryKept_finish (recoveryKept_of_bells (accessSwitchChange_bells shows s))⟩
  | keySwitchChange shows =>
    exact ⟨_, rfl, fun _ => recoveryKept_finish (recoveryKept_of_bells (keySwitchChange_bells shows s))⟩
  | encoderEdge => exact ⟨_, rfl, fun _ => recoveryKept_command (recoveryKept_of_bells rfl)⟩
  | accessTimerExpiry | keyTimerExpiry | restrikeEnd =>
    exact ⟨_, rfl, fun _ => recoveryKept_command (recoveryKept_of_bells (by simp))⟩
  | reversal u => exact ⟨_, rfl, fun _ => recoveryKept_command (recoveryKept_of_keeps (keeps_reversal (.refl _) u))⟩
  | indexCrossing u =>
    exact ⟨_, rfl, fun _ => recoveryKept_command (recoveryKept_of_keeps (keeps_indexCrossing (.refl _) u))⟩
  | settleTimerExpiry u =>
    exact ⟨_, rfl, fun _ => recoveryKept_command (recoveryKept_of_keeps (keeps_settleTimerExpiry (.refl _) u))⟩
  | raiseLimitExpiry u =>
    exact ⟨_, rfl, fun _ => recoveryKept_readyCommand (recoveryKept_of_keeps (keeps_raiseLimitExpiry (.refl _) u))⟩
  | lowerLimitExpiry u =>
    exact ⟨_, rfl, fun _ => recoveryKept_readyCommand (recoveryKept_of_keeps (keeps_lowerLimitExpiry (.refl _) u))⟩
  | noTurnTimeout u =>
    exact ⟨_, rfl, fun _ => recoveryKept_readyCommand (recoveryKept_of_keeps (keeps_noTurnTimeout (.refl _) u))⟩
  | startStep => exact ⟨_, rfl, fun _ => recoveryKept_readyCommand (recoveryKept_of_keeps (keeps_startStep (.refl _)))⟩
  | pealEndInstant =>
    exact ⟨_, rfl, fun _ => recoveryKept_readyCommand (recoveryKept_of_keeps (keeps_pealEndInstant (.refl _)))⟩
  | stopStep => exact ⟨_, rfl, fun _ => recoveryKept_readyCommand (recoveryKept_of_keeps (keeps_stopStep (.refl _)))⟩
  | _ => exact ⟨_, rfl, fun _ => recoveryKept_readyCommand (recoveryKept_of_bells (by simp))⟩

/-- Settles O11: a command writes a hammer in PULSE or RECOVERY where its pulse is over or turned off, where it is sensed,
and where its recovery is over; no message writes one. -/
theorem recoveryTimeIsKept : Obligations.RecoveryTimeIsKept := by
  unfold Obligations.RecoveryTimeIsKept
  intro s t b _ stepped ready
  unfold step at stepped
  split at stepped
  · rename_i i rest _
    obtain ⟨u, runs, kept⟩ := recoveryKept_exec (b := b) i { s with pending := rest }
    rw [runs] at stepped
    cases stepped
    exact kept ready
  · cases stepped
    exact recoveryKept_of_bells (s := s) (t := s.clockTick) (b := b) rfl

end Sys2Proof.Proofs
end

section
/-! SUPPORT. The HAMMER CHECK group (R62). -/
namespace Sys2Proof.Proofs

open Sys2Proof.Machine Sys2Proof.Claims

theorem unpack_hammerCheck (oh ol sh sl : Byte) :
    unpack hammerRooms [oh, ol, sh, sl] = some [oh.toNat * 256 + ol.toNat, sh.toNat * 256 + sl.toNat] :=
  unpack_supply oh ol sh sl

theorem putValues_hammerCheck (v : List Nat) (s : State) :
    putValues 11 4 v s =
      ranged (readHammer v) (fun new s => (s.withTables { s.tables with hammerCheck := new }, .ok)) s := rfl

theorem readHammer_eq (opened short : Nat) :
    readHammer [opened, short] =
      if opened ≤ 1022 ∧ 1 ≤ short ∧ short ≤ 1023 ∧ opened < short then some { opened := opened, short := short }
      else none := by
  simp [readHammer, keepIf, within, and_assoc]

theorem putRequest_hammerCheck (oh ol sh sl : Byte) (s : State) :
    putRequest [11, 0, 4, oh, ol, sh, sl] s =
      plain (ranged (readHammer [oh.toNat * 256 + ol.toNat, sh.toNat * 256 + sl.toNat])
        (fun new s => (s.withTables { s.tables with hammerCheck := new }, .ok)) s) :=
  (putRequest_of_values (n := 11) (i := 4) rfl rfl rfl rfl (unpack_hammerCheck oh ol sh sl)).trans
    (congrArg plain (putValues_hammerCheck _ s))

/-- Settles O17: the two values are the record or are out of range. -/
theorem putHammerCheck : Obligations.PutHammerCheck := by
  unfold Obligations.PutHammerCheck
  intro oh ol sh sl s hs hn opened short
  have request := putRequest_hammerCheck oh ol sh sl (taken s)
  have read := readHammer_eq opened short
  refine ⟨fun inRange => exec_put hs hn ?_, fun bad => exec_put hs hn ?_, rfl⟩
  · rw [request, read, if_pos inRange]
    rfl
  · rw [request, read, if_neg bad]
    rfl

end Sys2Proof.Proofs
end

section
/-! SUPPORT. The hammers' timers, blow requests and withdrawals (R56-R62). -/
namespace Sys2Proof.Proofs

open Sys2Proof.Machine Sys2Proof.Claims

variable {s t : State} {b : Nat}

/-! ## The hammers' timers (R58, R62) -/

theorem bell_releaseAll (s : State) (c : Claimant) (b : Nat) : (s.releaseAll c).bell b = s.bell b := by
  unfold State.bell
  rw [releaseAll_bells]

/-- A pulse that ends by its own time or by a fault is done in the same way. -/
theorem pulseEnds_eq (b : Nat) (s : State) : s.pulseEnds b = pulseDone b s := by
  unfold State.pulseEnds State.pulseOver pulseDone
  dsimp only
  rw [bell_releaseAll]
  rfl

theorem pulseEnd_of_pulse {ends : Nat} {sense : Option Nat} (h : (s.bell b).hammer = .pulse ends sense) :
    pulseEnd b s = pulseDone b (s.runTo ends) := by
  unfold pulseEnd
  rw [h, ← pulseEnds_eq]

/-- The state in which a hammer has just become IDLE, its held blow taken out of its place. -/
def recovered (b ends : Nat) (s : State) : State :=
  (s.runTo ends).setBell b { (s.runTo ends).bell b with hammer := .idle, held := none }

theorem recoveryEnd_of_recovery {ends : Nat} (h : (s.bell b).hammer = .recovery ends) :
    recoveryEnd b s = match (s.bell b).held with
      | none => recovered b ends s
      | some (v, id) => match (recovered b ends s).refusal b id with
        | some r => (recovered b ends s).answerRefused b r
        | none => (recovered b ends s).takeBlow b v id := by
  unfold recoveryEnd
  rw [h]
  rfl

/-- A coil request queues behind the coil requests and before a light request (R148). -/
theorem joinConversions_coil (b : Nat) (l : List Conversion) :
    joinConversions (.coil b) l = l.takeWhile (· ≠ .light) ++ .coil b :: l.dropWhile (· ≠ .light) := by
  induction l with
  | nil => rfl
  | cons c l ih =>
    cases c with
    | light => rfl
    | coil a => exact congrArg (Conversion.coil a :: ·) ih

theorem senseInstant_of_pulse {ends instant : Nat} (h : (s.bell b).hammer = .pulse ends (some instant)) :
    senseInstant b s =
      ((s.runTo instant).setBell b { (s.runTo instant).bell b with hammer := .pulse ends none }).queueConversion
        (.coil b) := by
  unfold senseInstant
  rw [h]

/-! ## Blow requests and withdrawals (R56, R59) -/

theorem refusal_eq (s : State) (b id : Nat) :
    s.refusal b id = if (s.bell b).claim ≠ .struck id ∨ (s.bell b).releasing = true then some .notHeld
      else if (s.bell b).fault ≠ .none then some .fault
      else if s.power.access = .active then some .access
      else if s.mainsNormal = false then some .reserve else none := by
  unfold State.refusal State.accessClear
  dsimp only
  cases s.power.access <;> cases s.mainsNormal <;> rfl

theorem answerRefused_eq (s : State) (b : Nat) (r : Refused) :
    s.answerRefused b r = if r = .fault then s.blowFaulted b else s.blowEnds b := by
  cases r <;> rfl

theorem blowRequest_of_refusal {v : Velocity} {id : Nat} {r : Refused} (h : s.refusal b id = some r) :
    blowRequest b v id s = s.answerRefused b r := by
  unfold blowRequest
  rw [h]

theorem bell_blowTaken (s : State) (a b : Nat) : (s.blowTaken a).bell b = s.bell b := by
  unfold State.bell
  rw [blowTaken_bells]

theorem bellRec_blowTaken (s : State) (a b : Nat) : (s.blowTaken a).bellRec b = s.bellRec b := by
  unfold State.bellRec
  rw [(moves_blowTaken (.refl s) a).tables]

theorem blowRequest_of_idle {v : Velocity} {id : Nat} (h : s.refusal b id = none) (idle : (s.bell b).hammer = .idle) :
    blowRequest b v id s =
      ((s.blowTaken b).setBell b { s.bell b with hammer := .waiting v id }).request (.hammer b) (s.bellRec b).units := by
  unfold blowRequest State.takeBlow
  rw [h, idle]
  dsimp only
  rw [bell_blowTaken, bellRec_blowTaken]

theorem blowRequest_of_busy {v : Velocity} {id : Nat} (h : s.refusal b id = none) (busy : (s.bell b).hammer ≠ .idle) :
    blowRequest b v id s = (s.setBell b { s.bell b with held := some (v, id) }).blowTaken b := by
  unfold blowRequest
  rw [h]
  dsimp only
  split
  · rename_i idle; exact absurd idle busy
  · rfl

theorem held_iff {w : Bell} {id : Nat} : w.held.map Prod.snd = some id ↔ ∃ v, w.held = some (v, id) := by
  simp only [Option.map_eq_some_iff, Prod.exists, exists_eq_right]

theorem withdrawBlow_of_held {id : Nat} (h : ∃ v, (s.bell b).held = some (v, id)) :
    withdrawBlow b id s = (s.setBell b { s.bell b with held := none }).blowClipped b :=
  if_pos (held_iff.mpr h)

theorem withdrawBlow_of_waiting {id : Nat} (h : ¬∃ v, (s.bell b).held = some (v, id))
    (waits : ∃ v, (s.bell b).hammer = .waiting v id) :
    withdrawBlow b id s = ((s.setBell b { s.bell b with hammer := .idle }).withdraw (.hammer b)).blowClipped b := by
  obtain ⟨v, waits⟩ := waits
  refine (if_neg (mt held_iff.mp h)).trans ?_
  rw [waits]
  exact if_pos rfl

theorem withdrawBlow_of_neither {id : Nat} (h : ¬∃ v, (s.bell b).held = some (v, id))
    (stands : ¬∃ v, (s.bell b).hammer = .waiting v id) : withdrawBlow b id s = s.blowEnds b := by
  refine (if_neg (mt held_iff.mp h)).trans ?_
  split
  · rename_i v i waits
    exact if_neg fun e : i = id => stands ⟨v, e ▸ waits⟩
  · rfl

/-- Settles O38: each timer is its equation in the state it acts in, and a blow's answer is a branch of R56 or R59. -/
theorem hammerTimers : Obligations.HammerTimers := by
  unfold Obligations.HammerTimers
  refine ⟨fun b s ends sense hr pulses => ?pulse, fun b s ends hr recovers => ?recovery,
    fun b s ends instant hr pulses => ?sense, fun b v id s => ?request, fun b id s => ?withdrawal⟩
  case pulse => exact exec_of_ready rfl hr (pulseEnd_of_pulse pulses)
  case recovery =>
    intro t u
    have acts := recoveryEnd_of_recovery recovers
    refine ⟨fun none => exec_of_ready rfl hr ?_, fun v id held taken => exec_of_ready rfl hr ?_,
      fun v id r held refused => exec_of_ready rfl hr ?_⟩
    · rw [acts, none]; rfl
    · rw [acts, held]
      dsimp only
      rw [show (recovered b ends s).refusal b id = none from taken]
      rfl
    · rw [acts, held]
      dsimp only
      rw [show (recovered b ends s).refusal b id = some r from refused]
      rfl
  case sense =>
    intro t u
    refine exec_of_ready rfl hr ((senseInstant_of_pulse pulses).trans ?_)
    unfold State.queueConversion
    rw [joinConversions_coil]
  case request =>
    exact ⟨refusal_eq s b id, answerRefused_eq s b, fun r => blowRequest_of_refusal, fun taken =>
      ⟨blowRequest_of_idle taken, blowRequest_of_busy taken⟩⟩
  case withdrawal => exact ⟨withdrawBlow_of_held, withdrawBlow_of_waiting, withdrawBlow_of_neither⟩

end Sys2Proof.Proofs
end

section
/-! SUPPORT. The converter's instants and the coil checks (R63, R147, R151). -/
namespace Sys2Proof.Proofs

open Sys2Proof.Machine Sys2Proof.Claims

variable {s t : State} {b : Nat}

/-! ## Two writes of one object -/

theorem setBell_setBell (s : State) (b : Nat) (v w : Bell) : (s.setBell b v).setBell b w = s.setBell b w := by
  unfold State.setBell
  rw [State.withBells_bells, Table.put_put]
  rfl

theorem setUnit_setUnit (s : State) (u : Nat) (v w : SwingUnit) : (s.setUnit u v).setUnit u w = s.setUnit u w := by
  unfold State.setUnit
  rw [State.withUnits_units, Table.put_put]
  rfl

/-! ## The converter's two instants (R147, R151) -/

theorem sampleInstant_of_sample {instant : Nat} (h : s.light.sample = some instant) :
    sampleInstant s = (s.runTo instant).sampleNow := by
  unfold sampleInstant
  rw [h]

theorem sampleNow_eq (t : State) :
    let u := if t.converting .light then t else t.queueConversion .light
    t.sampleNow = u.withLight { u.light with sample := some (u.now + t.tables.light.interval * 1000) } := by
  intro u
  have now : u.now = t.now := by
    unfold u
    split
    · rfl
    · exact (moves_queueConversion (.refl t) .light).elapsed
  rw [now]
  rfl

/-- The state in which a conversion has ended: the converter begins the next one that waits. -/
def conversionOver (ends : Nat) (s : State) : State :=
  (s.runTo ends).withConverter (match s.converter.queue with
    | [] => { queue := [], inFlight := none }
    | q :: rest => { queue := rest, inFlight := some (q, (s.runTo ends).now + 1) })

theorem beginConversion_freed (ends : Nat) (s : State) :
    ((s.runTo ends).withConverter { s.converter with inFlight := none }).beginConversion = conversionOver ends s := by
  unfold State.beginConversion conversionOver
  dsimp only [State.withConverter_converter]
  cases s.converter.queue <;> rfl

theorem conversionEnd_of_coil {reading ends b : Nat} (h : s.converter.inFlight = some (.coil b, ends)) :
    conversionEnd reading s = coilResult b reading (conversionOver ends s) := by
  rw [← beginConversion_freed]
  unfold conversionEnd
  rw [h]
  rfl

theorem conversionEnd_of_light {reading ends : Nat} (h : s.converter.inFlight = some (.light, ends)) :
    conversionEnd reading s = lightResult reading (conversionOver ends s) := by
  rw [← beginConversion_freed]
  unfold conversionEnd
  rw [h]
  rfl

theorem lightResult_eq (r : Nat) (s : State) :
    lightResult r s = if 5 ≤ r ∧ r ≤ 1018 then goodLight r s else outLight r s := by
  unfold lightResult goodReading
  simp only [Bool.and_eq_true, decide_eq_true_eq]

/-! ## A coil reading (R63) -/

/-- What a fault leaves of a bell with the fields `w`: it is set and told, and a held blow is refused. -/
def coilFault (b reading : Nat) (w : Bell) (f : HammerFault) (t : State) : State :=
  let u := ((t.setBell b { w with fault := f, newMark := true }).notify (.faultBell b f reading w.claim)).post (.report b)
  if w.held.isSome then (u.setBell b { u.bell b with held := none }).blowFaulted b else u

theorem setHammerFault_eq (t : State) (b : Nat) (f : HammerFault) (reading : Nat) :
    t.setHammerFault b f reading = coilFault b reading (t.bell b) f t := by
  unfold State.setHammerFault State.refuseHeld coilFault
  simp only [State.bell_setBell_self, State.bell_post, State.bell_notify]
  cases (t.bell b).held <;> rfl

theorem coilFault_setBell (t : State) (b reading : Nat) (v w : Bell) (f : HammerFault) :
    coilFault b reading w f (t.setBell b v) = coilFault b reading w f t := by
  unfold coilFault
  rw [setBell_setBell]

/-- The five outcomes of a coil reading, the bell being written with its reading first. -/
theorem coilResult_eq (b reading : Nat) (s : State) :
    let w := { s.bell b with reading := some reading }
    let t := s.setBell b w
    coilResult b reading s =
      if w.fault ≠ .none then t
      else if reading < s.tables.hammerCheck.opened then
        if w.opens + 1 = 3 then coilFault b reading { w with opens := w.opens + 1 } .opened t
        else t.setBell b { w with opens := w.opens + 1 }
      else if s.tables.hammerCheck.short < reading then
        if w.hammer.pulses then pulseDone b (coilFault b reading w .short t) else coilFault b reading w .short t
      else t.setBell b { w with opens := 0 } := by
  intro w t
  unfold coilResult
  dsimp only
  rw [State.bell_setBell_self, setHammerFault_eq, setHammerFault_eq, State.bell_setBell_self, State.bell_setBell_self,
    coilFault_setBell, pulseEnds_eq]
  cases e : (s.bell b).hammer <;> simp only [w, t, e, Hammer.pulses] <;> rfl

/-- Settles O52: a sample or a conversion acts in the state of its instant, and a coil reading by the branches of R63. -/
theorem samplesAndReadings : Obligations.SamplesAndReadings := by
  unfold Obligations.SamplesAndReadings
  refine ⟨fun s instant hr sample => ?sample, fun s reading c ends hr flies => ?conversion, fun b reading s => ?coil⟩
  case sample => exact exec_of_ready rfl hr ((sampleInstant_of_sample sample).trans (sampleNow_eq _))
  case conversion =>
    cases c with
    | coil b => exact exec_of_ready rfl hr (conversionEnd_of_coil flies)
    | light => exact exec_of_ready rfl hr ((conversionEnd_of_light flies).trans (lightResult_eq _ _))
  case coil =>
    intro w t faulted
    have result := coilResult_eq b reading s
    refine ⟨fun fault => result.trans (if_pos fault), fun sound => ?_⟩
    have judged := result.trans (if_neg (not_not_intro sound))
    refine ⟨fun above below => ?_, fun under few => ?_, fun under two => ?_,
      fun above beyond => ⟨fun still => ?_, fun pulses => ?_⟩⟩
    · rw [judged, if_neg (Nat.not_lt.mpr above), if_neg (Nat.not_lt.mpr below)]
    · rw [judged, if_pos under, if_neg few]
    · have third : w.opens + 1 = 3 := congrArg (· + 1) two
      rw [judged, if_pos under, if_pos third, third]
      rfl
    · rw [judged, if_neg (Nat.not_lt.mpr above), if_pos beyond, still]
      rfl
    · rw [judged, if_neg (Nat.not_lt.mpr above), if_pos beyond, pulses]
      rfl

end Sys2Proof.Proofs
end

section
/-! SUPPORT. The release of bells, strikeable reports, and the end of a performance (R47, R50, R52, R82, R87, R89). -/
namespace Sys2Proof.Proofs

open Sys2Proof.Machine Sys2Proof.Claims

variable {s t : State} {b : Nat}

/-! ## The release of a bell (R50, R52) -/

theorem completeRelease_of_none (h : (s.bell b).pending = false) :
    completeRelease b s =
      (s.setBell b { s.bell b with releasing := false, pending := false, claim := .free }).post (.report b) := by
  unfold completeRelease
  dsimp only
  rw [h]

theorem completeRelease_of_pending {u : Nat} (h : (s.bell b).pending = true) (hu : s.unitOfBell b = some u) :
    completeRelease b s =
      (if !s.accessClear then (s.setBell b { s.bell b with releasing := false, pending := false, claim := .free }).post
          (.failed u .access)
        else if !s.mainsNormal then
          (s.setBell b { s.bell b with releasing := false, pending := false, claim := .free }).post (.failed u .reserve)
        else (s.setBell b { s.bell b with releasing := false, pending := false, claim := .swung u }).post
          (.handed u)).post (.report b) := by
  unfold completeRelease
  dsimp only
  rw [h, hu]

theorem releaseBell_eq (b : Nat) (t : State) :
    releaseBell b t = match (t.bell b).hammer with
      | .pulse _ _ => t.setBell b { t.bell b with releasing := true }
      | _ => completeRelease b t := by
  unfold releaseBell
  cases (t.bell b).hammer <;> rfl

/-! ## Strikeable reports (R47, R82) -/

theorem strikeable_iff (s : State) (b : Nat) :
    s.strikeable b = true ↔ (s.bellRec b).inUse = true ∧ (s.bellRec b).fitted = true ∧ (s.bellRec b).enabled = true ∧
      (s.bell b).fault = .none ∧ (s.bell b).claim = .free ∧ s.mainsNormal = true ∧ s.accessClear = true := by
  simp only [State.strikeable, Bool.and_eq_true, decide_eq_true_eq, and_assoc]

/-- With the player idle and a head, a report tries the head where it is blocked and waits for the bell. -/
theorem strikeableReport_of_head {p : Perf} (idle : s.chime.playing = none) (head : s.chime.queue.head? = some p) :
    strikeableReport b s =
      if p.blocked && s.strikeable b && (s.bellSet p).contains b then s.tryHead p else s := by
  unfold strikeableReport State.head
  rw [idle, head]

theorem strikeableReport_of_noHead (h : s.chime.playing ≠ none ∨ s.chime.queue = []) : strikeableReport b s = s := by
  unfold strikeableReport State.head
  split
  · rename_i p idle head
    rcases h with busy | empty
    · exact absurd idle busy
    · rw [empty] at head; cases head
  · rfl

theorem strikeableReport_of_other {p : Perf} (head : s.chime.queue.head? = some p)
    (h : p.blocked = false ∨ s.strikeable b = false ∨ b ∉ s.bellSet p) : strikeableReport b s = s := by
  cases idle : s.chime.playing with
  | some pl => exact strikeableReport_of_noHead (.inl (by rw [idle]; nofun))
  | none =>
    rw [strikeableReport_of_head idle head]
    refine if_neg fun tried => ?_
    simp only [Bool.and_eq_true, List.contains_eq_mem, decide_eq_true_eq, and_assoc] at tried
    obtain ⟨blocked, strikes, member⟩ := tried
    rcases h with free | silent | outside
    · rw [free] at blocked; cases blocked
    · rw [silent] at strikes; cases strikes
    · exact outside member

/-! ## Aborts and the release check (R87, R89) -/

theorem ended_iff {pl : Playing} : pl.ended = true ↔ ∃ r, pl.phase = .ending r := by
  unfold Playing.ended
  cases pl.phase <;> simp

theorem abortPlaying_of_idle {reason : EndReason} {id : Option Nat} (h : s.chime.playing = none) :
    abortPlaying reason id s = s := by
  unfold abortPlaying
  rw [h]

theorem endPlaying_of_playing {reason : EndReason} {pl : Playing} (h : s.chime.playing = some pl) :
    s.endPlaying reason = ((s.withChime { s.chime with playing := some { pl with phase := .ending reason } }).post
      (.release pl.bells pl.id)).post .releaseCheck := by
  unfold State.endPlaying State.setPlaying
  rw [h]
  rfl

theorem abortPlaying_of_playing {reason : EndReason} {id : Option Nat} {pl : Playing} (h : s.chime.playing = some pl) :
    abortPlaying reason id s = if pl.ended || id.any (· ≠ pl.id) then s else s.endPlaying reason := by
  unfold abortPlaying
  rw [h]

/-- The aborts that do nothing: the performance has ended, or another one is meant. -/
theorem abort_idle_iff {id : Option Nat} {pl : Playing} :
    (pl.ended || id.any (· ≠ pl.id)) = true ↔ (∃ r, pl.phase = .ending r) ∨ ∃ i, id = some i ∧ i ≠ pl.id := by
  rw [Bool.or_eq_true, ended_iff]
  cases id <;> simp

theorem releaseCheck_of_ending {pl : Playing} {p : Perf} {reason : EndReason} (h : s.chime.playing = some pl)
    (ending : pl.phase = .ending reason) (hp : s.playingPerf = some p) :
    releaseCheck s = if ∃ b ∈ pl.bells, (s.bell b).claim = .struck pl.id then s else
      ((s.leaveQueue pl.id).withChime { (s.leaveQueue pl.id).chime with playing := none }).notify
        (.ended p reason pl.started) := by
  unfold releaseCheck
  obtain ⟨id, run, tune, bells, started, marks, phase⟩ := pl
  subst ending
  rw [h, hp]
  refine if_congr ?_ rfl rfl
  simp only [List.any_eq_true, decide_eq_true_eq]

/-- Settles O40: each is its branch of R50, R82, R87 or R89. -/
theorem bellReleases : Obligations.BellReleases := by
  unfold Obligations.BellReleases
  refine ⟨fun b s => ?complete, fun bells id s => ?request, fun b s p => ?report, fun reason id s pl => ?abort,
    fun s pl p reason hpl ending hp => ?check⟩
  case complete =>
    intro free
    refine ⟨completeRelease_of_none, fun u pending hu => ?_⟩
    have completes := completeRelease_of_pending pending hu
    refine ⟨fun clear mains => ?_, fun active => ?_, fun clear lost => ?_⟩
    · rw [completes, clear, mains]; rfl
    · rw [completes, active]; rfl
    · rw [completes, clear, lost]; rfl
  case request =>
    intro struck ended waiting
    have released : releaseBell = fun b t => match (t.bell b).hammer with
        | .pulse _ _ => t.setBell b { t.bell b with releasing := true }
        | _ => completeRelease b t := funext fun b => funext (releaseBell_eq b)
    unfold releaseBells
    rw [released]
    rfl
  case report =>
    refine ⟨strikeable_iff s b, fun idle head blocked strikes member => ?_, strikeableReport_of_noHead,
      strikeableReport_of_other⟩
    rw [strikeableReport_of_head idle head, blocked, strikes, List.contains_iff_mem.mpr member]
    rfl
  case abort =>
    refine ⟨abortPlaying_of_idle, fun hpl => ⟨fun stands => ?_, fun plays mine => ?_⟩⟩
    · rw [abortPlaying_of_playing hpl, if_pos (abort_idle_iff.mpr stands)]
    · rw [abortPlaying_of_playing hpl, if_neg (mt abort_idle_iff.mp ?_), endPlaying_of_playing hpl]
      rintro (⟨r, ending⟩ | ⟨i, his, other⟩)
      · exact plays r ending
      · rcases mine with any | same
        · rw [any] at his; cases his
        · rw [same] at his; cases his; exact other rfl
  case check =>
    have checks := releaseCheck_of_ending hpl ending hp
    refine ⟨fun held => checks.trans (if_pos held), fun freed => checks.trans (if_neg ?_)⟩
    rintro ⟨b, member, claimed⟩
    exact freed b member claimed

end Sys2Proof.Proofs
end

section
/-! SUPPORT. The head of the strike queue: its due, its deadline and its start (R81, R83). -/
namespace Sys2Proof.Proofs

open Sys2Proof.Machine Sys2Proof.Claims

variable {s t : State}

/-! ## The head's due and its deadline (R81, R83) -/

theorem headDue_of_head {p : Perf} (idle : s.chime.playing = none) (head : s.chime.queue.head? = some p)
    (free : p.blocked = false) : headDue s = s.runTo p.due := by
  unfold headDue State.head
  rw [idle, head]
  dsimp only
  rw [free]
  rfl

theorem dueHead_runTo {p : Perf} (idle : s.chime.playing = none) (head : s.chime.queue.head? = some p)
    (free : p.blocked = false) : (s.runTo p.due).dueHead = some p := by
  have due : p.due ≤ (s.runTo p.due).now := by rw [State.now_runTo]; exact le_max_right _ _
  unfold State.dueHead State.head
  rw [State.runTo_chime, idle, head]
  dsimp only
  rw [free, decide_eq_true due]
  rfl

theorem startDeadline_of_waiting {id : Nat} {p : Perf} (found : s.chime.queue.find? (fun p => p.id = id) = some p)
    (waits : p.playing = false) : startDeadline id s = (s.runTo p.deadline).drop p .late := by
  unfold startDeadline
  rw [found]
  dsimp only
  rw [waits]
  rfl

/-! ## The start of the head (R81) -/

theorem tryHead_of_unusable {p : Perf} {reason : DropReason} (h : s.unusable p = some reason) :
    s.tryHead p = s.drop p reason := by
  unfold State.tryHead
  rw [h]

theorem tryHead_of_blocked {p : Perf} (h : s.unusable p = none) (blocked : (s.bellSet p).all s.strikeable = false) :
    s.tryHead p = s.withChime { s.chime with
      queue := s.chime.queue.map fun q => if q.id = p.id then { q with blocked := true } else q } := by
  unfold State.tryHead State.claimBells
  rw [h, blocked]
  rfl

/-- The record of a performance that starts. -/
def starting (p : Perf) : Perf := { p with playing := true, blocked := false, rep := 1, note := 0 }

/-- What the player holds of a performance that starts. -/
def newlyPlaying (s : State) (p : Perf) : Playing :=
  { id := p.id, run := (s.readRun p).1, tune := (s.readRun p).2, bells := s.bellSet p, started := s.now, marks := [],
    phase := .noteWait [] s.now true }

/-- The bells of a set are claimed for an id. -/
def claimed (id : Nat) (bells : List Nat) (s : State) : State :=
  s.each bells fun b t => t.setBell b { t.bell b with claim := .struck id }

/-- The state in which a start requests its first note. -/
def startState (s : State) (p : Perf) : State :=
  let t := claimed p.id (s.bellSet p) s
  (t.withChime { t.chime with
    queue := t.chime.queue.map fun q => if q.id = p.id then starting p else q
    playing := some (newlyPlaying s p) }).notify (.started (starting p))

theorem tryHead_of_strikeable {p : Perf} (h : s.unusable p = none) (strikes : (s.bellSet p).all s.strikeable = true) :
    s.tryHead p = (startState s p).requestNote := by
  unfold State.tryHead State.claimBells
  rw [h, strikes]
  rfl

/-- Claims touch the bells alone. -/
theorem claimed_eq (id : Nat) (bells : List Nat) (s : State) : ∃ t, claimed id bells s = s.withBells t :=
  each_setBell_eq bells (fun b t => { t.bell b with claim := .struck id }) s

theorem bell_claimed (id : Nat) (bells : List Nat) (s : State) (b : Nat) :
    (claimed id bells s).bell b = if b ∈ bells then { s.bell b with claim := .struck id } else s.bell b := by
  induction bells generalizing s with
  | nil => rfl
  | cons a l ih =>
    refine (ih (s.setBell a { s.bell a with claim := .struck id })).trans ?_
    rw [State.bell_setBell]
    by_cases same : a = b
    · subst a
      simp
    · rw [if_neg same]
      exact if_congr (by rw [List.mem_cons, or_iff_right (Ne.symm same)]) rfl rfl

theorem postAll_nil (s : State) : s.postAll [] = s := by
  unfold State.postAll
  rw [List.append_nil]
  rfl

theorem postAll_postAll (s : State) (l m : List Msg) : (s.postAll l).postAll m = s.postAll (l ++ m) := by
  unfold State.postAll
  rw [State.withAgenda_agenda, List.append_assoc]
  rfl

theorem foldl_post {α : Type} (f : α → Msg) (l : List α) (s : State) :
    l.foldl (fun t a => t.post (f a)) s = s.postAll (l.map f) := by
  induction l generalizing s with
  | nil => exact (postAll_nil s).symm
  | cons a l ih => exact (ih _).trans (postAll_postAll s [f a] (l.map f))

/-- A note's request with no bell marked: a blow of each of its bells. -/
theorem requestNote_of_noMarks {pl : Playing} {p : Perf} (hpl : s.chime.playing = some pl) (hp : s.playingPerf = some p)
    (marks : pl.marks = []) :
    s.requestNote = (s.withChime { s.chime with
      playing := some { pl with phase := .noteWait [] (s.now + s.tables.strike.noteWait) true } }).postAll
        (((s.noteInHand pl p).1.map fun b => .blow b (s.noteInHand pl p).2.1 p.id) ++ [.noteDealt]) := by
  unfold State.requestNote State.setPlaying
  rw [hpl, hp, ← postAll_postAll, ← foldl_post]
  obtain ⟨id, run, tune, bells, begun, _, phase⟩ := pl
  subst marks
  rfl

theorem playingPerf_startState {p : Perf} (head : s.chime.queue.head? = some p) :
    (startState s p).playingPerf = some (starting p) := by
  obtain ⟨bells, e⟩ := claimed_eq p.id (s.bellSet p) s
  unfold startState State.playingPerf
  rw [e]
  cases q : s.chime.queue with
  | nil => rw [q] at head; cases head
  | cons a l =>
    rw [q] at head
    cases head
    simp [q, starting]

/-- The bells and the velocity of a performance's first note. -/
def firstNote (s : State) (p : Perf) : List Nat × Velocity :=
  match p.args with
  | .tune n _ => ((s.noteRec (s.tuneRec n).first).bells, (s.noteRec (s.tuneRec n).first).velocity)
  | .strokes bell _ _ velocity => ([bell], velocity)

theorem noteInHand_starting (s : State) (p : Perf) :
    (s.noteInHand (newlyPlaying s p) (starting p)).1 = (firstNote s p).1 ∧
      (s.noteInHand (newlyPlaying s p) (starting p)).2.1 = (firstNote s p).2 := by
  obtain ⟨id, kind, args, origin, entry, due, deadline, playing, blocked, rep, note, lost, clipped⟩ := p
  cases args <;> exact ⟨rfl, rfl⟩

/-- A start: its queue, what the player holds, the bells of its set, and its messages. -/
theorem tryHead_started {p : Perf} (usable : s.unusable p = none) (strikes : (s.bellSet p).all s.strikeable = true)
    (head : s.chime.queue.head? = some p) :
    (s.tryHead p).chime.playing = some { newlyPlaying s p with
        phase := .noteWait [] (s.now + s.tables.strike.noteWait) true } ∧
      (s.tryHead p).chime.queue = s.chime.queue.map (fun q => if q.id = p.id then starting p else q) ∧
      (∀ b, (s.tryHead p).bell b = (claimed p.id (s.bellSet p) s).bell b) ∧
      (s.tryHead p).agenda = s.agenda ++ .notice (.started (starting p)) ::
        ((firstNote s p).1.map fun b => .blow b (firstNote s p).2 p.id) ++ [.noteDealt] := by
  obtain ⟨bells, onlyBells⟩ := claimed_eq p.id (s.bellSet p) s
  obtain ⟨noteBells, velocity⟩ := noteInHand_starting s p
  have request := (tryHead_of_strikeable usable strikes).trans
    (requestNote_of_noMarks rfl (playingPerf_startState head) rfl)
  rw [request, ← noteBells, ← velocity]
  unfold startState
  rw [onlyBells]
  refine ⟨rfl, rfl, fun _ => rfl, ?_⟩
  simp only [State.postAll_agenda, State.withChime_agenda, State.notify_agenda, State.withBells_agenda, List.append_assoc,
    List.cons_append, List.nil_append]
  rfl

/-- Settles O36: the start's outcome is its branch of R81, and the first note is requested with no bell marked. -/
theorem headOfTheQueue : Obligations.HeadOfTheQueue := by
  unfold Obligations.HeadOfTheQueue
  refine ⟨⟨fun s p hr idle head free => ?due, fun s id p hr found waits => ?deadline⟩, fun s p =>
    ⟨fun reason => tryHead_of_unusable, tryHead_of_blocked, fun usable strikes head => ?start⟩⟩
  case due => exact ⟨exec_of_ready rfl hr (headDue_of_head idle head free), dueHead_runTo idle head free⟩
  case deadline => exact exec_of_ready rfl hr (startDeadline_of_waiting found waits)
  case start =>
    intro t starts run first
    have sameRun : run = s.readRun p := by unfold run State.readRun; cases p.args <;> rfl
    have sameNote : first = firstNote s p := by unfold first firstNote; cases p.args <;> rfl
    obtain ⟨playing, queue, bells, agenda⟩ := tryHead_started usable strikes head
    rw [sameRun, sameNote]
    exact ⟨playing, queue, fun b => (bells b).trans (bell_claimed _ _ s b), agenda⟩

end Sys2Proof.Proofs
end

section
/-! SUPPORT. Entering FAULT, swing claims, starts, and entering RAISING (R51, R98, R99, R104). -/
namespace Sys2Proof.Proofs

open Sys2Proof.Machine Sys2Proof.Claims

variable {s t : State} {u b : Nat}

/-! ## What an object is read from -/

theorem unit_of_units (h : t.units = s.units) (u : Nat) : t.unit u = s.unit u := by
  unfold State.unit
  rw [h]

theorem bell_of_bells (h : t.bells = s.bells) (b : Nat) : t.bell b = s.bell b := by
  unfold State.bell
  rw [h]

theorem bellOfUnit_of_tables (h : t.tables = s.tables) (u : Nat) : t.bellOfUnit u = s.bellOfUnit u := by
  unfold State.bellOfUnit State.unitOfBell State.bellRec
  rw [h]

theorem swingRec_of_tables (h : t.tables = s.tables) (u : Nat) : t.swingRec u = s.swingRec u := by
  unfold State.swingRec
  rw [h]

/-! ## A unit's drive and its bell's claim (R55, R101) -/

theorem releaseAll_units (s : State) (c : Claimant) : (s.releaseAll c).units = s.units := State.release_units s c _

theorem cutDrive_of_idle (h : (s.unit u).drive = .idle) : s.cutDrive u = s := by
  unfold State.cutDrive
  dsimp only
  rw [h]

theorem cutDrive_of_waiting {dir : Dir} {window : Option Nat} {braking : Bool}
    (h : (s.unit u).drive = .waiting dir window braking) :
    s.cutDrive u = (s.setUnit u { s.unit u with drive := .idle }).withdraw (.swing u) := by
  unfold State.cutDrive
  dsimp only
  rw [h]

theorem cutDrive_of_impulse {dir : Dir} {ends : Nat} (h : (s.unit u).drive = .impulse dir ends) :
    s.cutDrive u = (s.setUnit u { s.unit u with drive := .idle }).releaseAll (.swing u) := by
  unfold State.cutDrive
  dsimp only
  rw [h]

/-- The drive is stopped, and nothing else of the units changes. -/
theorem unit_cutDrive (s : State) (u v : Nat) :
    (s.cutDrive u).unit v = if u = v then { s.unit u with drive := .idle } else s.unit v := by
  cases e : (s.unit u).drive with
  | idle =>
    rw [cutDrive_of_idle e]
    split
    · subst v; rw [← e]
    · rfl
  | waiting dir window braking =>
    rw [cutDrive_of_waiting e, unit_of_units (State.withdraw_units _ _), State.unit_setUnit]
  | impulse dir ends => rw [cutDrive_of_impulse e, unit_of_units (releaseAll_units _ _), State.unit_setUnit]

theorem moveClaim_of_bound (h : s.bellOfUnit u = some b) (c : Claim) :
    s.moveClaim u c = (s.setBell b { s.bell b with claim := c }).post (.report b) := by
  unfold State.moveClaim
  rw [h]

theorem moveClaim_of_unbound (h : s.bellOfUnit u = none) (c : Claim) : s.moveClaim u c = s := by
  unfold State.moveClaim
  rw [h]

theorem moveClaim_units (s : State) (u : Nat) (c : Claim) : (s.moveClaim u c).units = s.units := by
  cases h : s.bellOfUnit u with
  | none => rw [moveClaim_of_unbound h]
  | some b => rw [moveClaim_of_bound h]; rfl

/-! ## Entering FAULT (R104) -/

/-- A unit's fields in FAULT, its drive stopped. -/
def faultedUnit (w : SwingUnit) (f : UnitFault) : SwingUnit :=
  { w with
    drive := .idle, state := .fault, fault := f, newMark := true, ringEnd := none, raiseLimit := none, lowerLimit := none
    noTurn := none, settle := none, lowKind := none }

/-- A unit in FAULT before its notices: its fields, and its bell's claim. -/
def faulted (s : State) (u : Nat) (f : UnitFault) : State :=
  ((s.cutDrive u).setUnit u (faultedUnit (s.unit u) f)).moveClaim u (.swung u)

theorem unitNotice_eq (s : State) (u : Nat) (old : UnitState) (cause : UnitCause) :
    ∃ n : NoticeBody, s.unitNotice u old cause = s.notify n ∧ n.cls = 3 := ⟨_, rfl, rfl⟩

/-- A unit enters FAULT, and then the two notices go. -/
theorem enterFault_eq (s : State) (u : Nat) (f : UnitFault) :
    ∃ fault unit : NoticeBody, s.enterFault u f = ((faulted s u f).notify fault).notify unit ∧ fault.cls = 7 ∧
      unit.cls = 3 := by
  have own : (s.cutDrive u).unit u = { s.unit u with drive := .idle } := (unit_cutDrive s u u).trans (if_pos rfl)
  let fault : NoticeBody := .faultSwing u ((faulted s u f).bellOfUnit u) f ((faulted s u f).unit u).amplitude
  obtain ⟨unit, told, isUnit⟩ := unitNotice_eq ((faulted s u f).notify fault) u (s.unit u).state f.cause
  refine ⟨fault, unit, ?_, rfl, isUnit⟩
  rw [← told]
  unfold State.enterFault
  dsimp only
  rw [own]
  rfl

theorem unit_enterFault (s : State) (u : Nat) (f : UnitFault) (v : Nat) :
    (s.enterFault u f).unit v = if u = v then faultedUnit (s.unit u) f else s.unit v := by
  obtain ⟨_, _, e, -⟩ := enterFault_eq s u f
  rw [e, State.unit_notify, State.unit_notify, faulted, unit_of_units (moveClaim_units _ _ _), State.unit_setUnit]
  split
  · rfl
  · rename_i other
    rw [unit_cutDrive, if_neg other]

theorem claim_enterFault (s : State) (f : UnitFault) (h : s.bellOfUnit u = some b) :
    ((s.enterFault u f).bell b).claim = .swung u := by
  obtain ⟨_, _, e, -⟩ := enterFault_eq s u f
  have bound : ((s.cutDrive u).setUnit u (faultedUnit (s.unit u) f)).bellOfUnit u = some b :=
    (bellOfUnit_of_tables (moves_cutDrive (.refl s) u).tables u).trans h
  rw [e, State.bell_notify, State.bell_notify, faulted, moveClaim_of_bound bound, State.bell_post,
    State.bell_setBell_self]

/-! ## Swing claims (R51) -/

theorem claimSwing_of_free (h : s.bellOfUnit u = some b) (clear : s.accessClear = true) (mains : s.mainsNormal = true)
    (free : (s.bell b).claim = .free ∨ (s.bell b).claim = .settling u) :
    s.claimSwing u = ((s.setBell b { s.bell b with claim := .swung u }).post (.report b), .granted) := by
  unfold State.claimSwing
  rw [h, clear, mains]
  rcases free with e | e <;> simp [e]

theorem claimSwing_of_other {v : Nat} (h : s.bellOfUnit u = some b) (clear : s.accessClear = true)
    (mains : s.mainsNormal = true) (other : (s.bell b).claim = .swung v ∨ (s.bell b).claim = .settling v ∧ v ≠ u) :
    s.claimSwing u = (s, .inUse) := by
  unfold State.claimSwing
  rw [h, clear, mains]
  rcases other with e | ⟨e, differs⟩
  · simp [e]
  · simp [e, differs]

theorem claimSwing_of_struck {id : Nat} (h : s.bellOfUnit u = some b) (clear : s.accessClear = true)
    (mains : s.mainsNormal = true) (struck : (s.bell b).claim = .struck id) :
    s.claimSwing u = (s.setBell b { s.bell b with pending := true }, .pending) := by
  unfold State.claimSwing
  rw [h, clear, mains]
  simp [struck]

/-! ## A start (R98) -/

theorem rings_of_still {w : SwingUnit} (h : w.state = .rest ∨ w.state = .settling) : w.rings = false := by
  unfold SwingUnit.rings
  rcases h with e | e <;> rw [e] <;> rfl

/-- A unit with a bound bell, at rest or settling, to which no start is pending, access and mains allowing a start. -/
structure Startable (s : State) (u b : Nat) : Prop where
  bound : s.bellOfUnit u = some b
  clear : s.accessClear = true
  mains : s.mainsNormal = true
  still : (s.unit u).state = .rest ∨ (s.unit u).state = .settling
  free : (s.unit u).startPending = false

variable {owner : Owner} {p : Precedence} {minutes : Nat}

/-- A start refused before its unit is looked at, or because of its unit's state. -/
theorem startUnit_of_unbound (h : s.bellOfUnit u = none) : s.startUnit u owner p minutes = (s, .refused .noBell) := by
  simp [State.startUnit, h]

theorem startUnit_of_access (h : s.bellOfUnit u = some b) (active : s.accessClear = false) :
    s.startUnit u owner p minutes = (s, .refused .access) := by
  simp [State.startUnit, h, active]

theorem startUnit_of_reserve (h : s.bellOfUnit u = some b) (clear : s.accessClear = true)
    (lost : s.mainsNormal = false) : s.startUnit u owner p minutes = (s, .refused .reserve) := by
  simp [State.startUnit, h, clear, lost]

theorem startUnit_of_busy (h : s.bellOfUnit u = some b) (clear : s.accessClear = true) (mains : s.mainsNormal = true)
    (sound : (s.unit u).state ≠ .fault)
    (busy : (s.unit u).rings = true ∨ (s.unit u).state = .lowering ∨ (s.unit u).startPending = true) :
    s.startUnit u owner p minutes = (s, .refused .inUse) := by
  unfold State.startUnit
  dsimp only
  rw [h, clear, mains, if_neg (by simp), if_neg (by decide), if_neg (by decide), if_neg sound, if_pos busy]

/-- What a start makes of the answer to its swing claim request. -/
def startOnClaim (u : Nat) (owner : Owner) (p : Precedence) (minutes : Nat) : State × SwingAnswer → State × StartAnswer
  | (t, .granted) => (t.enterRaising u owner minutes .start, .started)
  | (t, .pending) =>
    let t := t.setUnit u { t.unit u with startPending := true, owner := some owner, minutes := minutes }
    let t := t.pendingNotice u none
    (match p with | .wait => t | .preempt => t.preempt u, .pending)
  | (t, .noBell) => (t, .refused .noBell)
  | (t, .access) => (t, .refused .access)
  | (t, .reserve) => (t, .refused .reserve)
  | (t, .inUse) => (t, .refused .inUse)

theorem startUnit_of_fault (h : s.bellOfUnit u = some b) (clear : s.accessClear = true) (mains : s.mainsNormal = true)
    (fault : (s.unit u).state = .fault) : s.startUnit u owner p minutes = (s, .refused .fault) := by
  simp [State.startUnit, h, clear, mains, fault]

theorem Startable.startUnit (h : Startable s u b) :
    s.startUnit u owner p minutes =
      if (s.unit u).referenced then startOnClaim u owner p minutes (s.claimSwing u) else (s, .refused .notReady) := by
  obtain ⟨bound, clear, mains, still, free⟩ := h
  have sound : (s.unit u).state ≠ .fault := by rcases still with e | e <;> rw [e] <;> decide
  have waits : ¬((s.unit u).rings = true ∨ (s.unit u).state = .lowering ∨ (s.unit u).startPending = true) := by
    rw [rings_of_still still, free]
    rcases still with e | e <;> rw [e] <;> decide
  unfold State.startUnit
  dsimp only
  rw [bound, clear, mains, if_neg (by simp), if_neg (by decide), if_neg (by decide), if_neg sound, if_neg waits]
  cases (s.unit u).referenced <;> rfl

theorem Startable.startUnit_of_unreferenced (h : Startable s u b) (lost : (s.unit u).referenced = false) :
    s.startUnit u owner p minutes = (s, .refused .notReady) := by
  rw [h.startUnit, lost]
  rfl

theorem Startable.startUnit_of_free (h : Startable s u b) (found : (s.unit u).referenced = true)
    (free : (s.bell b).claim = .free ∨ (s.bell b).claim = .settling u) :
    s.startUnit u owner p minutes = (((s.setBell b { s.bell b with claim := .swung u }).post
      (.report b)).enterRaising u owner minutes .start, .started) := by
  rw [h.startUnit, if_pos found, claimSwing_of_free h.bound h.clear h.mains free]
  rfl

theorem Startable.startUnit_of_other (h : Startable s u b) (found : (s.unit u).referenced = true) {v : Nat}
    (other : (s.bell b).claim = .swung v ∨ (s.bell b).claim = .settling v ∧ v ≠ u) :
    s.startUnit u owner p minutes = (s, .refused .inUse) := by
  rw [h.startUnit, if_pos found, claimSwing_of_other h.bound h.clear h.mains other]
  rfl

theorem preempt_of_struck {id : Nat} (h : s.bellOfUnit u = some b) (struck : (s.bell b).claim = .struck id) :
    s.preempt u = s.post (.abort .preempted (some id)) := by
  unfold State.preempt
  rw [h]
  dsimp only
  rw [struck]

theorem pendingNotice_of_bound (h : s.bellOfUnit u = some b) (failed : Option FailReason) :
    s.pendingNotice u failed = s.notify (.pending u (some b) failed) := by
  unfold State.pendingNotice
  rw [h]

/-- A start of a unit whose bell is STRUCK, made pending. -/
def pendingStart (s : State) (u b : Nat) (owner : Owner) (minutes : Nat) : State :=
  ((s.setBell b { s.bell b with pending := true }).setUnit u
    { s.unit u with startPending := true, owner := some owner, minutes := minutes }).notify (.pending u (some b) none)

theorem Startable.startUnit_of_struck (h : Startable s u b) (found : (s.unit u).referenced = true) {id : Nat}
    (struck : (s.bell b).claim = .struck id) :
    s.startUnit u owner p minutes = (match p with
      | .wait => pendingStart s u b owner minutes
      | .preempt => (pendingStart s u b owner minutes).post (.abort .preempted (some id)), .pending) := by
  have told : ((s.setBell b { s.bell b with pending := true }).setUnit u
      { s.unit u with startPending := true, owner := some owner, minutes := minutes }).pendingNotice u none =
      pendingStart s u b owner minutes := pendingNotice_of_bound (by exact h.bound) none
  have bound : (pendingStart s u b owner minutes).bellOfUnit u = some b := h.bound
  have claim : ((pendingStart s u b owner minutes).bell b).claim = .struck id := by
    unfold pendingStart
    rw [State.bell_notify, State.bell_setUnit, State.bell_setBell_self]
    exact struck
  rw [h.startUnit, found, claimSwing_of_struck h.bound h.clear h.mains struck]
  refine congrArg (·, StartAnswer.pending) ?_
  rw [← preempt_of_struck bound claim, ← told]
  rfl

/-! ## Entering RAISING (R99) -/

theorem askImpulse_of_idle {dir : Dir} {kick braking : Bool} (h : (s.unit u).drive = .idle) :
    s.askImpulse u dir kick braking =
      (s.setUnit u { s.unit u with
        drive := .waiting dir (if kick then none else some (s.now + (s.swingRec u).window)) braking }).request (.swing u)
        (s.swingRec u).units := by
  unfold State.askImpulse
  dsimp only
  rw [h]

theorem askImpulse_of_busy {dir : Dir} {kick braking : Bool} (h : (s.unit u).drive ≠ .idle) :
    s.askImpulse u dir kick braking = s := by
  unfold State.askImpulse
  dsimp only
  split
  · rename_i idle; exact absurd idle h
  · rfl

/-- A unit's fields in RAISING, its drive as it was. -/
def raisingUnit (s : State) (u : Nat) (owner : Owner) (minutes : Nat) : SwingUnit :=
  { s.unit u with
    state := .raising, startPending := false, owner := some owner, minutes := 0, settle := none
    ringEnd := if owner = .ring then some (s.now + minutes * 60000) else none
    raiseLimit := some (s.now + (s.swingRec u).raise * 1000) }

/-- A unit in RAISING is reported, whatever its drive does. -/
theorem unitNotice_raising {t : State} {old : UnitState} {cause : UnitCause} {drive : Drive}
    (tables : t.tables = s.tables) (h : t.unit u = { raisingUnit s u owner minutes with drive := drive }) :
    t.unitNotice u old cause = t.notify (.unit u (s.bellOfUnit u) old .raising cause (some owner)
      (s.unit u).amplitude (s.unit u).lowKind (s.unit u).fault) := by
  unfold State.unitNotice
  dsimp only
  rw [h, bellOfUnit_of_tables tables]
  rfl

theorem enterRaising_of_kick {cause : UnitCause} (idle : (s.unit u).drive = .idle)
    (kick : (s.unit u).state = .rest ∨ (s.unit u).turned = false) :
    s.enterRaising u owner minutes cause =
      ((s.setUnit u { raisingUnit s u owner minutes with drive := .waiting .positive none false }).request (.swing u)
        (s.swingRec u).units).notify (.unit u (s.bellOfUnit u) (s.unit u).state .raising cause (some owner)
          (s.unit u).amplitude (s.unit u).lowKind (s.unit u).fault) := by
  have asked : (s.setUnit u (raisingUnit s u owner minutes)).askImpulse u .positive true false =
      (s.setUnit u { raisingUnit s u owner minutes with drive := .waiting .positive none false }).request (.swing u)
        (s.swingRec u).units := by
    rw [askImpulse_of_idle (by rw [State.unit_setUnit_self]; exact idle), setUnit_setUnit, State.unit_setUnit_self]
    rfl
  refine Eq.trans ?_ (unitNotice_raising (State.request_tables _ _ _)
    ((unit_of_units (State.request_units _ _ _) u).trans (State.unit_setUnit_self _ _ _)))
  unfold State.enterRaising
  dsimp only
  rw [if_pos kick]
  exact congrArg (fun t => State.unitNotice t u (s.unit u).state cause) asked

theorem enterRaising_of_noKick {cause : UnitCause}
    (h : ¬((s.unit u).drive = .idle ∧ ((s.unit u).state = .rest ∨ (s.unit u).turned = false))) :
    s.enterRaising u owner minutes cause =
      (s.setUnit u (raisingUnit s u owner minutes)).notify (.unit u (s.bellOfUnit u) (s.unit u).state .raising cause
        (some owner) (s.unit u).amplitude (s.unit u).lowKind (s.unit u).fault) := by
  refine Eq.trans ?_ (unitNotice_raising (drive := (s.unit u).drive) rfl (State.unit_setUnit_self _ _ _))
  unfold State.enterRaising
  dsimp only
  split
  · rename_i kick
    rw [askImpulse_of_busy]
    · rfl
    · rw [State.unit_setUnit_self]
      exact fun idle => h ⟨idle, kick⟩
  · rfl

/-- Settles O43: each refusal, grant and entry is its equation. -/
theorem unitFaultAndStart : Obligations.UnitFaultAndStart := by
  unfold Obligations.UnitFaultAndStart
  refine ⟨fun s u f => ?fault, fun s u owner p minutes => ?start, fun s u owner minutes cause => ?raising⟩
  case fault =>
    intro t
    have own : t.unit u = faultedUnit (s.unit u) f := (unit_enterFault s u f u).trans (if_pos rfl)
    obtain ⟨_, _, e, isFault, isUnit⟩ := enterFault_eq s u f
    rw [own]
    refine ⟨rfl, rfl, rfl, rfl, rfl, rfl, rfl, rfl, fun v other => (unit_enterFault s u f v).trans (if_neg (Ne.symm other)),
      fun b => claim_enterFault s f, (faulted s u f).agenda, _, _, ?_, isFault, isUnit⟩
    rw [show t.agenda = _ from congrArg State.agenda e, State.notify_agenda, State.notify_agenda, List.append_assoc]
    rfl
  case start =>
    refine ⟨startUnit_of_unbound, fun b bound => ⟨startUnit_of_access bound, startUnit_of_reserve bound,
      startUnit_of_busy bound, fun clear mains still free => ?_⟩⟩
    have startable : Startable s u b := ⟨bound, clear, mains, still, free⟩
    exact ⟨startable.startUnit_of_unreferenced, fun found => ⟨startable.startUnit_of_free found,
      fun v => startable.startUnit_of_other found, fun id => startable.startUnit_of_struck found⟩⟩
  case raising =>
    intro w kick t
    by_cases kicked : kick
    · rw [if_pos kicked, enterRaising_of_kick kicked.1 kicked.2]
      unfold t
      simp only [if_pos kicked]
      rfl
    · rw [if_neg kicked, enterRaising_of_noKick kicked]
      unfold t
      simp only [if_neg kicked]
      rfl

end Sys2Proof.Proofs
end

section
/-! SUPPORT. RING and HALT (R107, R108). -/
namespace Sys2Proof.Proofs

open Sys2Proof.Machine Sys2Proof.Claims

variable {s t : State} {u b n minutes : Nat}

/-! ## Lowering a unit and cancelling its start (R102, R53) -/

theorem lowerUnit_eq (s : State) (u : Nat) (kind : LowKind) (cause : UnitCause) :
    s.lowerUnit u kind cause = (s.setUnit u { s.unit u with
      state := .lowering, lowKind := some kind, ringEnd := none, raiseLimit := none, noTurn := some (s.now + 10000)
      lowerLimit := if kind = .reserve then none else some (s.now + (s.swingRec u).lower * 1000) }).notify
        (.unit u (s.bellOfUnit u) (s.unit u).state .lowering cause (s.unit u).owner (s.unit u).amplitude (some kind)
          (s.unit u).fault) := by
  unfold State.lowerUnit State.unitNotice
  dsimp only
  rw [State.unit_setUnit_self]
  rfl

theorem stopUnit_of_rings {kind : LowKind} {cause : UnitCause} (h : (s.unit u).rings = true) :
    s.stopUnit u kind cause = (s.cutDrive u).lowerUnit u kind cause := if_pos h

theorem stopUnit_of_still {kind : LowKind} {cause : UnitCause} (h : (s.unit u).rings = false) :
    s.stopUnit u kind cause = s := by
  unfold State.stopUnit
  rw [h]
  rfl

theorem cancelStart_of_free {reason : FailReason} (h : (s.unit u).startPending = false) : s.cancelStart u reason = s := by
  unfold State.cancelStart
  rw [h]
  rfl

/-- A pending start whose bell is not handed over yet is cancelled, and told to have failed. -/
theorem cancelStart_of_pending {reason : FailReason} (h : (s.unit u).startPending = true) (bound : s.bellOfUnit u = some b)
    (pending : (s.bell b).pending = true) :
    s.cancelStart u reason = ((s.setBell b { s.bell b with pending := false }).setUnit u
      { s.unit u with startPending := false, owner := none, minutes := 0 }).notify (.pending u (some b) (some reason)) := by
  have cancelled : s.cancelPending u = (s.setBell b { s.bell b with pending := false }, true) := by
    unfold State.cancelPending
    rw [bound]
    exact if_pos pending
  unfold State.cancelStart
  rw [if_pos h, cancelled]
  exact pendingNotice_of_bound (by exact bound) (some reason)

/-- A pending start whose bell has been handed over goes on. -/
theorem cancelStart_of_handed {reason : FailReason} (h : (s.unit u).startPending = true)
    (handed : ∀ b, s.bellOfUnit u = some b → (s.bell b).pending = false) : s.cancelStart u reason = s := by
  have none : s.cancelPending u = (s, false) := by
    unfold State.cancelPending
    split
    · rename_i b bound
      rw [handed b bound]
      rfl
    · rfl
  unfold State.cancelStart
  rw [if_pos h, none]

/-- A cancelled start does nothing, or what a pending start's cancellation does. -/
theorem cancelStart_cases (s : State) (u : Nat) (reason : FailReason) :
    s.cancelStart u reason = s ∨ ∃ b, s.bellOfUnit u = some b ∧ (s.bell b).pending = true ∧
      (s.unit u).startPending = true := by
  cases free : (s.unit u).startPending with
  | false => exact .inl (cancelStart_of_free free)
  | true =>
    by_cases handed : ∀ b, s.bellOfUnit u = some b → (s.bell b).pending = false
    · exact .inl (cancelStart_of_handed free handed)
    · push Not at handed
      obtain ⟨b, bound, pending⟩ := handed
      exact .inr ⟨b, bound, Bool.of_not_eq_false pending, rfl⟩

theorem cutDrive_run (s : State) (u : Nat) : (s.cutDrive u).run = s.run := by
  cases e : (s.unit u).drive with
  | idle => rw [cutDrive_of_idle e]
  | waiting => rw [cutDrive_of_waiting e]; exact State.withdraw_run _ _
  | impulse => rw [cutDrive_of_impulse e]; exact State.release_run _ _ _

theorem stopUnit_run (s : State) (u : Nat) (kind : LowKind) (cause : UnitCause) :
    (s.stopUnit u kind cause).run = s.run := by
  cases e : (s.unit u).rings with
  | false => rw [stopUnit_of_still e]
  | true => rw [stopUnit_of_rings e, lowerUnit_eq]; exact cutDrive_run s u

theorem cancelStart_run (s : State) (u : Nat) (reason : FailReason) : (s.cancelStart u reason).run = s.run := by
  rcases cancelStart_cases s u reason with same | ⟨b, bound, pending, starts⟩
  · rw [same]
  · rw [cancelStart_of_pending starts bound pending]; rfl

/-! ## RING (R107) -/

theorem unpack_twoBytes (u v : Byte) : unpack [.bytes 1, .bytes 1] [u, v] = some [u.toNat, v.toNat] := by
  rw [unpack_of_noMarks rfl, ← beNat_one u, ← beNat_one v]
  rfl

theorem exec_ring {u minutes : Byte} {status : Status} {fields : List Byte} (hs : slotFree s)
    (h : ringBody [u.toNat, minutes.toNat] (taken s) = (t, status, fields)) :
    exec (.ring [u, minutes]) s = .next (answered 0x20 status fields t).finish :=
  frameCommand_answered (kind := 0x20) hs rfl rfl rfl (by decide) (by decide)
    ((fields_of_unpack (unpack_twoBytes u minutes) _).trans h)

theorem ringBody_of_outside (h : ¬(n < 6 ∧ 1 ≤ minutes ∧ minutes ≤ 240)) : ringBody [n, minutes] s = (s, .range, []) := by
  refine if_neg fun inside => h ?_
  simpa [within] using inside

theorem ringBody_of_request {status : Status} {pending : Bool} (hn : n < 6) (hl : 1 ≤ minutes) (hh : minutes ≤ 240)
    (h : ringRequest n minutes s = (t, status, pending)) :
    ringBody [n, minutes] s = (t, status, if status = .ok then [byte pending.toNat] else []) := by
  refine (if_pos (by simp [within, hn, hl, hh])).trans ?_
  rw [h]

theorem ringRequest_of_inRun (h : s.inRun n = true) : ringRequest n minutes s = (s, .inUse, false) := if_pos h

theorem ringRequest_of_start {answer : StartAnswer} (h : s.inRun n = false)
    (started : s.startUnit n .ring .wait minutes = (t, answer)) :
    ringRequest n minutes s = (t, answer.status, decide (answer = .pending)) := by
  unfold ringRequest
  rw [h, started]
  rfl

theorem refused_ne_ok (r : StartRefusal) : (StartAnswer.refused r).status ≠ .ok := by cases r <;> decide

/-- A refused RING is answered with no field. -/
theorem exec_ring_refused {u minutes : Byte} {status : Status} {pending : Bool} (hs : slotFree s) (hn : u.toNat < 6)
    (hl : 1 ≤ minutes.toNat) (hh : minutes.toNat ≤ 240)
    (h : ringRequest u.toNat minutes.toNat (taken s) = (taken s, status, pending)) (bad : status ≠ .ok) :
    exec (.ring [u, minutes]) s = .next (answered 0x20 status [] (taken s)).finish := by
  have answers := exec_ring hs (ringBody_of_request hn hl hh h)
  rwa [if_neg bad] at answers

/-- A RING whose start is granted is answered STARTED. -/
theorem exec_ring_started {u minutes : Byte} (hs : slotFree s) (hn : u.toNat < 6) (hl : 1 ≤ minutes.toNat)
    (hh : minutes.toNat ≤ 240) (free : s.inRun u.toNat = false)
    (h : (taken s).startUnit u.toNat .ring .wait minutes.toNat = (t, .started)) :
    exec (.ring [u, minutes]) s = .next (answered 0x20 .ok [0] t).finish :=
  exec_ring hs (ringBody_of_request hn hl hh (ringRequest_of_start (by exact free) h))

/-- A RING whose start waits for its bell is answered PENDING. -/
theorem exec_ring_pending {u minutes : Byte} (hs : slotFree s) (hn : u.toNat < 6) (hl : 1 ≤ minutes.toNat)
    (hh : minutes.toNat ≤ 240) (free : s.inRun u.toNat = false)
    (h : (taken s).startUnit u.toNat .ring .wait minutes.toNat = (t, .pending)) :
    exec (.ring [u, minutes]) s = .next (answered 0x20 .ok [1] t).finish :=
  exec_ring hs (ringBody_of_request hn hl hh (ringRequest_of_start (by exact free) h))

/-! ## HALT (R108) -/

theorem exec_halt {u : Byte} {status : Status} (hs : slotFree s) (h : haltBody [u.toNat] (taken s) = (t, status, [])) :
    exec (.halt [u]) s = .next (answered 0x21 status [] t).finish :=
  frameCommand_answered (kind := 0x21) hs rfl rfl rfl (by decide) (by decide)
    ((fields_of_unpack (unpack_oneByte u) _).trans h)

/-- HALT of a unit, and the run's mark where its start step is still to come. -/
theorem haltRequest_eq (s : State) (u : Nat) :
    let halted := (s.stopUnit u .normal .halt).cancelStart u .halt
    haltRequest u s =
      if s.run.state = .starting ∧ u ∈ (s.planRec s.run.plan).units.drop s.run.steps then
        halted.withRun { s.run with halted := s.run.halted ++ [u] }
      else halted := by
  intro halted
  have run : halted.run = s.run := (cancelStart_run _ u _).trans (stopUnit_run s u _ _)
  have tables : halted.tables = s.tables := (moves_cancelStart (moves_stopUnit (.refl s) u _ _) u _).tables
  have plan : halted.planRec s.run.plan = s.planRec s.run.plan := by unfold State.planRec; rw [tables]
  unfold haltRequest
  dsimp only
  rw [show s.haltUnit u .halt .halt = halted from rfl, run, plan]
  exact if_congr (and_congr_right fun _ => List.contains_iff_mem) rfl rfl

/-- Settles O44: RING's answer is its start's, HALT stops the unit and cancels its start, and each of these is its equation. -/
theorem ringAndHalt : Obligations.RingAndHalt := by
  unfold Obligations.RingAndHalt
  refine ⟨fun u minutes s hs => ?ring, fun u s hs => ?halt, fun s u kind cause reason => ?words⟩
  case ring =>
    intro n w refused
    refine ⟨fun outside => exec_ring hs (ringBody_of_outside outside), fun hn hl hh => ?_⟩
    have refuses (r : StartRefusal) (free : s.inRun n = false)
        (h : (taken s).startUnit n .ring .wait minutes.toNat = (taken s, .refused r)) :
        refused (StartAnswer.refused r).status :=
      exec_ring_refused hs hn hl hh (ringRequest_of_start (s := taken s) free h) (refused_ne_ok r)
    refine ⟨fun run => exec_ring_refused hs hn hl hh (ringRequest_of_inRun (s := taken s) run) (by decide),
      fun free unbound => refuses .noBell free (startUnit_of_unbound (by exact unbound)), fun b free bound => ?_⟩
    have bound : (taken s).bellOfUnit n = some b := bound
    refine ⟨fun active => refuses .access free (startUnit_of_access bound active),
      fun clear lost => refuses .reserve free (startUnit_of_reserve bound clear lost), fun clear mains => ⟨fun busy => ?_,
      fun still idle => ?_⟩⟩
    · by_cases fault : w.state = .fault
      · exact refuses .fault free (startUnit_of_fault bound clear mains fault)
      · exact refuses .inUse free (startUnit_of_busy bound clear mains fault (by tauto))
    · have startable : Startable (taken s) n b := ⟨bound, clear, mains, still, idle⟩
      exact ⟨fun lost => refuses .notReady free (startable.startUnit_of_unreferenced lost), fun found =>
        ⟨fun v other => refuses .inUse free (startable.startUnit_of_other found other),
          fun granted => exec_ring_started hs hn hl hh free (startable.startUnit_of_free found granted),
          fun id struck => exec_ring_pending hs hn hl hh free (startable.startUnit_of_struck found struck)⟩⟩
  case halt =>
    intro n halted
    refine ⟨fun outside => exec_halt hs (if_neg (Nat.not_lt.mpr outside)), fun hn => ?_⟩
    have halts : haltBody [n] (taken s) = (haltRequest n (taken s), .ok, []) := if_pos hn
    have request := haltRequest_eq (taken s) n
    exact ⟨fun comes => exec_halt hs (halts.trans (congrArg (·, Status.ok, []) (request.trans (if_pos comes)))),
      fun past => exec_halt hs (halts.trans (congrArg (·, Status.ok, []) (request.trans (if_neg past))))⟩
  case words =>
    exact ⟨cutDrive_of_idle, fun _ _ _ => cutDrive_of_waiting, fun _ _ => cutDrive_of_impulse, stopUnit_of_rings,
      stopUnit_of_still, lowerUnit_eq s u kind cause, cancelStart_of_free, fun b => cancelStart_of_pending,
      cancelStart_of_handed⟩

end Sys2Proof.Proofs
end

section
/-! SUPPORT. What a claimant does with its grant (R57, R101, R120, R136, R138). -/
namespace Sys2Proof.Proofs

open Sys2Proof.Machine Sys2Proof.Claims

variable {s : State} {b d u c id units : Nat}

/-! ## A blow's grant (R57) -/

/-- The bell is STRUCK with the blow's id, and its release is not asked for. -/
def holds (s : State) (b id : Nat) : Prop := (s.bell b).claim = .struck id ∧ (s.bell b).releasing = false

theorem refusal_of_notHeld (h : ¬holds s b id) : s.refusal b id = some .notHeld := by
  refine if_pos ?_
  by_contra both
  push Not at both
  exact h ⟨both.1, Bool.eq_false_iff.mpr both.2⟩

theorem refusal_of_held (h : holds s b id) :
    s.refusal b id = if (s.bell b).fault ≠ .none then some .fault
      else if !s.accessClear then some .access else if !s.mainsNormal then some .reserve else none := by
  refine if_neg ?_
  rw [not_or, not_not, Bool.not_eq_true]
  exact h

theorem hammerGranted_of_refusal {v : Velocity} {r : Refused} (h : (s.bell b).hammer = .waiting v id)
    (refused : s.refusal b id = some r) :
    hammerGranted b units s =
      ((s.setBell b { s.bell b with hammer := .idle }).release (.hammer b) units).answerRefused b r := by
  unfold hammerGranted
  rw [h]
  dsimp only
  rw [refused]

theorem hammerGranted_of_taken {v : Velocity} (h : (s.bell b).hammer = .waiting v id)
    (taken : s.refusal b id = none) :
    hammerGranted b units s = (s.setBell b { s.bell b with
      hammer := .pulse (s.now + (s.bellRec b).width v)
        (if (s.bellRec b).coilCheck then some (s.now + (s.bellRec b).width v / 2) else none) }).blowEnds b := by
  unfold hammerGranted
  rw [h]
  dsimp only
  rw [taken]

/-! ## A dial's grant (R120) and a drive impulse's (R101) -/

theorem dialGranted_of_waiting {again : Bool} (h : (s.dial d).drive = .waiting again) :
    dialGranted d units s =
      if s.mainsNormal && (s.dialRec d).inUse then
        s.setDial d { s.dial d with
          inFlight := true, last := (s.dial d).next, drive := .impulse again (s.now + (s.dialRec d).width)
          spacing := some (s.now + (s.dialRec d).catchUp * 1000) }
      else (s.setDial d { s.dial d with drive := .idle }).release (.dial d) units := by
  unfold dialGranted
  dsimp only
  rw [h]

theorem dialGranted_of_other (h : ∀ again, (s.dial d).drive ≠ .waiting again) :
    dialGranted d units s = s.release (.dial d) units := by
  unfold dialGranted
  dsimp only
  split
  · rename_i again waits; exact absurd waits (h again)
  · rfl

theorem swingGranted_of_waiting {dir : Dir} {window : Option Nat} {braking : Bool}
    (h : (s.unit u).drive = .waiting dir window braking) :
    swingGranted u units s =
      if s.accessClear && s.mainsNormal && (s.unit u).wants (s.swingRec u) braking then
        s.setUnit u { s.unit u with drive := .impulse dir (s.now + (s.swingRec u).width) }
      else (s.setUnit u { s.unit u with drive := .idle }).release (.swing u) units := by
  unfold swingGranted
  dsimp only
  rw [h]

theorem swingGranted_of_other (h : ∀ dir window braking, (s.unit u).drive ≠ .waiting dir window braking) :
    swingGranted u units s = s.release (.swing u) units := by
  unfold swingGranted
  dsimp only
  split
  · rename_i dir window braking waits; exact absurd waits (h dir window braking)
  · rfl

/-- The state that a granted impulse needs. -/
theorem wants_iff (w : SwingUnit) (r : SwingRec) (braking : Bool) :
    w.wants r braking = true ↔ if braking then w.state = .lowering ∧ w.lowKind = some .normal ∧ r.brake = .counter
      else w.state = .raising ∨ w.state = .swinging := by
  unfold SwingUnit.wants
  cases braking <;> simp [and_assoc]

/-! ## A circuit's grant (R136, R138) -/

theorem changeCircuit_of_change {w : Circuit} {cause : FloodCause} (h : (s.circuit c).state ≠ w.state) :
    s.changeCircuit c w cause units = (s.setCircuit c w).notify
      (.flood c (s.circuit c).state w.state cause w.demand w.source (w.output (s.circuitRec c).kind) units) := by
  unfold State.changeCircuit State.floodNotice
  dsimp only
  rw [if_neg h, State.circuit_setCircuit_self]
  rfl

section
variable {w : Circuit} {r : CircuitRec}

theorem floodGranted_of_switched (hw : s.circuit c = w) (hr : s.circuitRec c = r) (kind : r.kind = .switched)
    (waits : w.state = .waiting) :
    floodGranted c units s =
      if s.mainsNormal && decide (1 ≤ w.demand) then
        if r.warmUp = 0 then
          (s.moveCircuit c { w with state := .warming, timer := some (s.now + r.warmUp * 1000) } .grant).warmed c
        else s.moveCircuit c { w with state := .warming, timer := some (s.now + r.warmUp * 1000) } .grant
      else (s.changeCircuit c { w with state := .off } .grant (s.held (.flood c) - units)).release (.flood c) units := by
  unfold floodGranted
  rw [hw, hr]
  dsimp only
  rw [kind, waits]

theorem floodGranted_of_dimmed (hw : s.circuit c = w) (hr : s.circuitRec c = r) (kind : r.kind = .dimmed)
    (waits : w.state = .waiting) :
    floodGranted c units s =
      if s.mainsNormal then (s.moveCircuit c { w with state := .on } .grant).retarget c w.target .grant
      else (s.changeCircuit c { w with state := .off } .grant (s.held (.flood c) - units)).release (.flood c) units := by
  unfold floodGranted
  rw [hw, hr]
  dsimp only
  rw [kind, waits]

theorem floodGranted_of_dimmedOn (hw : s.circuit c = w) (hr : s.circuitRec c = r) (kind : r.kind = .dimmed)
    (on : w.state = .on) :
    floodGranted c units s =
      if s.mainsNormal then s.retarget c w.target .grant else s.release (.flood c) units := by
  unfold floodGranted
  rw [hw, hr]
  dsimp only
  rw [kind, on]

theorem floodGranted_of_other (hw : s.circuit c = w) (hr : s.circuitRec c = r) (awake : w.state ≠ .waiting)
    (other : r.kind = .switched ∨ w.state ≠ .on) : floodGranted c units s = s.release (.flood c) units := by
  unfold floodGranted
  rw [hw, hr]
  dsimp only
  split
  · rename_i waits; exact absurd waits awake
  · rename_i waits; exact absurd waits awake
  · rename_i kind on
    rcases other with switched | off
    · rw [switched] at kind; cases kind
    · exact absurd on off
  · rfl

end

/-- A circuit in WARMING is ON, with its surge units less the rated ones released. -/
theorem warmed_of_warming (h : (s.circuit c).state = .warming) (kind : (s.circuitRec c).kind = .switched) :
    s.warmed c = ((s.setCircuit c { s.circuit c with state := .on, timer := none }).notify
      (.flood c .warming .on .warmed (s.circuit c).demand (s.circuit c).source 100
        (s.held (.flood c) - ((s.circuitRec c).surge - (s.circuitRec c).rated)))).release (.flood c)
          ((s.circuitRec c).surge - (s.circuitRec c).rated) := by
  unfold State.warmed
  dsimp only
  rw [changeCircuit_of_change (by rw [h]; exact nofun), h, kind]
  rfl

/-- Settles O39: what each claimant does with granted units is the branch of its state. -/
theorem grants : Obligations.Grants := by
  unfold Obligations.Grants
  refine ⟨fun b units s v id waits => ?hammer, fun d units s => ?dial, fun u units s => ?swing, fun c units s => ?flood⟩
  case hammer =>
    intro width
    have sameWidth : width = (s.bellRec b).width v := by cases v <;> rfl
    have judged := refusal_of_held (s := s) (b := b) (id := id)
    refine ⟨fun struck stays sound clear mains => ?_, ?_⟩
    · rw [sameWidth]
      refine hammerGranted_of_taken waits ?_
      rw [judged ⟨struck, stays⟩, if_neg (not_not_intro sound), clear, mains]
      rfl
    · intro mine back
      have refuse (r : Refused) (h : s.refusal b id = some r) : back r := hammerGranted_of_refusal waits h
      exact ⟨fun lost => refuse .notHeld (refusal_of_notHeld lost),
        fun held fault => refuse .fault (by rw [judged held, if_pos fault]),
        fun held sound active => refuse .access (by rw [judged held, if_neg (not_not_intro sound), active]; rfl),
        fun held sound clear lost =>
          refuse .reserve (by rw [judged held, if_neg (not_not_intro sound), clear, lost]; rfl)⟩
  case dial =>
    refine ⟨fun again waits => ⟨fun mains used => ?_, fun idle => ?_⟩, dialGranted_of_other⟩
    · rw [dialGranted_of_waiting waits, mains, used]
      rfl
    · rw [dialGranted_of_waiting waits, if_neg]
      rcases idle with lost | unused <;> simp [*]
  case swing =>
    refine ⟨fun dir window braking waits => ?_, swingGranted_of_other⟩
    intro allowed
    have iff : (s.accessClear && s.mainsNormal && (s.unit u).wants (s.swingRec u) braking) = true ↔ allowed := by
      rw [Bool.and_eq_true, Bool.and_eq_true, wants_iff, and_assoc]
    exact ⟨fun yes => (swingGranted_of_waiting waits).trans (if_pos (iff.mpr yes)),
      fun no => (swingGranted_of_waiting waits).trans (if_neg (mt iff.mp no))⟩
  case flood =>
    intro w r held back surplus
    have hw : s.circuit c = w := rfl
    have hr : s.circuitRec c = r := rfl
    refine ⟨fun kind waits => ?_, fun kind waits => ?_, fun kind on mains => ?_, fun kind on lost => ?_,
      floodGranted_of_other hw hr⟩
    · intro warm warming
      have moves : s.moveCircuit c warm .grant = warming := by
        unfold State.moveCircuit
        rw [changeCircuit_of_change (by rw [hw, waits]; exact nofun), hw, hr, waits, kind]
        rfl
      have granted := floodGranted_of_switched (units := units) hw hr kind waits
      rw [show s.moveCircuit c { w with state := .warming, timer := some (s.now + r.warmUp * 1000) } .grant = warming
        from moves] at granted
      refine ⟨fun mains on slow => ?_, fun mains on quick => ?_, fun idle => ?_⟩
      · rw [granted, mains, decide_eq_true on, if_neg slow]
        rfl
      · have now : warming.circuit c = warm := State.circuit_setCircuit_self _ _ _
        rw [granted, mains, decide_eq_true on, if_pos quick, warmed_of_warming (s := warming) (by rw [now]) kind, now]
        rfl
      · rw [granted, if_neg, changeCircuit_of_change (by rw [hw, waits]; exact nofun), hw, hr, waits, kind]
        · rfl
        · rcases idle with lost | off <;> simp [*]
    · have granted := floodGranted_of_dimmed (units := units) hw hr kind waits
      refine ⟨fun mains => ?_, fun lost => ?_⟩
      · unfold State.moveCircuit at granted
        rw [granted, mains, changeCircuit_of_change (by rw [hw, waits]; exact nofun), hw, hr, waits, kind]
        rfl
      · rw [granted, lost, changeCircuit_of_change (by rw [hw, waits]; exact nofun), hw, hr, waits, kind]
        rfl
    · rw [floodGranted_of_dimmedOn hw hr kind on, mains]
      rfl
    · rw [floodGranted_of_dimmedOn hw hr kind on, lost]
      rfl

end Sys2Proof.Proofs
end

section
/-! SUPPORT. FAULTS and CLEARFAULT (R192). -/
namespace Sys2Proof.Proofs

open Sys2Proof.Machine Sys2Proof.Claims

variable {s t : State} {u b : Nat}

/-! ## A change of each object of a list -/

/-- A change of each object of a list that holds none twice, where a change of another object leaves what is seen of one as it
is: its own change acts on a state that shows it as it stands at first, and leaves it as it stands in the end. -/
theorem view_each {V : Type} (view : Nat → State → V) {f : Nat → State → State}
    (apart : ∀ i j t, i ≠ j → view j (f i t) = view j t) {l : List Nat} (distinct : l.Nodup) {i : Nat} (h : i ∈ l)
    (s : State) : ∃ t, view i t = view i s ∧ view i (s.each l f) = view i (f i t) := by
  induction l generalizing s with
  | nil => cases h
  | cons j l ih =>
    obtain ⟨alone, rest⟩ := List.nodup_cons.mp distinct
    rcases List.mem_cons.mp h with rfl | later
    · refine ⟨s, rfl, ?_⟩
      have kept : ∀ t, view i (t.each l f) = view i t := by
        intro t
        clear ih rest distinct h
        induction l generalizing t with
        | nil => rfl
        | cons k l ih =>
          have other : k ≠ i := fun e => alone (e ▸ List.mem_cons_self)
          exact (ih (fun m => alone (List.mem_cons_of_mem _ m)) (f k t)).trans (apart k i t other)
      exact kept _
    · obtain ⟨t, seen, acts⟩ := ih rest later (f j s)
      have other : j ≠ i := fun e => alone (e ▸ later)
      exact ⟨t, seen.trans (apart j i s other), acts⟩

/-! ## FAULTS (R192) -/

theorem bell_each_write {g : Bell → Bell} (hb : b < 16) (s : State) :
    (s.each bellNumbers fun b t => t.setBell b (g (t.bell b))).bell b = g (s.bell b) := by
  obtain ⟨t, seen, acts⟩ := view_each (fun b t => t.bell b) (f := fun b t => t.setBell b (g (t.bell b)))
    (fun i j t other => (State.bell_setBell ..).trans (if_neg other)) List.nodup_range (List.mem_range.mpr hb) s
  exact acts.trans ((State.bell_setBell_self ..).trans (congrArg g seen))

theorem unit_each_write {g : SwingUnit → SwingUnit} (hu : u < 6) (s : State) :
    (s.each unitNumbers fun u t => t.setUnit u (g (t.unit u))).unit u = g (s.unit u) := by
  obtain ⟨t, seen, acts⟩ := view_each (fun u t => t.unit u) (f := fun u t => t.setUnit u (g (t.unit u)))
    (fun i j t other => (State.unit_setUnit ..).trans (if_neg other)) List.nodup_range (List.mem_range.mpr hu) s
  exact acts.trans ((State.unit_setUnit_self ..).trans (congrArg g seen))

/-- The new marks' clearing writes the bells, the units and the light monitor, and each loses its mark alone. -/
theorem clearNewMarks_eq (s : State) :
    ∃ bells units, s.clearNewMarks = ((s.withBells bells).withUnits units).withLight { s.light with newMark := false } ∧
      (∀ b < 16, (s.withBells bells).bell b = { s.bell b with newMark := false }) ∧
      ∀ u < 6, ((s.withBells bells).withUnits units).unit u = { s.unit u with newMark := false } := by
  obtain ⟨bells, hb⟩ := each_setBell_eq bellNumbers (fun b t => { t.bell b with newMark := false }) s
  obtain ⟨units, hu⟩ := each_setUnit_eq unitNumbers (fun u t => { t.unit u with newMark := false }) (s.withBells bells)
  refine ⟨bells, units, ?_, fun b lt => ?_, fun u lt => ?_⟩
  · unfold State.clearNewMarks
    dsimp only
    rw [hb, hu]
    rfl
  · rw [← hb]
    exact bell_each_write (g := fun w => { w with newMark := false }) lt s
  · rw [← hu]
    exact unit_each_write (g := fun w => { w with newMark := false }) lt (s.withBells bells)

theorem newFaults_of_cleared (bells : ∀ b < 16, (s.bell b).newMark = false) (units : ∀ u < 6, (s.unit u).newMark = false)
    (light : s.light.newMark = false) : s.newFaults = false := by
  unfold State.newFaults
  rw [light, List.any_eq_false.mpr, List.any_eq_false.mpr]
  · rfl
  · exact fun u h => Bool.eq_false_iff.mp (units u (List.mem_range.mp h))
  · exact fun b h => Bool.eq_false_iff.mp (bells b (List.mem_range.mp h))

/-! ## CLEARFAULT (R192) -/

theorem unpack_clearfault (object : Fin 4) (n : Byte) :
    unpack [.bits 2, .bytes 1] [byte object, n] = some [object.val, n.toNat] := by
  rw [← beNat_one n]
  fin_cases object <;> rfl

theorem exec_clearfault {object : Fin 4} {n : Byte} {status : Status} (hs : slotFree s)
    (h : clearfaultRequest [object.val, n.toNat] (taken s) = (t, status, [])) :
    exec (.clearfault [byte object, n]) s = .next (answered 0x03 status [] t).finish :=
  frameCommand_answered (kind := 0x03) hs rfl rfl rfl (by decide) (by decide)
    ((fields_of_unpack (unpack_clearfault object n) _).trans h)

theorem clearfaultRequest_of_outside {object : Fin 4} {n : Byte}
    (h : object = 0 ∧ 16 ≤ n.toNat ∨ object = 1 ∧ 6 ≤ n.toNat ∨ object = 2 ∧ n ≠ 0 ∨ object = 3) :
    clearfaultRequest [object.val, n.toNat] s = (s, .range, []) := by
  rcases h with ⟨rfl, outside⟩ | ⟨rfl, outside⟩ | ⟨rfl, other⟩ | rfl
  · exact if_neg (Nat.not_lt.mpr outside)
  · exact if_neg (Nat.not_lt.mpr outside)
  · have some : n.toNat ≠ 0 := fun zero => other (BitVec.eq_of_toNat_eq zero)
    unfold clearfaultRequest
    split <;> simp_all
  · rfl

theorem toNat_byte {n : Nat} (h : n < 256) : (byte n).toNat = n :=
  (BitVec.toNat_ofNat n 8).trans (Nat.mod_eq_of_lt h)

theorem clearfaultRequest_of_bell {n : Nat} (h : n < 16) :
    clearfaultRequest [0, n] s = (s.clearBellFault n, .ok, []) := if_pos h

theorem clearfaultRequest_of_unit {n : Nat} (h : n < 6) (cleared : s.clearUnitFault n = t) :
    clearfaultRequest [1, n] s = (t, .ok, []) := by
  subst cleared
  exact if_pos h

theorem clearUnitFault_of_sound (h : (s.unit u).state ≠ .fault) :
    s.clearUnitFault u = s.setUnit u { s.unit u with newMark := false } := if_neg h

/-- An encoder's fault takes the unit's reference. -/
theorem referenced_of_fault (referenced : Bool) (f : UnitFault) :
    (referenced && decide (f ≠ .encoderSlip ∧ f ≠ .encoderLost)) =
      if f = .encoderSlip ∨ f = .encoderLost then false else referenced := by
  cases f <;> simp

/-- A unit's fields as it settles after its fault is cleared. -/
def clearedUnit (s : State) (u : Nat) : SwingUnit :=
  { s.unit u with
    state := .settling, fault := .none, newMark := false, slips := 0, turns := 0, owner := none, turned := false
    referenced := if (s.unit u).fault = .encoderSlip ∨ (s.unit u).fault = .encoderLost then false
      else (s.unit u).referenced
    lowKind := none, lowerLimit := none, noTurn := none, settle := some (s.now + (s.swingRec u).settle * 1000) }

theorem clearUnitFault_of_fault (h : (s.unit u).state = .fault) (idle : (s.unit u).drive = .idle) :
    s.clearUnitFault u = ((s.setUnit u (clearedUnit s u)).moveClaim u (.settling u)).notify
      (.unit u (s.bellOfUnit u) .fault .settling .clearfault none (s.unit u).amplitude none .none) := by
  have own : ((s.setUnit u (clearedUnit s u)).moveClaim u (.settling u)).unit u = clearedUnit s u :=
    (unit_of_units (moveClaim_units _ _ _) u).trans (State.unit_setUnit_self _ _ _)
  have bound : ((s.setUnit u (clearedUnit s u)).moveClaim u (.settling u)).bellOfUnit u = s.bellOfUnit u :=
    bellOfUnit_of_tables (moves_moveClaim (.refl _) u _).tables u
  unfold State.clearUnitFault State.enterSettling
  dsimp only
  rw [if_pos h, cutDrive_of_idle (by rw [State.unit_setUnit_self]; exact idle), setUnit_setUnit, State.unit_setUnit_self,
    referenced_of_fault]
  refine Eq.trans (b := ((s.setUnit u (clearedUnit s u)).moveClaim u (.settling u)).unitNotice u (s.unit u).state
    .clearfault) rfl ?_
  unfold State.unitNotice
  dsimp only
  rw [own, bound, h]
  rfl

/-- Settles O14: FAULTS answers with the marks it then clears, and CLEARFAULT is its object's own. -/
theorem faultsReported : Obligations.FaultsReported := by
  unfold Obligations.FaultsReported
  refine ⟨fun s hs => ?faults, fun object n s hs outside => ?outside, fun b s hs => ?bell, fun u s hs => ?unit,
    fun s hs => ?light⟩
  case faults =>
    obtain ⟨bells, units, e, marks, unitMarks⟩ := clearNewMarks_eq (taken s)
    refine ⟨(taken s).clearNewMarks, frameCommand_answered (kind := 0x02) hs rfl rfl rfl (by decide) (by decide) rfl, ?_⟩
    rw [e]
    exact ⟨marks, unitMarks, rfl, newFaults_of_cleared (fun b lt => congrArg Bell.newMark (marks b lt))
      (fun u lt => congrArg SwingUnit.newMark (unitMarks u lt)) rfl, rfl, rfl, rfl, rfl, rfl, rfl, rfl⟩
  case outside => exact exec_clearfault hs (clearfaultRequest_of_outside outside)
  case bell =>
    refine exec_clearfault (object := 0) hs (Eq.trans ?_ (clearfaultRequest_of_bell b.isLt))
    rw [toNat_byte (b.isLt.trans (by decide))]
    rfl
  case unit =>
    have clears {t : State} (h : (taken s).clearUnitFault u = t) :
        exec (.clearfault [1, byte u]) s = .next (answered 0x03 .ok [] t).finish := by
      refine exec_clearfault (object := 1) hs (Eq.trans ?_ (clearfaultRequest_of_unit u.isLt h))
      rw [toNat_byte (u.isLt.trans (by decide))]
      rfl
    refine ⟨fun sound => clears (clearUnitFault_of_sound sound), fun fault idle => ?_⟩
    exact clears (clearUnitFault_of_fault (s := taken s) fault idle)
  case light => exact exec_clearfault (object := 2) (n := 0) hs rfl

end Sys2Proof.Proofs
end

section
/-! SUPPORT. What access ACTIVE and a mains loss do to the hammers (R60, R61). -/
namespace Sys2Proof.Proofs

open Sys2Proof.Machine Sys2Proof.Claims

variable {s t : State} {b c d u j : Nat}

/-! ## Hammers at access ACTIVE and at a mains loss (R60, R61) -/

/-- The player's answer to a refused blow touches the player alone. -/
theorem setOutstanding_eq (s : State) (l : List Nat) (dealing : Bool) :
    ∃ chime, s.setOutstanding l dealing = s.withChime chime := by
  unfold State.setOutstanding State.sound
  dsimp only
  repeat' split
  all_goals exact ⟨_, rfl⟩

theorem blowEnds_eq (s : State) (b : Nat) : ∃ chime, s.blowEnds b = s.withChime chime := by
  unfold State.blowEnds
  split
  · exact setOutstanding_eq s _ _
  · exact ⟨_, rfl⟩

theorem answerRefused_eq_withChime (s : State) (b : Nat) (r : Refused) :
    ∃ chime, s.answerRefused b r = s.withChime chime := by
  rw [answerRefused_eq]
  split
  · unfold State.blowFaulted
    split
    · exact blowEnds_eq _ b
    · exact ⟨_, rfl⟩
  · exact blowEnds_eq s b

theorem bell_answerRefused (s : State) (a : Nat) (r : Refused) (j : Nat) : (s.answerRefused a r).bell j = s.bell j :=
  bell_of_bells (answerRefused_bells ..) j

theorem answerRefused_supply (s : State) (b : Nat) (r : Refused) : (s.answerRefused b r).supply = s.supply := by
  obtain ⟨chime, e⟩ := answerRefused_eq_withChime s b r
  rw [e]
  rfl

theorem refuseHeld_of_none {r : Refused} (h : (s.bell b).held = none) : s.refuseHeld b r = s := by
  unfold State.refuseHeld
  rw [h]

theorem refuseHeld_of_held {r : Refused} {blow : Velocity × Nat} (h : (s.bell b).held = some blow) :
    s.refuseHeld b r = (s.setBell b { s.bell b with held := none }).answerRefused b r := by
  unfold State.refuseHeld
  rw [h]

theorem bell_refuseHeld (s : State) (b : Nat) (r : Refused) (j : Nat) :
    (s.refuseHeld b r).bell j = if b = j then { s.bell b with held := none } else s.bell j := by
  cases h : (s.bell b).held with
  | none =>
    rw [refuseHeld_of_none h]
    split
    · subst j; rw [← h]
    · rfl
  | some blow => rw [refuseHeld_of_held h, bell_answerRefused, State.bell_setBell]

theorem refuseHeld_supply (s : State) (b : Nat) (r : Refused) : (s.refuseHeld b r).supply = s.supply := by
  cases h : (s.bell b).held with
  | none => rw [refuseHeld_of_none h]
  | some blow => rw [refuseHeld_of_held h, answerRefused_supply]; rfl

/-- A hammer whose waiting blow is gone. -/
def unasked : Hammer → Hammer
  | .waiting _ _ => .idle
  | h => h

theorem unasked_of_other {h : Hammer} (other : ∀ v id, h ≠ .waiting v id) : unasked h = h := by
  unfold unasked
  split
  · rename_i v id; exact absurd rfl (other v id)
  · rfl

theorem hammer_refuseHeld (s : State) (b : Nat) (r : Refused) (j : Nat) :
    ((s.refuseHeld b r).bell j).hammer = (s.bell j).hammer := by
  rw [bell_refuseHeld]
  split
  · subst j; rfl
  · rfl

theorem accessHammer_of_waiting {v : Velocity} {id : Nat} (h : (s.bell b).hammer = .waiting v id) :
    accessHammer b s = (((s.refuseHeld b .access).setBell b { (s.refuseHeld b .access).bell b with hammer := .idle }).withdraw
      (.hammer b)).answerRefused b .access := by
  unfold accessHammer
  dsimp only
  rw [hammer_refuseHeld, h]

theorem accessHammer_of_other (h : ∀ v id, (s.bell b).hammer ≠ .waiting v id) :
    accessHammer b s = s.refuseHeld b .access := by
  unfold accessHammer
  dsimp only
  split
  · rename_i v id waits
    rw [hammer_refuseHeld] at waits
    exact absurd waits (h v id)
  · rfl

/-- A refused held blow is gone, and the hammer becomes another. -/
theorem bell_write_refuseHeld (s : State) (b : Nat) (r : Refused) (h : Hammer) (j : Nat) :
    ((s.refuseHeld b r).setBell b { (s.refuseHeld b r).bell b with hammer := h }).bell j =
      if b = j then { s.bell b with held := none, hammer := h } else s.bell j := by
  rw [State.bell_setBell, bell_refuseHeld, if_pos rfl]
  split
  · rfl
  · rename_i other; rw [bell_refuseHeld, if_neg other]

theorem bell_accessHammer (b : Nat) (s : State) (j : Nat) :
    (accessHammer b s).bell j =
      if b = j then { s.bell b with held := none, hammer := unasked (s.bell b).hammer } else s.bell j := by
  by_cases waits : ∃ v id, (s.bell b).hammer = .waiting v id
  · obtain ⟨v, id, h⟩ := waits
    rw [accessHammer_of_waiting h, bell_answerRefused, bell_of_bells (State.withdraw_bells _ _), bell_write_refuseHeld, h]
    rfl
  · push Not at waits
    rw [accessHammer_of_other waits, bell_refuseHeld, unasked_of_other waits]

/-- A hammer after a mains loss: its waiting blow is gone, and its pulse is over. -/
def cutOff (now recovery : Nat) : Hammer → Hammer
  | .waiting _ _ => .idle
  | .pulse _ _ => .recovery (now + recovery)
  | h => h

theorem lossHammer_of_pulse {ends : Nat} {sense : Option Nat} (h : (s.bell b).hammer = .pulse ends sense) :
    lossHammer b s = (s.refuseHeld b .reserve).pulseOver b := by
  unfold lossHammer
  dsimp only
  rw [hammer_refuseHeld, h]

theorem lossHammer_of_waiting {v : Velocity} {id : Nat} (h : (s.bell b).hammer = .waiting v id) :
    lossHammer b s =
      ((s.refuseHeld b .reserve).setBell b { (s.refuseHeld b .reserve).bell b with hammer := .idle }).answerRefused b
        .reserve := by
  unfold lossHammer
  dsimp only
  rw [hammer_refuseHeld, h]

theorem lossHammer_of_other (waits : ∀ v id, (s.bell b).hammer ≠ .waiting v id)
    (pulses : ∀ ends sense, (s.bell b).hammer ≠ .pulse ends sense) : lossHammer b s = s.refuseHeld b .reserve := by
  unfold lossHammer
  dsimp only
  split
  · rename_i ends sense h
    rw [hammer_refuseHeld] at h
    exact absurd h (pulses ends sense)
  · rename_i v id h
    rw [hammer_refuseHeld] at h
    exact absurd h (waits v id)
  · rfl

theorem pulseOver_bells (s : State) (b : Nat) :
    (s.pulseOver b).bells =
      (s.setBell b { s.bell b with hammer := .recovery (s.now + (s.bellRec b).recovery) }).bells := by
  unfold State.pulseOver
  dsimp only
  split <;> rfl

theorem pulseOver_supply (s : State) (b : Nat) : (s.pulseOver b).supply = s.supply := by
  unfold State.pulseOver
  dsimp only
  split <;> rfl

theorem bell_lossHammer (b : Nat) (s : State) (j : Nat) :
    (lossHammer b s).bell j =
      if b = j then
        { s.bell b with held := none, hammer := cutOff s.now (s.bellRec b).recovery (s.bell b).hammer }
      else s.bell j := by
  have refused : Moves s (s.refuseHeld b .reserve) := moves_refuseHeld (.refl s) b .reserve
  have now : (s.refuseHeld b .reserve).now = s.now := refused.elapsed
  have record : (s.refuseHeld b .reserve).bellRec b = s.bellRec b := by unfold State.bellRec; rw [refused.tables]
  have stays (e : cutOff s.now (s.bellRec b).recovery (s.bell b).hammer = (s.bell b).hammer)
      (h : lossHammer b s = s.refuseHeld b .reserve) : (lossHammer b s).bell j = if b = j then
        { s.bell b with held := none, hammer := cutOff s.now (s.bellRec b).recovery (s.bell b).hammer }
      else s.bell j := by rw [h, e, bell_refuseHeld]
  cases h : (s.bell b).hammer with
  | pulse ends sense =>
    rw [lossHammer_of_pulse h, bell_of_bells (pulseOver_bells _ _), bell_write_refuseHeld, now, record]
    rfl
  | waiting v id =>
    rw [lossHammer_of_waiting h, bell_answerRefused, bell_write_refuseHeld]
    rfl
  | idle => exact h ▸ stays (by rw [h]; rfl) (lossHammer_of_other (by rw [h]; nofun) (by rw [h]; nofun))
  | recovery ends => exact h ▸ stays (by rw [h]; rfl) (lossHammer_of_other (by rw [h]; nofun) (by rw [h]; nofun))

theorem lossHammer_supply (b : Nat) (s : State) : (lossHammer b s).supply = s.supply := by
  unfold lossHammer
  dsimp only
  split
  · rw [pulseOver_supply, refuseHeld_supply]
  · rw [answerRefused_supply]; exact refuseHeld_supply s b _
  · exact refuseHeld_supply s b _

theorem bell_accessBells (h : s.power.access = .active) (hb : b < 16) :
    (accessBells s).bell b = { s.bell b with held := none, hammer := unasked (s.bell b).hammer } := by
  obtain ⟨t, seen, acts⟩ := view_each (fun b t => t.bell b) (f := accessHammer)
    (fun i j t other => (bell_accessHammer i t j).trans (if_neg other)) List.nodup_range (List.mem_range.mpr hb) s
  have each : (accessBells s).bell b = (s.each bellNumbers accessHammer).bell b := by
    unfold accessBells
    rw [h]
    exact State.bell_postAll _ _ _
  rw [each, ← seen]
  exact acts.trans ((bell_accessHammer b t b).trans (if_pos rfl))

theorem bell_lossBells (hb : b < 16) :
    (lossBells s).bell b =
      { s.bell b with held := none, hammer := cutOff s.now (s.bellRec b).recovery (s.bell b).hammer } := by
  obtain ⟨t, seen, acts⟩ := view_each (fun b t => (t.bell b, t.now, t.bellRec b)) (f := lossHammer)
    (fun i j t other => by
      have m : Moves t (lossHammer i t) := moves_lossHammer (.refl t) i
      have record : (lossHammer i t).bellRec j = t.bellRec j := by unfold State.bellRec; rw [m.tables]
      rw [bell_lossHammer, if_neg other, record, show (lossHammer i t).now = t.now from m.elapsed])
    List.nodup_range (List.mem_range.mpr hb) s
  simp only [Prod.mk.injEq] at seen acts
  obtain ⟨bell, now, record⟩ := seen
  have each : (lossBells s).bell b = (s.each bellNumbers lossHammer).bell b := by
    unfold lossBells
    exact State.bell_postAll _ _ _
  rw [each, ← bell, ← now, ← record]
  exact acts.1.trans ((bell_lossHammer b t b).trans (if_pos rfl))

theorem lossBells_supply (s : State) : (lossBells s).supply = s.supply := by
  unfold lossBells
  rw [State.postAll_supply]
  exact each_keeps (P := fun t => t.supply = s.supply) (fun b t h => (lossHammer_supply b t).trans h) bellNumbers rfl

end Sys2Proof.Proofs
end

section
/-! SUPPORT. What they do to the swing units (R105, R106), and access CLEAR to a drive (R101). -/
namespace Sys2Proof.Proofs

open Sys2Proof.Machine Sys2Proof.Claims

variable {s t v : State} {b u i j : Nat}

/-! ## Changes of one swing unit -/

/-- A change of one swing unit and of its bell, in no time. -/
structure ActsOnUnit (u : Nat) (s t : State) : Prop where
  tables : t.tables = s.tables
  now : t.now = s.now
  units : ∀ v, u ≠ v → t.unit v = s.unit v
  bells : ∀ b, s.bellOfUnit u ≠ some b → t.bell b = s.bell b

theorem ActsOnUnit.refl (u : Nat) (s : State) : ActsOnUnit u s s := ⟨rfl, rfl, fun _ _ => rfl, fun _ _ => rfl⟩

theorem ActsOnUnit.trans (h : ActsOnUnit u s t) (k : ActsOnUnit u t v) : ActsOnUnit u s v where
  tables := k.tables.trans h.tables
  now := k.now.trans h.now
  units i other := (k.units i other).trans (h.units i other)
  bells b other := (k.bells b (by rwa [bellOfUnit_of_tables h.tables])).trans (h.bells b other)

theorem ActsOnUnit.notify (h : ActsOnUnit u s t) (n : NoticeBody) : ActsOnUnit u s (t.notify n) :=
  ⟨h.tables, h.now, h.units, h.bells⟩

theorem actsOnUnit_setUnit (s : State) (u : Nat) (w : SwingUnit) : ActsOnUnit u s (s.setUnit u w) where
  tables := rfl
  now := rfl
  units _ other := (State.unit_setUnit ..).trans (if_neg other)
  bells _ _ := rfl

theorem actsOnUnit_cutDrive (s : State) (u : Nat) : ActsOnUnit u s (s.cutDrive u) where
  tables := (moves_cutDrive (.refl s) u).tables
  now := (moves_cutDrive (.refl s) u).elapsed
  units i other := (unit_cutDrive s u i).trans (if_neg other)
  bells b _ := bell_of_bells (cutDrive_bells s u) b

theorem actsOnUnit_stopUnit (s : State) (u : Nat) (kind : LowKind) (cause : UnitCause) :
    ActsOnUnit u s (s.stopUnit u kind cause) := by
  cases rings : (s.unit u).rings with
  | false => rw [stopUnit_of_still rings]; exact .refl u s
  | true =>
    rw [stopUnit_of_rings rings, lowerUnit_eq]
    exact ((actsOnUnit_cutDrive s u).trans (actsOnUnit_setUnit _ u _)).notify _

theorem actsOnUnit_cancelStart (s : State) (u : Nat) (reason : FailReason) :
    ActsOnUnit u s (s.cancelStart u reason) := by
  rcases cancelStart_cases s u reason with same | ⟨b, bound, pending, starts⟩
  · rw [same]; exact .refl u s
  · rw [cancelStart_of_pending starts bound pending]
    refine ⟨rfl, rfl, fun i other => ?_, fun j other => ?_⟩
    · exact (State.unit_setUnit ..).trans (if_neg other)
    · exact (State.bell_setBell ..).trans (if_neg fun e : b = j => other (e ▸ bound))

theorem actsOnUnit_accessUnit (u : Nat) (s : State) : ActsOnUnit u s (accessUnit u s) :=
  ((actsOnUnit_cutDrive s u).trans (actsOnUnit_stopUnit _ u _ _)).trans (actsOnUnit_cancelStart _ u _)

theorem actsOnUnit_lossUnit (u : Nat) (s : State) : ActsOnUnit u s (lossUnit u s) := by
  have idle := actsOnUnit_setUnit s u { s.unit u with drive := .idle }
  unfold lossUnit
  dsimp only
  split
  · exact idle.trans (actsOnUnit_setUnit _ u _)
  · exact (idle.trans (actsOnUnit_stopUnit _ u _ _)).trans (actsOnUnit_cancelStart _ u _)

/-- What a unit's change reads and writes: the unit, its bell, the tables and the time. -/
def unitView (u : Nat) (t : State) : SwingUnit × Option Bell × Tables × Nat :=
  (t.unit u, (t.bellOfUnit u).map t.bell, t.tables, t.now)

theorem unitOfBell_of_bellOfUnit (h : s.bellOfUnit u = some b) : s.unitOfBell b = some u := by
  simpa using List.find?_some h

theorem ActsOnUnit.unitView (h : ActsOnUnit i s t) (other : i ≠ j) : unitView j t = unitView j s := by
  unfold Proofs.unitView
  rw [h.units j other, bellOfUnit_of_tables h.tables, h.tables, h.now]
  cases bound : s.bellOfUnit j with
  | none => rfl
  | some b =>
    have apart : s.bellOfUnit i ≠ some b := fun same =>
      other (Option.some.inj ((unitOfBell_of_bellOfUnit same).symm.trans (unitOfBell_of_bellOfUnit bound)))
    rw [Option.map_some, Option.map_some, h.bells b apart]

/-- What a change of each unit comes to for one of them. -/
theorem unit_each_acts {f : Nat → State → State} (acts : ∀ i t, ActsOnUnit i t (f i t)) (hu : u < 6) (s : State) :
    ∃ t, unitView u t = unitView u s ∧ unitView u (s.each unitNumbers f) = unitView u (f u t) :=
  view_each unitView (fun i _ t other => (acts i t).unitView other) List.nodup_range (List.mem_range.mpr hu) s

/-! ## A unit whose drive is stopped is lowered, and its start cancelled (R105, R106) -/

/-- A unit's start is cancelled, or its fields stand. -/
theorem unit_cancelStart_cases (s : State) (u : Nat) (reason : FailReason) :
    (s.cancelStart u reason).unit u = s.unit u ∨
      (s.cancelStart u reason).unit u = { s.unit u with startPending := false, owner := none, minutes := 0 } := by
  rcases cancelStart_cases s u reason with same | ⟨b, bound, pending, starts⟩
  · rw [same]; exact .inl rfl
  · rw [cancelStart_of_pending starts bound pending]
    exact .inr (State.unit_setUnit_self ..)

/-- What becomes of a unit, with its bell's pending mark, that access or the mains stop: `w` before and `v` after. -/
structure Stopped (kind : LowKind) (lowerLimit : Option Nat) (w v : SwingUnit) (pending pending' : Option Bool) : Prop where
  drive : v.drive = .idle
  rings : w.rings = true → v.state = .lowering ∧ v.lowKind = some kind ∧ v.ringEnd = none ∧ v.raiseLimit = none ∧
    v.lowerLimit = lowerLimit
  still : w.rings = false → w.startPending = false → v = { w with drive := .idle }
  starts : w.rings = false → w.startPending = true → pending = some true →
    v = { w with drive := .idle, startPending := false, owner := none, minutes := 0 } ∧ pending' = some false

/-- The pending mark of a unit's bell. -/
def pendingMark (u : Nat) (t : State) : Option Bool := ((t.bellOfUnit u).map t.bell).map Bell.pending

theorem pendingMark_of_bound (h : s.bellOfUnit u = some b) : pendingMark u s = some (s.bell b).pending := by
  unfold pendingMark
  rw [h]
  rfl

theorem pendingMark_of_bells (tables : t.tables = s.tables) (bells : t.bells = s.bells) (u : Nat) :
    pendingMark u t = pendingMark u s := by
  unfold pendingMark
  rw [bellOfUnit_of_tables tables, show t.bell = s.bell from funext (bell_of_bells bells)]

/-- A unit whose drive is stopped: it is lowered where it rings, and a pending start of another is cancelled. -/
theorem stopped_of_idle {w : SwingUnit} (own : t.unit u = { w with drive := .idle }) (kind : LowKind) (cause : UnitCause)
    (reason : FailReason) :
    Stopped kind (if kind = .reserve then none else some (t.now + (t.swingRec u).lower * 1000)) w
      (((t.stopUnit u kind cause).cancelStart u reason).unit u) (pendingMark u t)
      (pendingMark u ((t.stopUnit u kind cause).cancelStart u reason)) := by
  have sameRings : (t.unit u).rings = w.rings := by rw [own]; rfl
  have sameStart : (t.unit u).startPending = w.startPending := by rw [own]
  cases rings : w.rings with
  | true =>
    have lowers : t.stopUnit u kind cause = t.lowerUnit u kind cause := by
      rw [stopUnit_of_rings (sameRings.trans rings), cutDrive_of_idle (by rw [own])]
    have lowered := State.unit_setUnit_self t u { t.unit u with
      state := .lowering, lowKind := some kind, ringEnd := none, raiseLimit := none, noTurn := some (t.now + 10000)
      lowerLimit := if kind = .reserve then none else some (t.now + (t.swingRec u).lower * 1000) }
    rw [← State.unit_notify _ (.unit u (t.bellOfUnit u) (t.unit u).state .lowering cause (t.unit u).owner
      (t.unit u).amplitude (some kind) (t.unit u).fault), ← lowerUnit_eq, ← lowers] at lowered
    have fields := unit_cancelStart_cases (t.stopUnit u kind cause) u reason
    rw [lowered, own] at fields
    refine ⟨?_, fun _ => ?_, fun still => ?_, fun still => ?_⟩
    · rcases fields with e | e <;> rw [e]
    · rcases fields with e | e <;> rw [e] <;> exact ⟨rfl, rfl, rfl, rfl, rfl⟩
    · rw [rings] at still; cases still
    · rw [rings] at still; cases still
  | false =>
    rw [stopUnit_of_still (sameRings.trans rings)]
    refine ⟨?_, fun ringing => ?_, fun _ free => ?_, fun _ starts marked => ?_⟩
    · rcases unit_cancelStart_cases t u reason with e | e <;> rw [e, own]
    · rw [rings] at ringing; cases ringing
    · rw [cancelStart_of_free (sameStart.trans free), own]
    · obtain ⟨b, bound, pending⟩ : ∃ b, t.bellOfUnit u = some b ∧ (t.bell b).pending = true := by
        simpa [pendingMark, Option.map_eq_some_iff] using marked
      rw [cancelStart_of_pending (sameStart.trans starts) bound pending]
      refine ⟨(State.unit_setUnit_self ..).trans (by rw [own]), ?_⟩
      rw [pendingMark_of_bound (b := b) (by exact bound), State.bell_notify, State.bell_setUnit, State.bell_setBell_self]

theorem stopped_accessUnit (u : Nat) (t : State) :
    Stopped .access (some (t.now + (t.swingRec u).lower * 1000)) (t.unit u) ((accessUnit u t).unit u) (pendingMark u t)
      (pendingMark u (accessUnit u t)) := by
  have cut := actsOnUnit_cutDrive t u
  have stopped := stopped_of_idle ((unit_cutDrive t u u).trans (if_pos rfl)) .access .access .access
  rw [pendingMark_of_bells cut.tables (cutDrive_bells t u), cut.now, swingRec_of_tables cut.tables] at stopped
  exact stopped

theorem lossUnit_of_lowering (h : (t.unit u).state = .lowering) :
    (lossUnit u t).unit u = { t.unit u with drive := .idle, lowKind := some .reserve, lowerLimit := none } := by
  unfold lossUnit
  dsimp only
  rw [State.unit_setUnit_self, if_pos h, State.unit_setUnit_self]

theorem lossUnit_of_other (h : (t.unit u).state ≠ .lowering) :
    lossUnit u t =
      ((t.setUnit u { t.unit u with drive := .idle }).stopUnit u .reserve .reserve).cancelStart u .reserve := by
  unfold lossUnit
  dsimp only
  rw [State.unit_setUnit_self, if_neg h]

theorem stopped_lossUnit (h : (t.unit u).state ≠ .lowering) :
    Stopped .reserve none (t.unit u) ((lossUnit u t).unit u) (pendingMark u t) (pendingMark u (lossUnit u t)) := by
  have stopped := stopped_of_idle (State.unit_setUnit_self t u { t.unit u with drive := .idle }) .reserve .reserve .reserve
  rw [← lossUnit_of_other h] at stopped
  exact stopped

/-- What is seen of a unit says its fields, its bell's pending mark, the tables and the time. -/
theorem of_unitView {t s : State} (h : unitView u t = unitView u s) :
    t.unit u = s.unit u ∧ pendingMark u t = pendingMark u s ∧ t.tables = s.tables ∧ t.now = s.now := by
  unfold unitView at h
  simp only [Prod.mk.injEq] at h
  obtain ⟨unit, bell, tables, now⟩ := h
  exact ⟨unit, congrArg (Option.map Bell.pending) bell, tables, now⟩

theorem accessSwing_of_active (h : s.power.access = .active) : accessSwing s = s.each unitNumbers accessUnit := by
  unfold accessSwing
  rw [h]

theorem stopped_accessSwing (h : s.power.access = .active) (hu : u < 6) :
    Stopped .access (some (s.now + (s.swingRec u).lower * 1000)) (s.unit u) ((accessSwing s).unit u) (pendingMark u s)
      (pendingMark u (accessSwing s)) := by
  obtain ⟨t, seen, acts⟩ := unit_each_acts (fun i t => actsOnUnit_accessUnit i t) hu s
  obtain ⟨unit, mark, tables, now⟩ := of_unitView seen
  obtain ⟨unit', mark', -, -⟩ := of_unitView acts
  rw [accessSwing_of_active h, unit', mark', ← unit, ← mark, ← now, ← swingRec_of_tables tables]
  exact stopped_accessUnit u t

theorem lossSwing_of_lowering (hu : u < 6) (h : (s.unit u).state = .lowering) :
    (lossSwing s).unit u = { s.unit u with drive := .idle, lowKind := some .reserve, lowerLimit := none } := by
  obtain ⟨t, seen, acts⟩ := unit_each_acts (fun i t => actsOnUnit_lossUnit i t) hu s
  obtain ⟨unit, -⟩ := of_unitView seen
  obtain ⟨unit', -⟩ := of_unitView acts
  rw [lossSwing, unit', ← unit]
  exact lossUnit_of_lowering (by rw [unit, h])

theorem stopped_lossSwing (hu : u < 6) (h : (s.unit u).state ≠ .lowering) :
    Stopped .reserve none (s.unit u) ((lossSwing s).unit u) (pendingMark u s) (pendingMark u (lossSwing s)) := by
  obtain ⟨t, seen, acts⟩ := unit_each_acts (fun i t => actsOnUnit_lossUnit i t) hu s
  obtain ⟨unit, mark, -⟩ := of_unitView seen
  obtain ⟨unit', mark', -⟩ := of_unitView acts
  rw [lossSwing, unit', mark', ← unit, ← mark]
  exact stopped_lossUnit (by rw [unit]; exact h)

/-! ## Access CLEAR (R101) -/

/-- A drive whose waiting request is gone. -/
def unrequested : Drive → Drive
  | .waiting _ _ _ => .idle
  | d => d

theorem unit_clearUnit (i : Nat) (t : State) (u : Nat) :
    (clearUnit i t).unit u = if i = u then { t.unit i with drive := unrequested (t.unit i).drive } else t.unit u := by
  unfold clearUnit
  split
  · rename_i waits
    rw [unit_cutDrive, waits]
    rfl
  · rename_i other
    split
    · subst u
      have same : unrequested (t.unit i).drive = (t.unit i).drive := by
        unfold unrequested
        split
        · rename_i waits; exact absurd waits (other _ _ _)
        · rfl
      rw [same]
    · rfl

theorem unit_accessSwing_of_clear (h : s.power.access = .clear) (hu : u < 6) :
    (accessSwing s).unit u = { s.unit u with drive := unrequested (s.unit u).drive } := by
  obtain ⟨t, seen, acts⟩ := view_each (fun u t => t.unit u) (f := clearUnit)
    (fun i j t other => (unit_clearUnit i t j).trans (if_neg other)) List.nodup_range (List.mem_range.mpr hu) s
  unfold accessSwing
  rw [h, ← seen]
  exact acts.trans ((unit_clearUnit u t u).trans (if_pos rfl))

end Sys2Proof.Proofs
end

section
/-! SUPPORT. What they do to the run, the dials and the circuits (R112, R121, R142), and no release at a mains loss (R165). -/
namespace Sys2Proof.Proofs

open Sys2Proof.Machine Sys2Proof.Claims

variable {s t : State} {b c d u : Nat}

/-! ## No units are released at a mains loss (R165) -/

theorem stopUnit_supply_of_idle (h : (s.unit u).drive = .idle) (kind : LowKind) (cause : UnitCause) :
    (s.stopUnit u kind cause).supply = s.supply := by
  cases rings : (s.unit u).rings with
  | false => rw [stopUnit_of_still rings]
  | true => rw [stopUnit_of_rings rings, cutDrive_of_idle h]; rfl

theorem cancelStart_supply (s : State) (u : Nat) (reason : FailReason) : (s.cancelStart u reason).supply = s.supply := by
  rcases cancelStart_cases s u reason with same | ⟨b, bound, pending, starts⟩
  · rw [same]
  · rw [cancelStart_of_pending starts bound pending]; rfl

theorem lossUnit_supply (u : Nat) (t : State) : (lossUnit u t).supply = t.supply := by
  by_cases lowers : (t.unit u).state = .lowering
  · unfold lossUnit
    dsimp only
    rw [State.unit_setUnit_self, if_pos lowers]
    rfl
  · rw [lossUnit_of_other lowers, cancelStart_supply, stopUnit_supply_of_idle (by rw [State.unit_setUnit_self])]
    rfl

theorem lossSwing_supply (s : State) : (lossSwing s).supply = s.supply :=
  each_keeps (P := fun t => t.supply = s.supply) (fun u t h => (lossUnit_supply u t).trans h) unitNumbers rfl

/-! ## The run (R112) -/

theorem haltUnit_run (s : State) (u : Nat) (cause : UnitCause) (reason : FailReason) :
    (s.haltUnit u cause reason).run = s.run := (cancelStart_run _ u _).trans (stopUnit_run s u _ _)

theorem takeStopSteps_run (s : State) : s.takeStopSteps.run = { s.run with stops := [] } :=
  each_keeps (P := fun t => t.run = { s.run with stops := [] }) (fun u t h => (haltUnit_run t u _ _).trans h) _ rfl

theorem stops_settleRun (h : s.run.stops = []) : s.settleRun.run.stops = [] := by
  unfold State.settleRun State.finishRun
  repeat' split
  all_goals first | exact h | rfl

theorem hurryRun_of_idle {cause : RunCause} (h : s.run.state = .idle) : s.hurryRun cause = s := by
  unfold State.hurryRun
  rw [h]

theorem hurryRun_of_moving {cause : RunCause} (h : s.run.state = .starting ∨ s.run.state = .running) :
    s.hurryRun cause = s.stopRun cause 0 := by
  unfold State.hurryRun
  rcases h with e | e <;> rw [e]

theorem stops_hurryRun {cause : RunCause} (h : s.run.state = .stopping) : (s.hurryRun cause).run.stops = [] := by
  unfold State.hurryRun
  rw [h]
  exact stops_settleRun (by rw [takeStopSteps_run])

theorem accessRun_of_active (h : s.power.access = .active) : accessRun s = s.hurryRun .access := by
  unfold accessRun
  rw [h]

/-! ## Dials (R121) -/

/-- A dial after a mains loss: its drive is idle, and where it moved it is stopped. -/
def stoppedDial (w : Dial) : Dial := { w with drive := .idle, state := if w.state.moves then .stopped else w.state }

theorem dial_lossDial (i : Nat) (t : State) (d : Nat) :
    (lossDial i t).dial d = if i = d then stoppedDial (t.dial i) else t.dial d := by
  unfold lossDial
  dsimp only
  rw [State.dial_setDial_self]
  cases moves : (t.dial i).state.moves with
  | false =>
    rw [if_neg (by decide), State.dial_setDial]
    unfold stoppedDial
    rw [moves]
    rfl
  | true =>
    have runs : (t.dial i).state ≠ .stopped := fun e => by rw [e] at moves; cases moves
    unfold State.moveDial
    dsimp only
    rw [if_pos rfl, State.dial_setDial_self, if_neg runs, State.dial_notify, State.dial_setDial, State.dial_setDial]
    unfold stoppedDial
    rw [moves]
    split <;> rfl

theorem dial_lossDials (hd : d < 4) : (lossDials s).dial d = stoppedDial (s.dial d) := by
  obtain ⟨t, seen, acts⟩ := view_each (fun d t => t.dial d) (f := lossDial)
    (fun i j t other => (dial_lossDial i t j).trans (if_neg other)) List.nodup_range (List.mem_range.mpr hd) s
  rw [lossDials, ← seen]
  exact acts.trans ((dial_lossDial d t d).trans (if_pos rfl))

/-! ## Circuits (R142) -/

theorem circuit_lossCircuit_other (i : Nat) (t : State) (c : Nat) (other : i ≠ c) :
    (lossCircuit i t).circuit c = t.circuit c := by
  unfold lossCircuit State.unmarkShed State.floodNotice
  dsimp only
  repeat' split
  all_goals simp [State.circuit_setCircuit, other]

theorem circuit_lossCircuit_of_lit {t : State} (kind : (t.circuitRec c).kind = .switched)
    (lit : (t.circuit c).state = .warming ∨ (t.circuit c).state = .on) :
    (lossCircuit c t).circuit c =
      { t.circuit c with state := .cooling, timer := some (t.now + (t.circuitRec c).restrike * 1000) } := by
  unfold lossCircuit
  dsimp only
  rcases lit with e | e <;> rw [kind, e] <;> exact State.circuit_setCircuit_self ..

theorem circuit_lossCircuit_of_switched {t : State} (kind : (t.circuitRec c).kind = .switched)
    (waits : (t.circuit c).state = .waiting) :
    (lossCircuit c t).circuit c = { t.circuit c with state := .off } := by
  unfold lossCircuit
  dsimp only
  rw [kind, waits]
  exact State.circuit_setCircuit_self ..

/-- A DIMMED circuit is put out, its SHED mark cleared before. -/
def putOut (c : Nat) (t : State) : State :=
  (t.setCircuit c { t.circuit c with state := .off, level := 0, target := 0, fade := none }).floodNotice c
    (t.circuit c).state .mainsLoss 0

theorem circuit_putOut (c : Nat) (t : State) :
    (putOut c t).circuit c = { t.circuit c with state := .off, level := 0, target := 0, fade := none } :=
  State.circuit_setCircuit_self ..

theorem circuit_unmarkShed (c : Nat) (t : State) : (t.unmarkShed c).circuit c = { t.circuit c with shed := false } :=
  State.circuit_setCircuit_self ..

theorem lossCircuit_of_dimmed {t : State} (kind : (t.circuitRec c).kind = .dimmed)
    (awake : (t.circuit c).state = .waiting ∨ (t.circuit c).state = .on) :
    lossCircuit c t = putOut c (if (t.circuit c).shed then t.unmarkShed c else t) := by
  unfold lossCircuit
  dsimp only
  rcases awake with e | e <;> rw [kind, e] <;> rfl

theorem circuit_lossCircuit_of_dimmed {t : State} (kind : (t.circuitRec c).kind = .dimmed)
    (awake : (t.circuit c).state = .waiting ∨ (t.circuit c).state = .on) :
    (lossCircuit c t).circuit c =
      { t.circuit c with state := .off, level := 0, target := 0, fade := none, shed := false } := by
  rw [lossCircuit_of_dimmed kind awake, circuit_putOut]
  cases shed : (t.circuit c).shed with
  | true => rw [if_pos rfl, circuit_unmarkShed]
  | false => rw [if_neg (by decide), ← shed]

theorem circuit_lossCircuit_of_dark {t : State}
    (dark : (t.circuit c).state = .off ∨ (t.circuitRec c).kind = .switched ∧ (t.circuit c).state = .cooling) :
    (lossCircuit c t).circuit c = t.circuit c := by
  unfold lossCircuit
  dsimp only
  rcases dark with e | ⟨kind, e⟩
  · rw [e]; cases (t.circuitRec c).kind <;> rfl
  · rw [kind, e]

/-- A mains loss acts on a circuit in a state that shows it as it stands now. -/
theorem circuit_lossFloods (hc : c < 12) (s : State) :
    ∃ t, t.circuit c = s.circuit c ∧ t.circuitRec c = s.circuitRec c ∧ t.now = s.now ∧
      (lossFloods s).circuit c = (lossCircuit c t).circuit c := by
  obtain ⟨t, seen, acts⟩ := view_each (fun c t => (t.circuit c, t.circuitRec c, t.now)) (f := lossCircuit)
    (fun i j t other => by
      have m : Moves t (lossCircuit i t) := moves_lossCircuit (.refl t) i
      have record : (lossCircuit i t).circuitRec j = t.circuitRec j := by unfold State.circuitRec; rw [m.tables]
      rw [circuit_lossCircuit_other i t j other, record, show (lossCircuit i t).now = t.now from m.elapsed])
    List.nodup_range (List.mem_range.mpr hc) s
  simp only [Prod.mk.injEq] at seen acts
  exact ⟨t, seen.1, seen.2.1, seen.2.2, acts.1⟩

/-- Settles O57: each block's change of an object is told apart from the others' by what it reads and writes. -/
theorem accessAndMainsLoss : Obligations.AccessAndMainsLoss := by
  unfold Obligations.AccessAndMainsLoss
  refine ⟨fun s active => ?active, fun s clear => ?clear, fun s => ?loss⟩
  case active =>
    refine ⟨fun b hb => ?_, fun u hu => ?_, fun idle => ?_, fun moving => ?_, fun stopping => ?_⟩
    · rw [bell_accessBells active hb]
      cases (s.bell b).hammer <;> rfl
    · intro w v
      obtain ⟨drive, rings, still, starts⟩ := stopped_accessSwing active hu
      refine ⟨drive, rings, still, fun b _ silent pending bound marked => ?_⟩
      have bound' : (accessSwing s).bellOfUnit u = some b :=
        (bellOfUnit_of_tables (moves_accessSwing (.refl s)).tables u).trans bound
      obtain ⟨fields, mark⟩ := starts silent pending (by rw [pendingMark_of_bound bound, marked])
      rw [pendingMark_of_bound bound'] at mark
      exact ⟨fields, Option.some.inj mark⟩
    · rw [accessRun_of_active active, hurryRun_of_idle idle]
    · rw [accessRun_of_active active, hurryRun_of_moving moving]
    · rw [accessRun_of_active active, stops_hurryRun stopping]
  case clear =>
    refine ⟨?_, ?_, fun u hu => ?_⟩
    · unfold accessBells
      rw [clear]
      rfl
    · unfold accessRun
      rw [clear]
    · rw [unit_accessSwing_of_clear clear hu]
      cases (s.unit u).drive <;> rfl
  case loss =>
    refine ⟨fun b hb => ?_, lossBells_supply s, lossSwing_supply s, fun u hu => ?_, hurryRun_of_idle,
      hurryRun_of_moving, stops_hurryRun, fun d hd => dial_lossDials hd, fun c hc => ?_⟩
    · rw [bell_lossBells hb]
      cases (s.bell b).hammer <;> rfl
    · intro w v
      by_cases lowers : w.state = .lowering
      · have fields : v = { w with drive := .idle, lowKind := some .reserve, lowerLimit := none } :=
          lossSwing_of_lowering hu lowers
        rw [fields]
        exact ⟨rfl, fun _ => ⟨lowers, rfl, rfl⟩, fun _ other => absurd lowers other, fun _ _ _ other => absurd lowers other⟩
      · obtain ⟨drive, rings, still, starts⟩ := stopped_lossSwing hu lowers
        refine ⟨drive, fun stops => ?_, fun silent _ => still silent, fun b _ silent _ pending bound marked => ?_⟩
        · obtain ⟨state, kind, -, -, limit⟩ := rings (stops.resolve_right lowers)
          exact ⟨state, kind, limit⟩
        · have bound' : (lossSwing s).bellOfUnit u = some b :=
            (bellOfUnit_of_tables (moves_lossSwing (.refl s)).tables u).trans bound
          obtain ⟨fields, mark⟩ := starts silent pending (by rw [pendingMark_of_bound bound, marked])
          rw [pendingMark_of_bound bound'] at mark
          exact ⟨fields, Option.some.inj mark⟩
    · intro r w v
      obtain ⟨t, circuit, record, now, acts⟩ := circuit_lossFloods hc s
      have hv : v = (lossCircuit c t).circuit c := acts
      rw [hv, show w = _ from circuit.symm, show r = _ from record.symm, ← now]
      exact ⟨circuit_lossCircuit_of_lit, circuit_lossCircuit_of_switched, circuit_lossCircuit_of_dimmed,
        circuit_lossCircuit_of_dark⟩

end Sys2Proof.Proofs
end

section
/-! SUPPORT. The bounds of the queues and the canonical form of the tables: what an update has to meet to keep them, and the
blocks' operations that only commands use. -/
namespace Sys2Proof.Proofs

open Sys2Proof.Machine Sys2Proof.Claims

/-- The bounds of the queues (R79, R189) and the canonical forms (log 34), each kept by itself. -/
structure FormKept (s t : State) : Prop where
  queues : s.queuesBounded → t.queuesBounded
  objects : s.objectsCanonical → t.objectsCanonical
  tables : s.tablesCanonical → t.tablesCanonical

theorem FormKept.refl (s : State) : FormKept s s := ⟨id, id, id⟩

variable {s t u : State}

theorem FormKept.trans (h : FormKept s t) (k : FormKept t u) : FormKept s u :=
  ⟨k.queues ∘ h.queues, k.objects ∘ h.objects, k.tables ∘ h.tables⟩

/-- The blocks' operations inside a command keep the form. -/
theorem FormKept.moves (h : FormKept s t) (m : Moves t u) : FormKept s u :=
  h.trans
    { queues := fun ⟨strikes, notices⟩ => ⟨m.queue strikes, m.notices notices⟩
      objects := m.canon
      tables := fun canonical => by unfold State.tablesCanonical; rwa [m.tables, m.store] }

/-! ## Updates that touch nothing of the form -/

theorem formKept_withTime (h : FormKept s t) (v : TimeBase) : FormKept s (t.withTime v) := h.trans ⟨id, id, id⟩

theorem formKept_runTo (h : FormKept s t) (instant : Nat) : FormKept s (t.runTo instant) := h.trans ⟨id, id, id⟩

theorem formKept_runToKept (h : FormKept s t) (target : Nat) : FormKept s (t.runToKept target) := h.trans ⟨id, id, id⟩

theorem formKept_withRefs (h : FormKept s t) (v : RefMonitor) : FormKept s (t.withRefs v) := h.trans ⟨id, id, id⟩

theorem formKept_withPower (h : FormKept s t) (v : Power) : FormKept s (t.withPower v) := h.trans ⟨id, id, id⟩

theorem formKept_withStart (h : FormKept s t) (v : Start) : FormKept s (t.withStart v) := h.trans ⟨id, id, id⟩

/-! ## Updates of a part of the form -/

theorem formKept_withLink (h : FormKept s t) {v : Link} (same : v.notices = t.link.notices) : FormKept s (t.withLink v) :=
  h.trans
    { queues := fun ⟨strikes, notices⟩ => ⟨strikes, by rw [State.withLink_link, same]; exact notices⟩
      objects := id
      tables := id }

theorem formKept_withTables (h : FormKept s t) {v : Tables} (hv : t.tables.canonical → v.canonical) :
    FormKept s (t.withTables v) :=
  h.trans ⟨id, id, fun ⟨used, stored⟩ => ⟨hv used, stored⟩⟩

theorem formKept_withStore (h : FormKept s t) {v : Store}
    (hv : t.tables.canonical → t.store.stored.canonical → v.stored.canonical) : FormKept s (t.withStore v) :=
  h.trans ⟨id, id, fun ⟨used, stored⟩ => ⟨used, hv used stored⟩⟩

theorem formKept_withSupply (h : FormKept s t) {v : Supply} (same : v.grants = t.supply.grants) :
    FormKept s (t.withSupply v) :=
  h.trans ⟨id, fun ⟨grants, rest⟩ => ⟨by rw [State.withSupply_supply, same]; exact grants, rest⟩, id⟩

theorem formKept_setBell (h : FormKept s t) (b : Nat) (v : Bell) : FormKept s (t.setBell b v) :=
  h.trans ⟨id, fun ⟨grants, bells, rest⟩ => ⟨grants, Table.wf_put _ _ _ _ bells, rest⟩, id⟩

theorem formKept_setUnit (h : FormKept s t) (n : Nat) (v : SwingUnit) : FormKept s (t.setUnit n v) :=
  h.trans ⟨id, fun ⟨grants, bells, units, rest⟩ => ⟨grants, bells, Table.wf_put _ _ _ _ units, rest⟩, id⟩

theorem formKept_setDial (h : FormKept s t) (d : Nat) (v : Dial) : FormKept s (t.setDial d v) :=
  h.trans ⟨id, fun ⟨grants, bells, units, dials, rest⟩ =>
    ⟨grants, bells, units, Table.wf_put _ _ _ _ dials, rest⟩, id⟩

theorem formKept_setCircuit (h : FormKept s t) (c : Nat) (v : Circuit) : FormKept s (t.setCircuit c v) :=
  h.trans ⟨id, fun ⟨grants, bells, units, dials, circuits, guards⟩ =>
    ⟨grants, bells, units, dials, Table.wf_put _ _ _ _ circuits, guards⟩, id⟩

theorem formKept_foldl {α : Type} {f : State → α → State} (hf : ∀ t a, FormKept t (f t a)) (h : FormKept s t)
    (l : List α) : FormKept s (l.foldl f t) := by
  induction l generalizing t with
  | nil => exact h
  | cons a l ih => exact ih (h.trans (hf t a))

theorem formKept_each {f : Nat → State → State} (hf : ∀ i t, FormKept t (f i t)) (h : FormKept s t) (l : List Nat) :
    FormKept s (t.each l f) :=
  formKept_foldl (fun t i => hf i t) h l

/-! ## The time base (chapter 1) -/

theorem formKept_retime (h : FormKept s t) (b : TimeBase) (cause : TimeCause) (always : Bool) :
    FormKept s (t.retime b cause always) := by
  have set (c : TimeBase) : FormKept s (t.withTime c) := formKept_withTime h c
  unfold State.retime
  dsimp only
  repeat' split
  · exact (set _).moves (moves_notify (.refl _) _)
  · exact set _
  · exact (set _).moves (moves_notify (moves_postAll (.refl _) _) _)
  · exact (set _).moves (moves_notify (moves_postAll (.refl _) _) _)
  · exact set _

theorem formKept_holdOver (h : FormKept s t) (cause : TimeCause) : FormKept s (t.holdOver cause) :=
  formKept_retime h _ _ _

theorem formKept_setTime (h : FormKept s t) (kept : Nat) : FormKept s (t.setTime kept) :=
  formKept_retime (formKept_withRefs h _) _ _ _

theorem formKept_confirmation (h : FormKept s t) (tel : Telegram) (phase : Latch) (source : PhaseSource) :
    FormKept s (confirmation tel phase source t) := by
  unfold confirmation
  split
  · exact formKept_retime h _ _ _
  · exact formKept_retime h _ _ _

theorem formKept_limitJudged (h : FormKept s t) : FormKept s (limitJudged t) := by
  unfold limitJudged
  repeat' split
  · exact h.moves (moves_freeRun (.refl _))
  · exact h
  · exact h

theorem formKept_applyTimeSettings (h : FormKept s t) : FormKept s t.applyTimeSettings := by
  have judged := formKept_limitJudged h
  rw [applyTimeSettings_eq]
  unfold offsetJudged
  split
  · exact judged
  · exact formKept_retime judged _ _ _
  · exact formKept_retime judged _ _ _

/-! ## The reference monitor (1.3-1.5) -/

theorem formKept_failRecord (h : FormKept s t) (chars : List Byte) : FormKept s (t.failRecord chars) :=
  formKept_withRefs (formKept_withRefs h _) _

theorem formKept_failPending (h : FormKept s t) : FormKept s t.failPending := by
  unfold State.failPending
  split
  · exact formKept_withRefs h _
  · exact h

theorem formKept_takeChar (h : FormKept s t) (c : Byte) : FormKept s (takeChar t c) := by
  have fails (chars : List Byte) : FormKept s (t.failRecord chars) := formKept_failRecord h chars
  unfold takeChar
  dsimp only
  repeat' split
  · exact formKept_withRefs h _
  · exact h
  · exact formKept_withRefs (fails _) _
  · exact formKept_withRefs h _
  · exact fails _
  · exact fails _
  · exact formKept_withRefs (formKept_failPending (formKept_withRefs (formKept_withRefs h _) _)) _
  · exact fails _

theorem formKept_decideMark (h : FormKept s t) (d : Decision) (after : Option SecEdge) :
    FormKept s (decideMark d after t) := by
  have recorded (skew : Option Int) : FormKept s (t.withRefs { t.refs with skew := skew }) := formKept_withRefs h _
  unfold decideMark
  dsimp only
  repeat' split
  · exact recorded _
  all_goals exact formKept_confirmation (recorded _) _ _ _

theorem formKept_decideEach {after : Decision → Option SecEdge} (h : FormKept s t) (l : List Decision) :
    FormKept s (l.foldl (fun t d => decideMark d (after d) t) t) :=
  formKept_foldl (fun t d => formKept_decideMark (.refl t) d (after d)) h l

theorem formKept_phaseOf (h : FormKept s t) (mark : Latch) (confirms : Option Telegram) :
    FormKept s (t.phaseOf mark confirms) := by
  unfold State.phaseOf
  repeat' split
  · exact formKept_decideMark h _ _
  · exact formKept_withRefs h _
  · exact formKept_confirmation h _ _ _
  · exact h

theorem formKept_changeMode (h : FormKept s t) (new : RefMode) : FormKept s (t.changeMode new) := by
  have stopped (r : RefMonitor) : FormKept s (t.withRefs r) := formKept_withRefs h r
  unfold State.changeMode
  dsimp only
  split
  · split
    · exact formKept_holdOver (formKept_withRefs (stopped _) _) _
    · exact formKept_withRefs (stopped _) _
  · refine formKept_foldl (fun u d => ?_) (stopped _) _
    split
    · exact formKept_confirmation (.refl _) _ _ _
    · exact .refl _
  · exact stopped _

/-! ## The bells and the swing units (chapters 3 and 5) -/

theorem formKept_setHammerFault (h : FormKept s t) (b : Nat) (f : HammerFault) (reading : Nat) :
    FormKept s (t.setHammerFault b f reading) :=
  (formKept_setBell h _ _).moves (moves_refuseHeld (moves_post (moves_notify (.refl _) _) _) _ _)

theorem formKept_coilResult (h : FormKept s t) (b reading : Nat) : FormKept s (coilResult b reading t) := by
  have taken : FormKept s (t.setBell b { t.bell b with reading := some reading }) := formKept_setBell h _ _
  unfold coilResult
  dsimp only
  repeat' split
  · exact taken
  · exact formKept_setHammerFault (formKept_setBell taken _ _) _ _ _
  · exact formKept_setBell taken _ _
  · exact (formKept_setHammerFault taken _ _ _).moves (moves_pulseEnds (.refl _) _)
  · exact formKept_setHammerFault taken _ _ _
  · exact formKept_setBell taken _ _

theorem formKept_enterSettling (h : FormKept s t) (n : Nat) (cause : UnitCause) :
    FormKept s (t.enterSettling n cause) :=
  (formKept_setUnit (h.moves (moves_cutDrive (.refl _) n)) _ _).moves
    (moves_unitNotice (moves_moveClaim (.refl _) _ _) _ _ _)

theorem formKept_enterFault (h : FormKept s t) (n : Nat) (f : UnitFault) : FormKept s (t.enterFault n f) :=
  (formKept_setUnit (h.moves (moves_cutDrive (.refl _) n)) _ _).moves
    (moves_unitNotice (moves_notify (moves_moveClaim (.refl _) _ _) _) _ _ _)

theorem formKept_enterSwinging (h : FormKept s t) (n : Nat) : FormKept s (t.enterSwinging n) := by
  have cut : FormKept s (match (t.unit n).drive with
      | .waiting _ none _ => t.cutDrive n
      | _ => t) := by
    split
    · exact h.moves (moves_cutDrive (.refl _) n)
    · exact h
  exact (formKept_setUnit cut _ _).moves (moves_unitNotice (.refl _) _ _ _)

theorem formKept_actOnTurn (h : FormKept s t) (n : Nat) (amplitude : Option Nat) (dir : Dir) :
    FormKept s (t.actOnTurn n amplitude dir) := by
  unfold State.actOnTurn
  dsimp only
  repeat' split
  · exact h
  · exact h
  · exact h.moves (moves_askImpulse (.refl _) _ _ _ _)
  · exact formKept_enterSwinging h n
  · exact h
  · exact h.moves (moves_askImpulse (.refl _) _ _ _ _)
  · exact h
  · exact h
  · exact (formKept_setUnit h _ _).moves (moves_askImpulse (.refl _) _ _ _ _)
  · exact formKept_setUnit h _ _
  · exact formKept_setUnit h _ _

theorem formKept_takeTurn (h : FormKept s t) (n : Nat) (amplitude : Option Nat) (dir : Dir) :
    FormKept s (t.takeTurn n amplitude dir) := by
  unfold State.takeTurn
  dsimp only
  split
  · exact formKept_setUnit h _ _
  · split
    · exact formKept_enterFault (formKept_setUnit h _ _) _ _
    · exact formKept_actOnTurn (formKept_setUnit h _ _) _ _ _

/-! ## The circuits and the light monitor (chapters 7 and 8) -/

theorem formKept_changeCircuit (h : FormKept s t) (c : Nat) (w : Circuit) (cause : FloodCause) (units : Nat) :
    FormKept s (t.changeCircuit c w cause units) := by
  unfold State.changeCircuit
  dsimp only
  split
  · exact formKept_setCircuit h _ _
  · exact (formKept_setCircuit h _ _).moves (moves_floodNotice (.refl _) _ _ _ _)

theorem formKept_lightTransition (h : FormKept s t) (old new : LightState) :
    FormKept s (t.lightTransition old new) := by
  unfold State.lightTransition
  split
  · exact h
  · exact h.moves (moves_postAll (.refl _) _)

theorem formKept_goodLight (h : FormKept s t) (r : Nat) : FormKept s (goodLight r t) := by
  have set (l : Light) : FormKept s (t.withLight l) := h.moves (moves_withLight (.refl _) l)
  unfold goodLight
  dsimp only
  split
  · exact set _
  · split
    · exact formKept_lightTransition (set _) _ _
    · exact (formKept_lightTransition (set _) _ _).moves (moves_notify (.refl _) _)

theorem formKept_outLight (h : FormKept s t) (r : Nat) : FormKept s (outLight r t) := by
  have set (l : Light) : FormKept s (t.withLight l) := h.moves (moves_withLight (.refl _) l)
  unfold outLight
  dsimp only
  repeat' split
  · exact set _
  · exact set _
  · exact (formKept_lightTransition (set _) _ _).moves (moves_notify (moves_notify (.refl _) _) _)

theorem formKept_lightResult (h : FormKept s t) (r : Nat) : FormKept s (lightResult r t) := by
  unfold lightResult
  split
  · exact formKept_goodLight h r
  · exact formKept_outLight h r

end Sys2Proof.Proofs
end

section
/-! SUPPORT. The requests and the start keep the bounds of the queues and the canonical form of the tables. -/
namespace Sys2Proof.Proofs

open Sys2Proof.Machine Sys2Proof.Claims

variable {s t u : State}

/-! ## PUT and ERASE (R186) -/

/-- A refusal has no effect: what is accepted decides. -/
theorem formKept_unless {refused : Prop} [Decidable refused] {status : Status} {accepted : State × Status}
    (h : FormKept s accepted.1) : FormKept s (if refused then (s, status) else accepted).1 := by
  split
  · exact .refl s
  · exact h

theorem formKept_newDialRecord (h : FormKept s t) (d : Nat) (old new : DialRec) :
    FormKept s (t.newDialRecord d old new) := by
  unfold State.newDialRecord
  repeat' split
  · exact h.moves (moves_forgetDial (.refl _) _ _)
  · exact h.moves (moves_repeatOrClassify (.refl _) _ _)
  · exact h

theorem formKept_reclass (h : FormKept s t) : FormKept s t.reclass := by
  unfold State.reclass
  split
  · exact h.moves (moves_setToday (.refl _) _)
  · exact h

theorem formKept_newTimeSettings (h : FormKept s t) (new : TimeSettings) : FormKept s (t.newTimeSettings new) := by
  have written : FormKept s (t.withTables { t.tables with time := new }) := formKept_withTables h id
  refine formKept_applyTimeSettings ?_
  split
  · exact written
  · exact formKept_changeMode written _

theorem formKept_newLightSettings (h : FormKept s t) (new : LightSettings) : FormKept s (t.newLightSettings new) := by
  have written : FormKept s (t.withTables { t.tables with light := new }) := formKept_withTables h id
  unfold State.newLightSettings
  dsimp only
  split
  · exact written
  · exact written.moves (moves_withLight (.refl _) _)

theorem formKept_putBell (b : Nat) (new : BellRec) (s : State) : FormKept s (putBell b new s).1 := by
  have written : FormKept s (s.withTables { s.tables with bell := Table.put bellRec0 s.tables.bell b new }) :=
    formKept_withTables (.refl s) fun ⟨bell, rest⟩ => ⟨Table.wf_put _ _ _ _ bell, rest⟩
  exact formKept_unless <| formKept_unless <| formKept_unless <| written.moves (moves_post (.refl _) _)

theorem formKept_putSwing (n : Nat) (new : SwingRec) (s : State) : FormKept s (putSwing n new s).1 :=
  formKept_unless <| formKept_unless <|
    formKept_withTables (.refl s) fun ⟨bell, swing, rest⟩ => ⟨bell, Table.wf_put _ _ _ _ swing, rest⟩

theorem formKept_putPlan (p : Nat) (new : Plan) (s : State) : FormKept s (putPlan p new s).1 :=
  formKept_unless <|
    formKept_withTables (.refl s) fun ⟨bell, swing, plan, rest⟩ => ⟨bell, swing, Table.wf_put _ _ _ _ plan, rest⟩

theorem formKept_putTune (i : Nat) (new : Tune) (s : State) : FormKept s (putTune i new s).1 :=
  formKept_unless <| formKept_withTables (.refl s) fun ⟨bell, swing, plan, tune, rest⟩ =>
    ⟨bell, swing, plan, Table.wf_put _ _ _ _ tune, rest⟩

theorem formKept_putNote (n : Nat) (new : Note) (s : State) : FormKept s (putNote n new s).1 :=
  formKept_unless <| formKept_withTables (.refl s) fun ⟨bell, swing, plan, tune, note, rest⟩ =>
    ⟨bell, swing, plan, tune, Table.wf_put _ _ _ _ note, rest⟩

theorem formKept_putDial (d : Nat) (new : DialRec) (s : State) : FormKept s (putDial d new s).1 := by
  have written : FormKept s (s.withTables { s.tables with dial := Table.put dialRec0 s.tables.dial d new }) :=
    formKept_withTables (.refl s) fun ⟨bell, swing, plan, tune, note, dial, rest⟩ =>
      ⟨bell, swing, plan, tune, note, Table.wf_put _ _ _ _ dial, rest⟩
  exact formKept_unless <| formKept_unless <| formKept_newDialRecord written _ _ _

theorem formKept_putCircuit (c : Nat) (new : CircuitRec) (s : State) : FormKept s (putCircuit c new s).1 := by
  have written : FormKept s (s.withTables { s.tables with circuit := Table.put circuitRec0 s.tables.circuit c new }) :=
    formKept_withTables (.refl s) fun ⟨bell, swing, plan, tune, note, dial, circuit, rest⟩ =>
      ⟨bell, swing, plan, tune, note, dial, Table.wf_put _ _ _ _ circuit, rest⟩
  exact formKept_unless <| formKept_unless <| written.moves (moves_post (.refl _) _)

theorem formKept_putScene (i : Nat) (new : Scene) (s : State) : FormKept s (putScene i new s).1 :=
  formKept_withTables (.refl s) fun ⟨bell, swing, plan, tune, note, dial, circuit, scene, rest⟩ =>
    ⟨bell, swing, plan, tune, note, dial, circuit, Table.wf_put _ _ _ _ scene, rest⟩

theorem formKept_putEntry (e : Nat) (new : Entry) (s : State) : FormKept s (putEntry e new s).1 := by
  have written : FormKept s (s.withTables { s.tables with schedule := Table.put entry0 s.tables.schedule e new }) :=
    formKept_withTables (.refl s) fun ⟨bell, swing, plan, tune, note, dial, circuit, scene, entry, rest⟩ =>
      ⟨bell, swing, plan, tune, note, dial, circuit, scene, Table.wf_put _ _ _ _ entry, rest⟩
  exact written.moves (moves_setGuard (.refl _) _ _)

theorem formKept_putSpecial (e : Nat) (new : Special) (s : State) : FormKept s (putSpecial e new s).1 :=
  formKept_unless <| formKept_reclass <| formKept_withTables (.refl s)
    fun ⟨bell, swing, plan, tune, note, dial, circuit, scene, entry, special, sun⟩ =>
      ⟨bell, swing, plan, tune, note, dial, circuit, scene, entry, Table.wf_put _ _ _ _ special, sun⟩

theorem formKept_putSun (d : Nat) (new : Sun) (s : State) : FormKept s (putSun d new s).1 :=
  formKept_withTables (.refl s) fun ⟨bell, swing, plan, tune, note, dial, circuit, scene, entry, special, sun⟩ =>
    ⟨bell, swing, plan, tune, note, dial, circuit, scene, entry, special, Table.wf_put _ _ _ _ sun⟩

theorem formKept_putSupply (new : SupplySettings) (s : State) : FormKept s (putSupply new s).1 := by
  have written : FormKept s (s.withTables { s.tables with supply := new }) := formKept_withTables (.refl s) id
  exact formKept_unless <| formKept_unless <| written.moves (moves_serve (.refl _))

theorem formKept_ranged {α : Type} {write : α → State → State × Status} (h : ∀ new, FormKept s (write new s).1)
    (reading : Option α) : FormKept s (ranged reading write s).1 := by
  unfold ranged
  split
  · exact h _
  · exact .refl s

theorem formKept_putGroup (group : Nat) (v : List Nat) (s : State) : FormKept s (putGroup group v s).1 := by
  unfold putGroup
  split
  · exact formKept_ranged (fun new => formKept_newTimeSettings (.refl s) new) _
  · exact formKept_ranged (fun new => formKept_withTables (v := { s.tables with strike := new }) (.refl s) id) _
  · exact formKept_ranged (fun new => formKept_newLightSettings (.refl s) new) _
  · exact formKept_ranged (fun new => formKept_putSupply new s) _
  · exact formKept_ranged (fun new => formKept_withTables (v := { s.tables with hammerCheck := new }) (.refl s) id) _
  · exact formKept_ranged (fun new => formKept_withTables (v := { s.tables with notice := new }) (.refl s) id) _

theorem formKept_putValues (table i : Nat) (v : List Nat) (s : State) : FormKept s (putValues table i v s).1 := by
  unfold putValues
  split
  · exact formKept_ranged (fun new => formKept_putBell i new s) _
  · exact formKept_ranged (fun new => formKept_putSwing i new s) _
  · exact formKept_ranged (fun new => formKept_putPlan i new s) _
  · exact formKept_ranged (fun new => formKept_putTune i new s) _
  · exact formKept_ranged (fun new => formKept_putNote i new s) _
  · exact formKept_ranged (fun new => formKept_putDial i new s) _
  · exact formKept_ranged (fun new => formKept_putCircuit i new s) _
  · exact formKept_ranged (fun new => formKept_putScene i new s) _
  · exact formKept_ranged (fun new => formKept_putEntry i new s) _
  · exact formKept_ranged (fun new => formKept_putSpecial i new s) _
  · exact formKept_ranged (fun new => formKept_putSun i new s) _
  · exact formKept_putGroup i v s

theorem formKept_putRequest (body : List Byte) (s : State) : FormKept s (putRequest body s).1 := by
  unfold putRequest plain
  dsimp only
  repeat' split
  case h_1 => exact formKept_putValues _ _ _ s
  all_goals exact .refl s

/-- An object not in use is erased without effect (log 41). -/
theorem formKept_ifUsed {used : Prop} [Decidable used] {write : State × Status} (h : FormKept s write.1) :
    FormKept s (if used then write else (s, .ok)).1 := by
  split
  · exact h
  · exact .refl s

theorem formKept_eraseGroup (group : Nat) (s : State) : FormKept s (eraseGroup group s).1 := by
  unfold eraseGroup
  split
  · exact formKept_newTimeSettings (.refl s) _
  · exact formKept_withTables (v := { s.tables with strike := strikeSettings0 }) (.refl s) id
  · exact formKept_newLightSettings (.refl s) _
  · exact formKept_putSupply _ s
  · exact formKept_withTables (v := { s.tables with hammerCheck := hammerSettings0 }) (.refl s) id
  · exact formKept_withTables (v := { s.tables with notice := noticeMask0 }) (.refl s) id

theorem formKept_eraseEntry (table i : Nat) (s : State) : FormKept s (eraseEntry table i s).1 := by
  unfold eraseEntry
  split
  · exact formKept_ifUsed (formKept_putBell i _ s)
  · exact formKept_putSwing i _ s
  · exact formKept_putPlan i _ s
  · exact formKept_putTune i _ s
  · exact formKept_putNote i _ s
  · exact formKept_ifUsed (formKept_putDial i _ s)
  · exact formKept_ifUsed (formKept_putCircuit i _ s)
  · exact formKept_putScene i _ s
  · exact formKept_putEntry i _ s
  · exact formKept_putSpecial i _ s
  · exact formKept_putSun i _ s
  · exact formKept_eraseGroup i s

theorem formKept_eraseRequest (body : List Byte) (s : State) : FormKept s (eraseRequest body s).1 := by
  unfold eraseRequest plain
  dsimp only
  split
  · exact formKept_eraseEntry _ _ s
  · exact .refl s

/-! ## The requests of the blocks (R181) -/

theorem formKept_clearNewMarks (s : State) : FormKept s s.clearNewMarks := by
  have bells := formKept_each (fun b t => formKept_setBell (.refl t) b { t.bell b with newMark := false }) (.refl s)
    bellNumbers
  have units := formKept_each (fun n t => formKept_setUnit (.refl t) n { t.unit n with newMark := false }) bells
    unitNumbers
  exact units.moves (moves_withLight (.refl _) _)

theorem formKept_clearUnitFault (s : State) (n : Nat) : FormKept s (s.clearUnitFault n) := by
  unfold State.clearUnitFault
  dsimp only
  split
  · exact formKept_enterSettling (formKept_setUnit (.refl s) _ _) _ _
  · exact formKept_setUnit (.refl s) _ _

theorem formKept_clearfaultRequest (v : List Nat) (s : State) : FormKept s (clearfaultRequest v s).1 := by
  unfold clearfaultRequest
  repeat' split
  · exact (formKept_setBell (.refl s) _ _).moves (moves_post (.refl _) _)
  · exact .refl s
  · exact formKept_clearUnitFault s _
  · exact .refl s
  · exact (FormKept.refl s).moves (moves_withLight (.refl s) _)
  · exact .refl s

theorem formKept_settimeRequest (v : List Nat) (s : State) : FormKept s (settimeRequest v s).1 := by
  unfold settimeRequest
  dsimp only
  repeat' split
  · exact .refl s
  · exact .refl s
  · exact formKept_setTime (.refl s) _
  · exact .refl s

theorem formKept_quietRequest (v : List Nat) (s : State) : FormKept s (quietRequest v s).1 := by
  unfold quietRequest
  split
  · exact (FormKept.refl s).moves (moves_withDay (.refl s) _ id)
  · exact (FormKept.refl s).moves (moves_withDay (.refl s) _ id)
  · exact .refl s

theorem formKept_playRequest (kind : PerfKind) (args : PerfArgs) (due : Option Nat) (s : State) :
    FormKept s (playRequest kind args due s).1 := by
  unfold playRequest
  split
  · exact .refl s
  · dsimp only
    split
    all_goals
      rename_i offered
      exact congrArg Prod.fst offered ▸ (FormKept.refl s).moves (moves_offer (.refl s) _)

theorem formKept_playBody (v : List Nat) (s : State) : FormKept s (playBody v s).1 := by
  unfold playBody
  split
  · split
    · exact formKept_playRequest _ _ _ s
    · exact .refl s
  · exact .refl s

theorem formKept_cancelPerf (id : Nat) (s : State) : FormKept s (cancelPerf id s).1 := by
  unfold cancelPerf
  repeat' split
  · exact .refl s
  · exact .refl s
  · exact (FormKept.refl s).moves (moves_endPlaying (.refl s) _)
  · exact .refl s
  · exact (FormKept.refl s).moves (moves_drop (.refl s) _ _)

theorem formKept_cancelBody (v : List Nat) (s : State) : FormKept s (cancelBody v s).1 := by
  unfold cancelBody
  split
  · exact formKept_cancelPerf _ s
  · exact .refl s

theorem formKept_ringRequest (n minutes : Nat) (s : State) : FormKept s (ringRequest n minutes s).1 := by
  unfold ringRequest
  split
  · exact .refl s
  · exact (FormKept.refl s).moves (moves_startUnit (.refl s) _ _ _ _)

theorem formKept_ringBody (v : List Nat) (s : State) : FormKept s (ringBody v s).1 := by
  unfold ringBody
  split
  · split
    · exact formKept_ringRequest _ _ s
    · exact .refl s
  · exact .refl s

theorem formKept_haltRequest (n : Nat) (s : State) : FormKept s (haltRequest n s) := by
  have halted := (FormKept.refl s).moves (moves_haltUnit (.refl s) n .halt .halt)
  unfold haltRequest
  dsimp only
  split
  · exact halted.moves (moves_withRun (.refl _) _)
  · exact halted

theorem formKept_haltBody (v : List Nat) (s : State) : FormKept s (haltBody v s).1 := by
  unfold haltBody
  repeat' split
  · exact formKept_haltRequest _ s
  · exact .refl s
  · exact .refl s

theorem formKept_pealBody (v : List Nat) (s : State) : FormKept s (pealBody v s).1 := by
  unfold pealBody
  repeat' split
  · exact (FormKept.refl s).moves (moves_startPeal (.refl s) _)
  · exact .refl s
  · exact .refl s

theorem formKept_endPeal (s : State) : FormKept s (endPeal s).1 := by
  unfold endPeal
  split
  · exact .refl s
  · exact .refl s
  · exact (FormKept.refl s).moves (moves_stopRun (.refl s) _ _)

theorem formKept_dialsetRequest (d face : Nat) (next : Dir) (s : State) :
    FormKept s (dialsetRequest d face next s).1 := by
  have set (w : Dial) : FormKept s (s.setDial d w) := formKept_setDial (.refl s) d w
  unfold dialsetRequest
  split
  · exact .refl s
  · dsimp only
    split
    · exact (set _).moves (moves_askDial (moves_moveDial (moves_withdraw (.refl _) _) _ _ _) _)
    · exact (set _).moves (moves_askDial (moves_moveDial (.refl _) _ _ _) _)

theorem formKept_dialsetBody (v : List Nat) (s : State) : FormKept s (dialsetBody v s).1 := by
  unfold dialsetBody
  split
  · split
    · exact formKept_dialsetRequest _ _ _ s
    · exact .refl s
  · exact .refl s

theorem formKept_dialstopRequest (d : Nat) (stop : Bool) (s : State) : FormKept s (dialstopRequest d stop s).1 := by
  have stopped := (formKept_setDial (.refl s) d { s.dial d with stop := true }).moves (moves_withdrawDial (.refl _) d)
  have freed := formKept_setDial (.refl s) d { s.dial d with stop := false }
  unfold dialstopRequest
  dsimp only
  repeat' split
  · exact .refl s
  · exact stopped.moves (moves_moveDial (.refl _) _ _ _)
  · exact stopped
  · exact freed.moves (moves_classify (.refl _) _ _)
  · exact freed

theorem formKept_dialstopBody (v : List Nat) (s : State) : FormKept s (dialstopBody v s).1 := by
  unfold dialstopBody
  repeat' split
  · exact formKept_dialstopRequest _ _ s
  · exact .refl s
  · exact .refl s

theorem formKept_sceneBody (v : List Nat) (s : State) : FormKept s (sceneBody v s).1 := by
  unfold sceneBody
  repeat' split
  · exact (FormKept.refl s).moves (moves_activateScene (.refl s) _)
  · exact .refl s
  · exact .refl s

theorem formKept_overrideRequest (c : Nat) (level : Option Nat) (duration : Nat) (s : State) :
    FormKept s (overrideRequest c level duration s).1 := by
  unfold overrideRequest
  split
  · exact .refl s
  · exact (formKept_setCircuit (.refl s) _ _).moves (moves_post (.refl _) _)

theorem formKept_overrideBody (v : List Nat) (s : State) : FormKept s (overrideBody v s).1 := by
  unfold overrideBody
  repeat' split
  · exact formKept_overrideRequest _ _ _ s
  all_goals exact .refl s

theorem formKept_listRequest (body : List Byte) (s : State) : FormKept s (listRequest body s).1 := by
  unfold listRequest
  dsimp only
  split
  · exact .refl s
  · exact formKept_withLink (.refl s) rfl

theorem formKept_getRequest (body : List Byte) (s : State) : FormKept s (getRequest body s).1 := by
  unfold getRequest
  dsimp only
  split <;> exact .refl s

theorem formKept_fields {run : List Nat → State → Answer} (h : ∀ v, FormKept s (run v s).1) (rooms : List Room)
    (body : List Byte) : FormKept s (fields rooms body run s).1 := by
  unfold fields
  split
  · exact h _
  · exact .refl s

theorem formKept_beginSave (s : State) : FormKept s s.beginSave := formKept_withStore (.refl s) fun _ stored => stored

theorem formKept_runRequest (kind : Nat) (body : List Byte) (s : State) : FormKept s (runRequest kind body s).1 := by
  unfold runRequest
  split
  case h_2 => exact formKept_clearNewMarks s
  case h_3 => exact formKept_fields (formKept_clearfaultRequest · s) _ _
  case h_4 => exact formKept_getRequest _ s
  case h_5 => exact formKept_putRequest _ s
  case h_6 => exact formKept_eraseRequest _ s
  case h_7 => exact formKept_listRequest _ s
  case h_8 => exact formKept_beginSave s
  case h_11 => exact formKept_fields (formKept_settimeRequest · s) _ _
  case h_13 => exact formKept_fields (formKept_quietRequest · s) _ _
  case h_15 => exact formKept_fields (formKept_playBody · s) _ _
  case h_16 => exact formKept_fields (formKept_cancelBody · s) _ _
  case h_18 => exact formKept_fields (formKept_ringBody · s) _ _
  case h_19 => exact formKept_fields (formKept_haltBody · s) _ _
  case h_20 => exact formKept_fields (formKept_pealBody · s) _ _
  case h_21 => exact formKept_endPeal s
  case h_22 => exact formKept_fields (formKept_dialsetBody · s) _ _
  case h_23 => exact formKept_fields (formKept_dialstopBody · s) _ _
  case h_24 => exact formKept_fields (formKept_sceneBody · s) _ _
  case h_25 => exact formKept_fields (formKept_overrideBody · s) _ _
  all_goals exact .refl s

theorem formKept_judgeRequest (kind : Byte) (body : List Byte) (s : State) :
    FormKept s (judgeRequest kind body s).1 := by
  unfold judgeRequest
  repeat' split
  case isFalse.isFalse.isFalse => exact formKept_runRequest _ _ s
  all_goals exact .refl s

/-! ## The store and the start (10.3, 10.4) -/

theorem canonical_tables0 : tables0.canonical := ⟨rfl, rfl, rfl, rfl, rfl, rfl, rfl, rfl, rfl, rfl, rfl⟩

/-- A table copied from one canonical set into another leaves the second canonical. -/
theorem canonical_copy {dst src : Tables} (hd : dst.canonical) (hs : src.canonical) (i : TableId) :
    (dst.copy src i).canonical := by
  obtain ⟨bell, swing, plan, tune, note, dial, circuit, scene, entry, special, sun⟩ := hd
  obtain ⟨bell', swing', plan', tune', note', dial', circuit', scene', entry', special', sun'⟩ := hs
  cases i with
  | bell => exact ⟨bell', swing, plan, tune, note, dial, circuit, scene, entry, special, sun⟩
  | swing => exact ⟨bell, swing', plan, tune, note, dial, circuit, scene, entry, special, sun⟩
  | plan => exact ⟨bell, swing, plan', tune, note, dial, circuit, scene, entry, special, sun⟩
  | tune => exact ⟨bell, swing, plan, tune', note, dial, circuit, scene, entry, special, sun⟩
  | note => exact ⟨bell, swing, plan, tune, note', dial, circuit, scene, entry, special, sun⟩
  | dial => exact ⟨bell, swing, plan, tune, note, dial', circuit, scene, entry, special, sun⟩
  | circuit => exact ⟨bell, swing, plan, tune, note, dial, circuit', scene, entry, special, sun⟩
  | scene => exact ⟨bell, swing, plan, tune, note, dial, circuit, scene', entry, special, sun⟩
  | schedule => exact ⟨bell, swing, plan, tune, note, dial, circuit, scene, entry', special, sun⟩
  | special => exact ⟨bell, swing, plan, tune, note, dial, circuit, scene, entry, special', sun⟩
  | sun => exact ⟨bell, swing, plan, tune, note, dial, circuit, scene, entry, special, sun'⟩
  | time | strike | light | supply | hammerCheck | notice =>
    exact ⟨bell, swing, plan, tune, note, dial, circuit, scene, entry, special, sun⟩

/-- The tables a start loads are canonical where the stored ones are. -/
theorem canonical_load {st : Store} (h : st.stored.canonical) : st.load.canonical := by
  unfold Store.load
  generalize st.stored = loaded at h
  induction st.bad generalizing loaded with
  | nil => exact h
  | cons i bad ih => exact ih _ (canonical_copy h canonical_tables0 i)

theorem formKept_saveTableWritten (readBack : Bool) (s : State) : FormKept s (saveTableWritten readBack s) := by
  have written (st : TableId) : s.tables.canonical → s.store.stored.canonical →
      (if readBack then s.store.complete s.tables st else s.store).stored.canonical := fun used stored => by
    split
    · exact canonical_copy stored used st
    · exact stored
  unfold saveTableWritten
  split
  · exact .refl s
  · dsimp only
    split
    · exact formKept_withStore (.refl s) (written _)
    · exact (formKept_withStore (v := { if readBack then s.store.complete s.tables _ else s.store with saving := none })
        (.refl s) (written _)).moves (moves_notify (.refl _) _)

theorem formKept_openObjects (h : FormKept s t) : FormKept s t.openObjects := by
  have bells := formKept_each (fun b u => formKept_setBell (.refl u) b (openBell (t.unitOfBell b) (t.bell b))) h
    bellNumbers
  have units := formKept_each (fun n u => formKept_setUnit (.refl u) n (openUnit (t.swingRec n))) bells unitNumbers
  have dials := formKept_each (fun d u => formKept_setDial (.refl u) d (openDial (t.dial d))) units dialNumbers
  exact formKept_each (fun c u => formKept_setCircuit (.refl u) c (openCircuit (t.circuitRec c) (t.circuit c))) dials
    circuitNumbers

/-- The opening of LOADING empties the queues and the grant records, and takes its tables from the store. -/
theorem formKept_openLoading (h : FormKept s t) (cause : StartCause) : FormKept s (openLoading cause t) :=
  formKept_openObjects <| h.trans
    { queues := fun _ => ⟨Nat.zero_le _, Nat.zero_le _⟩
      objects := fun ⟨_, rest⟩ => ⟨rfl, rest⟩
      tables := fun ⟨_, stored⟩ => ⟨canonical_load stored, stored⟩ }

theorem formKept_clearBells (h : FormKept s t) :
    FormKept s (t.each bellNumbers fun b t => t.setBell b (clearedBell (t.bell b))) :=
  formKept_each (fun b u => formKept_setBell (.refl u) b (clearedBell (u.bell b))) h _

theorem formKept_coldStart (s : State) : FormKept s s.coldStart := by
  have emptied : FormKept s { s with
      time := coldTime s.time
      day := dayProgramme0
      chime := { s.chime with quarterGuard := none }
      dials := { s.dials with dials := [] }
      floods := { s.floods with lastScene := none } } :=
    ⟨id, fun ⟨grants, bells, units, _, circuits, _⟩ => ⟨grants, bells, units, rfl, circuits, rfl⟩, id⟩
  exact formKept_each (fun c u => formKept_setCircuit (.refl u) c { u.circuit c with sceneLevel := 0 })
    (formKept_clearBells emptied) _

theorem formKept_warmStart (s : State) : FormKept s s.warmStart := by
  have guards : FormKept s (s.withDay { s.day with guards := [] }) :=
    (FormKept.refl s).moves (moves_withDay (.refl s) _ fun _ => rfl)
  unfold State.warmStart
  dsimp only
  repeat' split
  · exact formKept_clearBells guards
  · exact formKept_clearBells (.refl s)
  · exact guards
  · exact .refl s

theorem formKept_loadingEnd (s : State) : FormKept s (loadingEnd s) := by
  have started : FormKept s (if s.start.retainedGood then s.warmStart else s.coldStart) := by
    split
    · exact formKept_warmStart s
    · exact formKept_coldStart s
  unfold loadingEnd
  dsimp only
  split
  · exact (formKept_withStart started _).moves (moves_postAll (.refl _) _)
  · exact .refl s

end Sys2Proof.Proofs
end

section
/-! SUPPORT. Every command keeps the bounds of the queues and the canonical form of the tables, and leaves no message
(R79, R189, logs 3 and 34). -/
namespace Sys2Proof.Proofs

open Sys2Proof.Machine Sys2Proof.Claims

variable {s t u : State}

/-! ## Frames and bytes of the line (R180-R183) -/

theorem formKept_owe (h : FormKept s t) (o : Owed) : FormKept s (t.owe o) := formKept_withLink h rfl

theorem formKept_takeFrame (h : FormKept s t) (kind : Byte) (body : List Byte) : FormKept s (takeFrame kind body t) := by
  have free : FormKept s t.endListing.hunting := formKept_withLink (formKept_withLink h rfl) rfl
  have busy : FormKept s (t.endListing.hunting.withLink { t.endListing.hunting.link with slotBusy := true }) :=
    formKept_withLink free rfl
  unfold takeFrame
  dsimp only
  repeat' split
  · exact formKept_owe free _
  · exact formKept_owe free _
  · exact formKept_owe (busy.trans (formKept_judgeRequest _ _ _)) _

theorem formKept_wholeFrame (kind : Byte) (body : List Byte) (s : State) : FormKept s (wholeFrame kind body s) :=
  formKept_takeFrame (t := s.withLink (s.link.heard s.now)) (formKept_withLink (.refl s) rfl) _ _

theorem formKept_discard (h : FormKept s t) (e : LinkError) : FormKept s (t.discard e) := formKept_withLink h rfl

theorem formKept_receive (h : FormKept s t) (r : Receiver) : FormKept s (t.receive r) := formKept_withLink h rfl

theorem formKept_hunt (h : FormKept s t) (b : RxByte) : FormKept s (t.hunt b) := by
  unfold State.hunt
  split
  · exact formKept_receive h _
  · exact h

theorem formKept_takeByte (h : FormKept s t) (v : Byte) : FormKept s (t.takeByte v) := by
  unfold State.takeByte
  split
  · exact h
  · split
    · exact formKept_receive h _
    · exact formKept_discard h _
  · exact formKept_receive h _
  · exact formKept_receive h _
  · repeat' split
    · exact formKept_takeFrame h _ _
    · exact formKept_discard h _
    · exact formKept_discard h _

theorem formKept_receiveByte (b : RxByte) (s : State) : FormKept s (receiveByte b s) := by
  have waited : FormKept s (s.withTime (s.time.advance b.gap)) := formKept_withTime (.refl s) _
  unfold receiveByte
  dsimp only
  repeat' split
  · exact formKept_hunt waited b
  · exact formKept_hunt (formKept_discard waited _) b
  · exact formKept_discard waited _
  · exact formKept_takeByte waited _

theorem formKept_transmitFrameEnd (s : State) : FormKept s (transmitFrameEnd s) := by
  unfold transmitFrameEnd
  split
  · have ended : FormKept s (s.withLink { s.link with sending := none }) := formKept_withLink (.refl s) rfl
    unfold State.sent
    split
    · exact formKept_withLink ended rfl
    · exact formKept_openLoading ended _
    · exact formKept_withLink ended rfl
    · exact formKept_withLink ended rfl
    · exact ended
  · exact .refl s

/-! ## The time base (R2-R6, R21) -/

theorem formKept_civilMinuteBoundary (s : State) : FormKept s (civilMinuteBoundary s) := by
  unfold civilMinuteBoundary
  split
  · exact (formKept_withTime (formKept_runToKept (.refl s) _) _).moves (moves_postAll (.refl _) _)
  · exact .refl s

theorem formKept_passHalfMinute {half : Nat} (h : passHalfMinute s = some (t, half)) : FormKept s t := by
  unfold passHalfMinute at h
  split at h
  · cases h
    exact formKept_withTime (formKept_runToKept (.refl s) _) _
  · cases h

theorem formKept_civilHalfMinuteBoundary (s : State) : FormKept s (civilHalfMinuteBoundary s) := by
  unfold civilHalfMinuteBoundary
  split
  · rename_i t half passed
    refine (formKept_passHalfMinute passed).moves
      (moves_each (moves_setTargets (.refl t) _) _ _ fun d u hu => ?_)
    split
    · exact hu
    · exact moves_riseDial hu d
  · exact .refl s

theorem formKept_keptSecondEnd (s : State) : FormKept s (keptSecondEnd s) := by
  unfold keptSecondEnd
  repeat' split
  · exact .refl s
  · exact formKept_runToKept (.refl s) _
  · exact formKept_runToKept (.refl s) _
  · exact .refl s

theorem formKept_rangeEnd (s : State) : FormKept s (rangeEnd s) := by
  unfold rangeEnd
  split
  · exact (formKept_runToKept (.refl s) _).moves (moves_loseTime (.refl _))
  · exact .refl s

theorem formKept_seasonalInstant (s : State) : FormKept s (seasonalInstant s) := by
  unfold seasonalInstant
  split
  · split
    · refine formKept_retime ?_ _ _ _
      repeat' split
      · exact .refl s
      · exact formKept_runToKept (.refl s) _
      · exact .refl s
    · exact .refl s
  · exact .refl s

theorem formKept_lossOfLock (s : State) : FormKept s (lossOfLock s) := by
  unfold lossOfLock
  split
  · exact formKept_holdOver (formKept_runTo (.refl s) _) _
  · exact .refl s

theorem formKept_holdoverLimit (s : State) : FormKept s (holdoverLimit s) := by
  unfold holdoverLimit
  split
  · exact (formKept_runToKept (.refl s) _).moves (moves_freeRun (.refl _))
  · exact .refl s

/-! ## The reference monitor (R12-R18) -/

theorem formKept_whenReady {f : State → State} (h : FormKept s (f s)) : FormKept s (s.whenReady f) := by
  unfold State.whenReady
  split
  · exact h
  · exact .refl s

theorem formKept_whenReading {f : State → State} (h : FormKept s (f s)) : FormKept s (s.whenReading f) := by
  refine formKept_whenReady ?_
  split
  · exact .refl s
  · exact h

theorem formKept_telegramRecord (chars : List Byte) (s : State) : FormKept s (telegramRecord chars s) :=
  formKept_whenReading (formKept_foldl (fun t c => formKept_takeChar (.refl t) c) (.refl s) chars)

theorem formKept_telegramRecordTimeout (s : State) : FormKept s (telegramRecordTimeout s) := by
  refine formKept_whenReading ?_
  split
  · exact formKept_failRecord (formKept_runTo (.refl s) _) _
  · exact .refl s

theorem formKept_telegramSilence (s : State) : FormKept s (telegramSilence s) := by
  refine formKept_whenReading ?_
  split
  · exact formKept_withRefs (formKept_runTo (.refl s) _) _
  · exact .refl s

theorem formKept_telegramMark (s : State) : FormKept s (telegramMark s) := by
  refine formKept_whenReading ?_
  dsimp only
  repeat' split
  · exact formKept_withRefs (.refl s) _
  · exact formKept_phaseOf (formKept_withRefs (.refl s) _) _ _
  · exact formKept_phaseOf (formKept_withRefs (.refl s) _) _ _
  · exact formKept_phaseOf (formKept_withRefs (formKept_failPending (.refl s)) _) _ _

theorem formKept_telegramMarkDeadline (s : State) : FormKept s (telegramMarkDeadline s) := by
  refine formKept_whenReading ?_
  split
  · exact formKept_failPending (formKept_runTo (.refl s) _)
  · exact .refl s

theorem formKept_secondMarkEdge (s : State) : FormKept s (secondMarkEdge s) := by
  refine formKept_whenReady ?_
  split
  · exact .refl s
  · exact formKept_decideEach (formKept_withRefs (formKept_withRefs (.refl s) _) _) _

theorem formKept_secondMarkTimeout (s : State) : FormKept s (secondMarkTimeout s) := by
  refine formKept_whenReady ?_
  split
  · exact formKept_withRefs (formKept_runTo (.refl s) _) _
  · exact .refl s

theorem formKept_skewDecisionTimeout (s : State) : FormKept s (skewDecisionTimeout s) := by
  refine formKept_whenReady ?_
  split
  · exact formKept_decideEach (after := fun _ => none) (formKept_withRefs (formKept_runTo (.refl s) _) _) _
  · exact .refl s

/-! ## The chime player (R81-R87) -/

theorem formKept_headDue (s : State) : FormKept s (headDue s) := by
  unfold headDue
  repeat' split
  · exact .refl s
  · exact formKept_runTo (.refl s) _
  · exact .refl s

theorem formKept_startDeadline (id : Nat) (s : State) : FormKept s (startDeadline id s) := by
  unfold startDeadline
  repeat' split
  · exact .refl s
  · exact (formKept_runTo (.refl s) _).moves (moves_drop (.refl _) _ _)
  · exact .refl s

theorem formKept_noteDue (s : State) : FormKept s (noteDue s) := by
  unfold noteDue
  split
  · dsimp only
    split
    · exact (formKept_runTo (.refl s) _).moves (moves_requestNote (moves_onPlaying (.refl _) _))
    · exact formKept_runTo (.refl s) _
  · exact .refl s

theorem formKept_noteWaitExpiry (s : State) : FormKept s (noteWaitExpiry s) := by
  unfold noteWaitExpiry
  split
  · exact (formKept_runTo (.refl s) _).moves (moves_post (moves_postAll (moves_setPlaying (.refl _) _) _) _)
  · exact .refl s

theorem formKept_tailEnd (s : State) : FormKept s (tailEnd s) := by
  unfold tailEnd
  split
  · exact (formKept_runTo (.refl s) _).moves (moves_endPlaying (.refl _) _)
  · exact .refl s

/-! ## The hammers (R58, R62) -/

theorem formKept_pulseEnd (b : Nat) (s : State) : FormKept s (pulseEnd b s) := by
  unfold pulseEnd
  split
  · exact (formKept_runTo (.refl s) _).moves (moves_pulseEnds (.refl _) _)
  · exact .refl s

theorem formKept_recoveryEnd (b : Nat) (s : State) : FormKept s (recoveryEnd b s) := by
  unfold recoveryEnd
  split
  · have idle (instant : Nat) (w : Bell) : FormKept s ((s.runTo instant).setBell b w) :=
      formKept_setBell (formKept_runTo (.refl s) _) _ _
    dsimp only
    repeat' split
    · exact idle _ _
    · exact (idle _ _).moves (moves_answerRefused (.refl _) _ _)
    · exact (idle _ _).moves (moves_takeBlow (.refl _) _ _ _)
  · exact .refl s

theorem formKept_senseInstant (b : Nat) (s : State) : FormKept s (senseInstant b s) := by
  unfold senseInstant
  split
  · exact (formKept_setBell (formKept_runTo (.refl s) _) _ _).moves (moves_queueConversion (.refl _) _)
  · exact .refl s

/-! ## The swing units and the run (R95-R103, R110, R111) -/

theorem formKept_reversal (n : Nat) (s : State) : FormKept s (reversal n s) := by
  have turned : FormKept s (s.setUnit n (s.unit n).reversed) := formKept_setUnit (.refl s) _ _
  unfold reversal
  dsimp only
  split
  · exact .refl s
  · split
    · exact formKept_takeTurn turned _ _ _
    · split
      · exact formKept_enterSettling turned _ _
      · exact turned

theorem formKept_indexCrossing (n : Nat) (s : State) : FormKept s (indexCrossing n s) := by
  unfold indexCrossing
  dsimp only
  repeat' split
  · exact formKept_setUnit (.refl s) _ _
  · exact formKept_setUnit (.refl s) _ _
  · exact formKept_enterFault (formKept_setUnit (.refl s) _ _) _ _
  · exact formKept_setUnit (.refl s) _ _

theorem formKept_raiseLimitExpiry (n : Nat) (s : State) : FormKept s (raiseLimitExpiry n s) := by
  unfold raiseLimitExpiry
  split
  · exact formKept_enterFault (formKept_runTo (.refl s) _) _ _
  · exact .refl s

theorem formKept_lowerLimitExpiry (n : Nat) (s : State) : FormKept s (lowerLimitExpiry n s) := by
  unfold lowerLimitExpiry
  split
  · exact formKept_enterFault (formKept_runTo (.refl s) _) _ _
  · exact .refl s

theorem formKept_noTurnTimeout (n : Nat) (s : State) : FormKept s (noTurnTimeout n s) := by
  unfold noTurnTimeout
  split
  · exact formKept_enterSettling (formKept_runTo (.refl s) _) _ _
  · exact .refl s

theorem formKept_driveWindowExpiry (n : Nat) (s : State) : FormKept s (driveWindowExpiry n s) := by
  unfold driveWindowExpiry
  split
  · exact (formKept_runTo (.refl s) _).moves (moves_cutDrive (.refl _) _)
  · exact .refl s

theorem formKept_driveImpulseEnd (n : Nat) (s : State) : FormKept s (driveImpulseEnd n s) := by
  unfold driveImpulseEnd
  split
  · exact (formKept_runTo (.refl s) _).moves (moves_cutDrive (.refl _) _)
  · exact .refl s

theorem formKept_ringEnd (n : Nat) (s : State) : FormKept s (ringEnd n s) := by
  unfold ringEnd
  repeat' split
  · exact (formKept_runTo (.refl s) _).moves (moves_stopUnit (.refl _) _ _ _)
  · exact .refl s
  · exact .refl s

theorem formKept_settleTimerExpiry (n : Nat) (s : State) : FormKept s (settleTimerExpiry n s) := by
  unfold settleTimerExpiry
  split
  · exact (formKept_setUnit (formKept_runTo (.refl s) _) _ _).moves
      (moves_unitNotice (moves_moveClaim (.refl _) _ _) _ _ _)
  · exact .refl s

theorem formKept_encoderEdge (n : Nat) (dir : Dir) (s : State) : FormKept s (encoderEdge n dir s) :=
  formKept_setUnit (.refl s) _ _

theorem formKept_startStep (s : State) : FormKept s (startStep s) := by
  unfold startStep
  split
  · exact (formKept_runTo (.refl s) _).moves (moves_takeStartStep (.refl _))
  · exact .refl s

theorem formKept_pealEndInstant (s : State) : FormKept s (pealEndInstant s) := by
  unfold pealEndInstant
  split
  · exact (formKept_runTo (.refl s) _).moves (moves_stopRun (.refl _) _ _)
  · exact .refl s

theorem formKept_stopStep (s : State) : FormKept s (stopStep s) := by
  unfold stopStep
  split
  · exact (formKept_runTo (.refl s) _).moves (moves_settleRun (moves_takeStopStep (.refl _)))
  · exact .refl s

/-! ## The dials and the circuits (R119, R120, R135-R138) -/

theorem formKept_dialSpacingExpiry (d : Nat) (s : State) : FormKept s (dialSpacingExpiry d s) := by
  unfold dialSpacingExpiry
  split
  · exact (formKept_setDial (formKept_runTo (.refl s) _) _ _).moves (moves_askDial (.refl _) _)
  · exact .refl s

theorem formKept_dialImpulseEnd (d : Nat) (s : State) : FormKept s (dialImpulseEnd d s) := by
  unfold dialImpulseEnd
  split
  · have ended (instant : Nat) (w : Dial) : FormKept s (((s.runTo instant).releaseAll (.dial d)).setDial d w) :=
      formKept_setDial ((formKept_runTo (.refl s) _).moves (moves_releaseAll (.refl _) _)) _ _
    dsimp only
    repeat' split
    · exact (ended _ _).moves (moves_classify (.refl _) _ _)
    · exact (ended _ _).moves (moves_moveDial (.refl _) _ _ _)
    · exact (ended _ _).moves (moves_judgeDial (.refl _) _)
  · exact .refl s

theorem formKept_warmUpEnd (c : Nat) (s : State) : FormKept s (warmUpEnd c s) := by
  unfold warmUpEnd
  split
  · exact (formKept_changeCircuit (formKept_runTo (.refl s) _) _ _ _ _).moves (moves_release (.refl _) _ _)
  · exact .refl s

theorem formKept_restrikeEnd (c : Nat) (s : State) : FormKept s (restrikeEnd c s) := by
  unfold restrikeEnd
  split
  · have ran (instant : Nat) : FormKept s (s.runTo instant) := formKept_runTo (.refl s) _
    dsimp only
    repeat' split
    · exact formKept_setCircuit (ran _) _ _
    · exact (ran _).moves (moves_strike (.refl _) _ _)
    · exact formKept_changeCircuit (ran _) _ _ _ _
  · exact .refl s

theorem formKept_fadeStep (c : Nat) (s : State) : FormKept s (fadeStep c s) := by
  unfold fadeStep
  split
  · have stepped (instant : Nat) (w : Circuit) : FormKept s ((s.runTo instant).setCircuit c w) :=
      formKept_setCircuit (formKept_runTo (.refl s) _) _ _
    rename_i instant _ _ _
    dsimp only
    generalize (if _ < ((s.runTo instant).circuit c).target then _ else _) = level
    split
    · exact (stepped _ _).moves (moves_darken (.refl _) _ _)
    · split
      · exact (stepped _ _).moves (moves_release (moves_runFade (.refl _) _) _ _)
      · exact (stepped _ _).moves (moves_runFade (.refl _) _)
  · exact .refl s

theorem formKept_overrideExpiry (c : Nat) (s : State) : FormKept s (overrideExpiry c s) := by
  unfold overrideExpiry
  split
  · exact (formKept_setCircuit (formKept_runTo (.refl s) _) _ _).moves (moves_post (.refl _) _)
  · exact .refl s

/-! ## The light monitor, the converter and the arbiter (R147, R151, R164) -/

theorem formKept_sampleInstant (s : State) : FormKept s (sampleInstant s) := by
  unfold sampleInstant
  split
  · exact (formKept_runTo (.refl s) _).moves (moves_sampleNow (.refl _))
  · exact .refl s

theorem formKept_conversionEnd (reading : Nat) (s : State) : FormKept s (conversionEnd reading s) := by
  unfold conversionEnd
  split
  · exact .refl s
  · have ended (instant : Nat) (c : Converter) : FormKept s (((s.runTo instant).withConverter c).beginConversion) :=
      (formKept_runTo (.refl s) _).moves (moves_beginConversion (moves_withConverter (.refl _) _))
    dsimp only
    split
    · exact formKept_coilResult (ended _ _) _ _
    · exact formKept_lightResult (ended _ _) _

theorem formKept_shedTimerExpiry (c : Claimant) (s : State) : FormKept s (shedTimerExpiry c s) := by
  unfold shedTimerExpiry
  split
  · exact .refl s
  · split
    · exact .refl s
    · dsimp only
      split
      · exact formKept_withSupply (formKept_runTo (.refl s) _) rfl
      · refine FormKept.moves ?_ (moves_post (moves_notify (.refl _) _) _)
        exact formKept_withSupply (formKept_withSupply (formKept_runTo (.refl s) _) rfl) rfl

/-! ## The power monitor (R168-R171) -/

theorem formKept_whenRunning {f : State → State} (h : FormKept s t) (hf : FormKept s (f t)) :
    FormKept s (t.whenRunning f) := by
  unfold State.whenRunning
  split
  · exact hf
  · exact h

theorem moves_loseMains (h : Moves s t) : Moves s t.loseMains :=
  moves_lightLoss (moves_converterLoss (moves_supplyLoss (moves_lossFloods (moves_lossDials (moves_lossRun
    (moves_lossSwing (moves_abortPlaying (moves_lossBells h) _ _)))))))

theorem formKept_setMains (h : FormKept s t) (mains : Mains) (settle : Option Nat) :
    FormKept s (t.setMains mains settle) := by
  have set : FormKept s (t.withPower { t.power with mains := mains, settle := settle }) := formKept_withPower h _
  have told := set.moves (moves_notify (.refl _) (.mains t.power.mains mains t.now))
  unfold State.setMains
  dsimp only
  repeat' split
  · exact set
  · exact told.moves (moves_loseMains (.refl _))
  · exact told.moves (moves_postAll (.refl _) _)
  · exact told

theorem formKept_mainsLineAbsent (s : State) : FormKept s (mainsLineAbsent s) := by
  have line : FormKept s (s.withPower { s.power with linePresent := false }) := formKept_withPower (.refl s) _
  unfold mainsLineAbsent
  refine formKept_whenRunning line ?_
  split
  · exact line
  · exact formKept_setMains line _ _

theorem formKept_mainsLinePresent (s : State) : FormKept s (mainsLinePresent s) := by
  have line : FormKept s (s.withPower { s.power with linePresent := true }) := formKept_withPower (.refl s) _
  unfold mainsLinePresent
  refine formKept_whenRunning line ?_
  split
  · exact formKept_setMains line _ _
  · exact line

theorem formKept_mainsSettleExpiry (s : State) : FormKept s (mainsSettleExpiry s) := by
  refine formKept_whenRunning (.refl s) ?_
  split
  · exact .refl s
  · exact formKept_setMains (formKept_runTo (.refl s) _) _ _

theorem formKept_accessSwitchChange (shows : Access) (s : State) : FormKept s (accessSwitchChange shows s) := by
  have shown : FormKept s (s.withPower { s.power with accessShows := shows }) := formKept_withPower (.refl s) _
  unfold accessSwitchChange
  split
  · exact .refl s
  · exact formKept_whenRunning shown (formKept_withPower shown _)

theorem formKept_accessTimerExpiry (s : State) : FormKept s (accessTimerExpiry s) := by
  refine formKept_whenRunning (.refl s) ?_
  split
  · exact .refl s
  · have set (instant : Nat) (v : Power) : FormKept s ((s.runTo instant).withPower v) :=
      formKept_withPower (formKept_runTo (.refl s) _) _
    dsimp only
    split
    · exact (set _ _).moves (moves_postAll (moves_notify (.refl _) _) _)
    · exact set _ _

theorem formKept_keySwitchChange (shows : Key) (s : State) : FormKept s (keySwitchChange shows s) := by
  have shown : FormKept s (s.withPower { s.power with keyShows := shows }) := formKept_withPower (.refl s) _
  unfold keySwitchChange
  split
  · exact .refl s
  · exact formKept_whenRunning shown (formKept_withPower shown _)

theorem formKept_keyTimerExpiry (s : State) : FormKept s (keyTimerExpiry s) := by
  refine formKept_whenRunning (.refl s) ?_
  split
  · exact .refl s
  · exact formKept_withPower (formKept_runTo (.refl s) _) _

/-! ## Every command -/

/-- What every command keeps: the form, and no message is left (log 3). -/
def WellKept (s t : State) : Prop := FormKept s t ∧ (s.settled → t.settled)

/-- The messages of a command and the transmitter keep what the command's own effect keeps, and no message is left. -/
theorem wellKept_finish (h : FormKept s t) : WellKept s t.finish := by
  obtain ⟨-, queues, objects, settled, -⟩ := t.finish_keeps
  obtain ⟨v, m, -, e⟩ := t.finish_eq
  have tables : t.tablesCanonical → t.finish.tablesCanonical := fun canonical => by
    unfold State.tablesCanonical
    rw [e, v.pump_eq, State.withLink_tables, State.withLink_store, m.tables, m.store]
    exact canonical
  exact ⟨h.trans ⟨queues, objects, tables⟩, fun _ => settled⟩

theorem WellKept.refl (s : State) : WellKept s s := ⟨.refl s, id⟩

theorem wellKept_command {f : State → State} (h : FormKept s (f s)) : WellKept s (command f s) := by
  unfold command
  split
  · exact wellKept_finish h
  · exact .refl s

theorem wellKept_readyCommand {f : State → State} (h : FormKept s (f s)) : WellKept s (readyCommand f s) := by
  unfold readyCommand
  split
  · exact wellKept_finish h
  · exact .refl s

theorem wellKept_bytes (bytes : List RxByte) (s : State) :
    WellKept s (bytes.foldl (fun t b => command (receiveByte b) t) s) := by
  induction bytes generalizing s with
  | nil => exact .refl s
  | cons b bytes ih =>
    obtain ⟨form, settles⟩ := wellKept_command (formKept_receiveByte b s)
    obtain ⟨form', settles'⟩ := ih (command (receiveByte b) s)
    exact ⟨form.trans form', settles' ∘ settles⟩

/-- The opening of LOADING leaves no message. -/
theorem settled_openLoading (cause : StartCause) (s : State) : (openLoading cause s).settled :=
  openObjects_keeps (P := State.settled) (fun _ _ _ _ _ settled => settled) rfl

theorem wellKept_openLoading (h : FormKept s t) (cause : StartCause) : WellKept s (openLoading cause t) :=
  ⟨formKept_openLoading h cause, fun _ => settled_openLoading cause t⟩

theorem wellKept_withStart (s : State) (v : Start) : WellKept s (s.withStart v) := ⟨formKept_withStart (.refl s) v, id⟩

theorem wellKept_resetLineRelease (s : State) : WellKept s (resetLineRelease s) := by
  unfold resetLineRelease
  dsimp only
  repeat' split
  · exact wellKept_openLoading (formKept_withStart (.refl s) _) _
  · exact wellKept_withStart s _
  · exact .refl s

theorem wellKept_powerOn (retained : Bool) (s : State) : WellKept s (powerOn retained s) := by
  unfold powerOn
  dsimp only
  repeat' split
  · exact .refl s
  · exact wellKept_withStart s _
  · exact wellKept_openLoading (formKept_withStart (.refl s) _) _

/-- Every command has a next state that keeps the form and is settled again. -/
theorem wellKept_exec (i : Instr) (s : State) : ∃ t, exec i s = .next t ∧ WellKept s t := by
  cases i with
  | status | faults | clearfault | get | put | erase | list | save | restart | rate | settime | timeinfo | quiet
  | dayinfo | play | cancel | queue | ring | halt | peal | endpeal | dialset | dialstop | scene | override
  | floodinfo | lightinfo | supplyinfo | unknownKindFrame =>
    exact ⟨_, rfl, wellKept_command (formKept_wholeFrame _ _ s)⟩
  | frameDiscarded bytes => exact ⟨_, rfl, wellKept_bytes bytes s⟩
  | transmitFrameEnd => exact ⟨_, rfl, wellKept_command (formKept_transmitFrameEnd s)⟩
  | civilMinuteBoundary => exact ⟨_, rfl, wellKept_readyCommand (formKept_civilMinuteBoundary s)⟩
  | civilHalfMinuteBoundary => exact ⟨_, rfl, wellKept_readyCommand (formKept_civilHalfMinuteBoundary s)⟩
  | keptSecondEnd => exact ⟨_, rfl, wellKept_readyCommand (formKept_keptSecondEnd s)⟩
  | rangeEnd => exact ⟨_, rfl, wellKept_readyCommand (formKept_rangeEnd s)⟩
  | seasonalInstant => exact ⟨_, rfl, wellKept_readyCommand (formKept_seasonalInstant s)⟩
  | lossOfLock => exact ⟨_, rfl, wellKept_readyCommand (formKept_lossOfLock s)⟩
  | holdoverLimit => exact ⟨_, rfl, wellKept_readyCommand (formKept_holdoverLimit s)⟩
  | telegramRecord chars => exact ⟨_, rfl, wellKept_readyCommand (formKept_telegramRecord chars s)⟩
  | telegramRecordTimeout => exact ⟨_, rfl, wellKept_readyCommand (formKept_telegramRecordTimeout s)⟩
  | telegramMark => exact ⟨_, rfl, wellKept_readyCommand (formKept_telegramMark s)⟩
  | telegramMarkDeadline => exact ⟨_, rfl, wellKept_readyCommand (formKept_telegramMarkDeadline s)⟩
  | telegramSilence => exact ⟨_, rfl, wellKept_readyCommand (formKept_telegramSilence s)⟩
  | secondMarkEdge => exact ⟨_, rfl, wellKept_readyCommand (formKept_secondMarkEdge s)⟩
  | secondMarkTimeout => exact ⟨_, rfl, wellKept_readyCommand (formKept_secondMarkTimeout s)⟩
  | skewDecisionTimeout => exact ⟨_, rfl, wellKept_readyCommand (formKept_skewDecisionTimeout s)⟩
  | headDue => exact ⟨_, rfl, wellKept_readyCommand (formKept_headDue s)⟩
  | startDeadline id => exact ⟨_, rfl, wellKept_readyCommand (formKept_startDeadline id s)⟩
  | noteDue => exact ⟨_, rfl, wellKept_readyCommand (formKept_noteDue s)⟩
  | noteWaitExpiry => exact ⟨_, rfl, wellKept_readyCommand (formKept_noteWaitExpiry s)⟩
  | tailEnd => exact ⟨_, rfl, wellKept_readyCommand (formKept_tailEnd s)⟩
  | pulseEnd b => exact ⟨_, rfl, wellKept_readyCommand (formKept_pulseEnd b s)⟩
  | recoveryEnd b => exact ⟨_, rfl, wellKept_readyCommand (formKept_recoveryEnd b s)⟩
  | senseInstant b => exact ⟨_, rfl, wellKept_readyCommand (formKept_senseInstant b s)⟩
  | reversal n => exact ⟨_, rfl, wellKept_command (formKept_reversal n s)⟩
  | indexCrossing n => exact ⟨_, rfl, wellKept_command (formKept_indexCrossing n s)⟩
  | raiseLimitExpiry n => exact ⟨_, rfl, wellKept_readyCommand (formKept_raiseLimitExpiry n s)⟩
  | driveWindowExpiry n => exact ⟨_, rfl, wellKept_readyCommand (formKept_driveWindowExpiry n s)⟩
  | driveImpulseEnd n => exact ⟨_, rfl, wellKept_readyCommand (formKept_driveImpulseEnd n s)⟩
  | ringEnd n => exact ⟨_, rfl, wellKept_readyCommand (formKept_ringEnd n s)⟩
  | noTurnTimeout n => exact ⟨_, rfl, wellKept_readyCommand (formKept_noTurnTimeout n s)⟩
  | lowerLimitExpiry n => exact ⟨_, rfl, wellKept_readyCommand (formKept_lowerLimitExpiry n s)⟩
  | settleTimerExpiry n => exact ⟨_, rfl, wellKept_command (formKept_settleTimerExpiry n s)⟩
  | startStep => exact ⟨_, rfl, wellKept_readyCommand (formKept_startStep s)⟩
  | pealEndInstant => exact ⟨_, rfl, wellKept_readyCommand (formKept_pealEndInstant s)⟩
  | stopStep => exact ⟨_, rfl, wellKept_readyCommand (formKept_stopStep s)⟩
  | dialSpacingExpiry d => exact ⟨_, rfl, wellKept_readyCommand (formKept_dialSpacingExpiry d s)⟩
  | dialImpulseEnd d => exact ⟨_, rfl, wellKept_readyCommand (formKept_dialImpulseEnd d s)⟩
  | warmUpEnd c => exact ⟨_, rfl, wellKept_readyCommand (formKept_warmUpEnd c s)⟩
  | restrikeEnd c => exact ⟨_, rfl, wellKept_command (formKept_restrikeEnd c s)⟩
  | fadeStep c => exact ⟨_, rfl, wellKept_readyCommand (formKept_fadeStep c s)⟩
  | overrideExpiry c => exact ⟨_, rfl, wellKept_readyCommand (formKept_overrideExpiry c s)⟩
  | sampleInstant => exact ⟨_, rfl, wellKept_readyCommand (formKept_sampleInstant s)⟩
  | conversionEnd reading => exact ⟨_, rfl, wellKept_readyCommand (formKept_conversionEnd reading s)⟩
  | shedTimerExpiry c => exact ⟨_, rfl, wellKept_readyCommand (formKept_shedTimerExpiry c s)⟩
  | mainsLineAbsent => exact ⟨_, rfl, wellKept_finish (formKept_mainsLineAbsent s)⟩
  | mainsLinePresent => exact ⟨_, rfl, wellKept_finish (formKept_mainsLinePresent s)⟩
  | mainsSettleExpiry => exact ⟨_, rfl, wellKept_command (formKept_mainsSettleExpiry s)⟩
  | accessSwitchChange shows => exact ⟨_, rfl, wellKept_finish (formKept_accessSwitchChange shows s)⟩
  | accessTimerExpiry => exact ⟨_, rfl, wellKept_command (formKept_accessTimerExpiry s)⟩
  | keySwitchChange shows => exact ⟨_, rfl, wellKept_finish (formKept_keySwitchChange shows s)⟩
  | keyTimerExpiry => exact ⟨_, rfl, wellKept_command (formKept_keyTimerExpiry s)⟩
  | saveTableWritten readBack => exact ⟨_, rfl, wellKept_readyCommand (formKept_saveTableWritten readBack s)⟩
  | resetLineHeld | supplyFailure => exact ⟨_, rfl, wellKept_withStart s _⟩
  | resetLineRelease => exact ⟨_, rfl, wellKept_resetLineRelease s⟩
  | powerOn retained => exact ⟨_, rfl, wellKept_powerOn retained s⟩
  | loadingEnd => exact ⟨_, rfl, wellKept_command (formKept_loadingEnd s)⟩
  | encoderEdge n dir => exact ⟨_, rfl, wellKept_command (formKept_encoderEdge n dir s)⟩

theorem wellKept_step (h : step s = .next t) : WellKept s t := by
  unfold step at h
  split at h
  · rename_i i rest _
    obtain ⟨v, runs, kept⟩ := wellKept_exec i { s with pending := rest }
    rw [runs] at h
    cases h
    exact ⟨⟨kept.1.queues, kept.1.objects, kept.1.tables⟩, kept.2⟩
  · cases h
    exact ⟨formKept_withTime (.refl s) _, id⟩

/-- Settles O7: what a step keeps is said of each command's own effect and of its messages (`WellKept`), and each invariant
is one part of it. -/
theorem queuesAndRepresentation : Obligations.QueuesAndRepresentation := by
  unfold Obligations.QueuesAndRepresentation
  exact ⟨fun s t bounded h => (wellKept_step h).1.queues bounded,
    fun s t canonical h => (wellKept_step h).1.objects canonical,
    fun s t canonical h => (wellKept_step h).1.tables canonical, fun s t settled h => (wellKept_step h).2 settled⟩

end Sys2Proof.Proofs
end

section
/-! SUPPORT. The strike generator: the guard of a quarter instant, its performances and their offers, and the instant each
event of civil time takes (R69-R73, R78). -/
namespace Sys2Proof.Proofs

open Sys2Proof.Machine Sys2Proof.Claims

variable {s : State}

/-! ## A quarter instant and its guard (R70, R71) -/

section
variable {quarter civil : Nat}

theorem quarterGuarded_iff :
    s.chime.quarterGuard.any (quarter ≤ ·) = true ↔ ∃ g, s.chime.quarterGuard = some g ∧ quarter ≤ g := by
  simp only [Option.any_eq_true, decide_eq_true_eq]

theorem takeQuarter_of_guarded (h : ∃ g, s.chime.quarterGuard = some g ∧ quarter ≤ g) :
    takeQuarter quarter civil s = s :=
  if_pos (quarterGuarded_iff.mpr h)

/-- The state in which the guard has taken a quarter instant. -/
def quarterTaken (quarter : Nat) (s : State) : State := s.withChime { s.chime with quarterGuard := some quarter }

theorem takeQuarter_of_fresh (h : ∀ g, s.chime.quarterGuard = some g → g < quarter) :
    takeQuarter quarter civil s =
      if civil - quarter * 900000 ≤ s.tables.strike.lateness * 1000 then
        (quarterPerfs s.tables.strike quarter).foldl (fun t k => t.generate quarter civil k) (quarterTaken quarter s)
      else (quarterTaken quarter s).postAll
        ((quarterPerfs s.tables.strike quarter).map fun k => .notice (.skippedStrike k.1 quarter civil .late)) := by
  have fresh : ¬s.chime.quarterGuard.any (quarter ≤ ·) = true := fun guarded =>
    have ⟨g, hg, later⟩ := quarterGuarded_iff.mp guarded
    absurd (h g hg) (Nat.not_lt.mpr later)
  rw [← foldl_post]
  exact if_neg fresh

end

/-! ## The performances of a quarter instant (R69) -/

theorem quarterTune_eq (r : StrikeSettings) (quarter : Nat) :
    quarterTune r quarter =
      if quarter % 4 = 0 then r.q4 else if quarter % 4 = 1 then r.q1 else if quarter % 4 = 2 then r.q2 else r.q3 := by
  have quarters : quarter % 4 = 0 ∨ quarter % 4 = 1 ∨ quarter % 4 = 2 ∨ quarter % 4 = 3 := by omega
  unfold quarterTune
  rcases quarters with h | h | h | h <;> rw [h] <;> rfl

/-- The strokes are counted on the civil hour of the day as on the hour itself. -/
theorem strikeCount_eq (quarter : Nat) :
    strikeCount quarter = if quarter / 4 % 24 % 12 = 0 then 12 else quarter / 4 % 24 % 12 := by
  unfold strikeCount
  rw [Nat.mod_mod_of_dvd _ (by decide : 12 ∣ 24)]

/-! ## One performance (R69, R73, R78) -/

theorem generate_of_quiet (h : s.day.quiet = true) (quarter civil : Nat) (k : PerfKind × PerfArgs) :
    s.generate quarter civil k = s.notify (.skippedStrike k.1 quarter civil .quiet) :=
  if_pos h

section
variable {t : State} {quarter civil : Nat} {k : PerfKind × PerfArgs}

theorem generate_of_loud (h : s.day.quiet = false) :
    s.generate quarter civil k =
      match s.offer (s.makePerf k.1 k.2 .generator none s.now) with
      | (t, .accepted _) => t
      | (t, .noEntry) => t.dropOffer (s.makePerf k.1 k.2 .generator none s.now) .badTune
      | (t, .queueFull) => t.dropOffer (s.makePerf k.1 k.2 .generator none s.now) .queueFull :=
  if_neg (by rw [h]; decide)

end

/-! ## The instant an event takes (R69, R71, R72) -/

section
variable {minute old new civil q : Nat}

theorem minuteStrike_of_quarter (h : minute = 15 * q) : minuteStrike minute s = takeQuarter q (minute * 60000) s := by
  have quarter : minute / 15 = q := by omega
  unfold minuteStrike
  rw [if_pos (by omega), quarter]

theorem minuteStrike_of_notQuarter (h : ∀ q, minute ≠ 15 * q) : minuteStrike minute s = s :=
  if_neg fun divides => h (minute / 15) (by omega)

theorem stepStrike_of_passed (before : old < q * 900000) (passed : q * 900000 ≤ new) (latest : new < (q + 1) * 900000) :
    stepStrike old new s = takeQuarter q new s := by
  have quarter : new / 900000 = q := by omega
  unfold stepStrike
  rw [quarter, if_pos before]

theorem stepStrike_of_none (h : ∀ q, ¬(old < q * 900000 ∧ q * 900000 ≤ new)) : stepStrike old new s = s :=
  if_neg fun before => h (new / 900000) ⟨before, Nat.div_mul_le_self new 900000⟩

theorem timeSetStrike_of_latest (reached : q * 900000 ≤ civil) (latest : civil < (q + 1) * 900000) :
    timeSetStrike civil s = takeQuarter q civil s := by
  have quarter : civil / 900000 = q := by omega
  unfold timeSetStrike
  rw [quarter]

theorem readyStrike_of_civil (h : s.time.civil = some civil) : readyStrike s = timeSetStrike civil s := by
  unfold readyStrike
  rw [h]

theorem readyStrike_of_noCivil (h : s.time.civil = none) : readyStrike s = s := by
  unfold readyStrike
  rw [h]

end

/-- Settles O34: the guard decides whether an instant is taken, its lateness what becomes of its performances, and each event
of civil time names the instant it takes. -/
theorem strikeGenerator : Obligations.StrikeGenerator := by
  unfold Obligations.StrikeGenerator
  refine ⟨fun quarter civil s => ⟨takeQuarter_of_guarded, fun fresh => ?taken⟩, fun r quarter => ?performances,
    fun s quarter civil kind args => ⟨fun quiet => generate_of_quiet quiet _ _ _, fun loud => ?offered⟩,
    fun s minute old new civil => ⟨fun q => minuteStrike_of_quarter, minuteStrike_of_notQuarter,
      fun q => stepStrike_of_passed, stepStrike_of_none, fun q reached latest => ?latest, readyStrike_of_noCivil⟩⟩
  case taken =>
    exact ⟨fun timely => (takeQuarter_of_fresh fresh).trans (if_pos timely),
      fun late => (takeQuarter_of_fresh fresh).trans (if_neg (Nat.not_le.mpr late))⟩
  case performances =>
    intro hour tune
    have sameTune : quarterTune r quarter = tune := quarterTune_eq r quarter
    unfold quarterPerfs
    rw [strikeCount_eq, sameTune]
    refine congrArg (· ++ _) ?_
    clear_value tune
    cases tune <;> cases r.quarters <;> rfl
  case offered =>
    rw [generate_of_loud loud]
    unfold State.makePerf
    dsimp only
    split <;> rename_i answer <;> rw [answer] <;> rfl
  case latest =>
    have takes := timeSetStrike_of_latest (s := s) reached latest
    exact ⟨takes, fun civilNow => (readyStrike_of_civil civilNow).trans takes⟩

end Sys2Proof.Proofs
end

section
/-! SUPPORT. The strike queue: its order, its ids and its refusals (R77-R79); PLAY and CANCEL (R80, R88). -/
namespace Sys2Proof.Proofs

open Sys2Proof.Machine Sys2Proof.Claims

variable {s t : State}

/-! ## The order of the queue (R79) -/

theorem before_iff (p q : Perf) :
    p.before q = true ↔ q.playing = false ∧ q.blocked = false ∧
      (p.due < q.due ∨ p.due = q.due ∧ p.kind.rank < q.kind.rank) := by
  simp only [Perf.before, Bool.and_eq_true, Bool.or_eq_true, Bool.not_eq_true', decide_eq_true_eq, and_assoc]

/-- A performance stands behind every one it does not go before. -/
theorem insertPerf_eq (p : Perf) (l : List Perf) :
    insertPerf p l = l.takeWhile (fun w => !p.before w) ++ p :: l.dropWhile (fun w => !p.before w) := by
  induction l with
  | nil => rfl
  | cons q l ih =>
    unfold insertPerf
    cases h : p.before q with
    | true => simp [h]
    | false => simp [h, ih]

/-! ## The ids (R77) -/

section
variable {c : Chime} {k : Nat}

/-- Of the 17 ids from the next one on, 16 performances leave one free. -/
theorem exists_freeId (h : c.queue.length ≤ 16) : ∃ k < 17, ∀ p ∈ c.queue, p.id ≠ (c.nextId + k) % 256 := by
  by_contra! allTaken
  have distinct : ((List.range 17).map fun k => (c.nextId + k) % 256).Nodup := by
    refine List.Nodup.map_on (fun i hi j hj same => ?_) List.nodup_range
    rw [List.mem_range] at hi hj
    omega
  have inQueue : ((List.range 17).map fun k => (c.nextId + k) % 256) ⊆ c.queue.map Perf.id := by
    intro i hi
    obtain ⟨k, below, rfl⟩ := List.mem_map.mp hi
    exact List.mem_map.mpr (allTaken k (List.mem_range.mp below))
  have fewer := (List.subperm_of_subset distinct inQueue).length_le
  simp only [List.length_map, List.length_range] at fewer
  omega

theorem freeId_of_first (below : k < 17) (free : ∀ p ∈ c.queue, p.id ≠ (c.nextId + k) % 256)
    (taken : ∀ j < k, ∃ p ∈ c.queue, p.id = (c.nextId + j) % 256) : c.freeId = (c.nextId + k) % 256 := by
  have places : Config.queuePlaces + 1 = 17 := rfl
  unfold Chime.freeId
  rw [places, List.find?_map, List.find?_range_eq_some.mpr ⟨?_, List.mem_range.mpr below, fun j earlier => ?_⟩]
  · rfl
  · simpa using free
  · simpa using taken j earlier

/-- The id given is the first from the next one on that no performance of the queue has. -/
theorem freeId_first (h : c.queue.length ≤ 16) :
    ∃ k ≤ 16, c.freeId = (c.nextId + k) % 256 ∧ (∀ p ∈ c.queue, p.id ≠ c.freeId) ∧
      ∀ j < k, ∃ p ∈ c.queue, p.id = (c.nextId + j) % 256 := by
  obtain ⟨i, below, isFree⟩ := exists_freeId h
  have some : ∃ k, ∀ p ∈ c.queue, p.id ≠ (c.nextId + k) % 256 := ⟨i, isFree⟩
  have least : Nat.find some ≤ i := Nat.find_min' some isFree
  have free := Nat.find_spec some
  have taken : ∀ j < Nat.find some, ∃ p ∈ c.queue, p.id = (c.nextId + j) % 256 := fun j earlier => by
    simpa using Nat.find_min some earlier
  have given := freeId_of_first (by omega) free taken
  exact ⟨Nat.find some, by omega, given, given ▸ free, taken⟩

end

/-! ## An offer (R78, R79) -/

/-- The performance plays a tune that is not used. -/
def offersUnused (s : State) (p : Perf) : Prop :=
  ∃ tune repeats, p.args = .tune tune repeats ∧ (s.tuneRec tune).used = false

section
variable {p : Perf}

theorem judgeOffer_of_unused (h : offersUnused s p) : s.judgeOffer p = .noEntry := by
  obtain ⟨tune, repeats, args, unused⟩ := h
  unfold State.judgeOffer
  rw [args]
  exact if_pos (by rw [unused]; rfl)

theorem judgeOffer_of_playable (h : ¬offersUnused s p) :
    s.judgeOffer p = if 16 ≤ s.chime.queue.length then .queueFull else .accepted s.chime.freeId := by
  unfold State.judgeOffer
  split
  · rename_i tune repeats args
    have used : (s.tuneRec tune).used = true := by
      by_contra unused
      exact h ⟨tune, repeats, args, Bool.eq_false_iff.mpr unused⟩
    exact if_neg (by rw [used]; decide)
  · rfl

theorem offer_of_unused (h : offersUnused s p) : s.offer p = (s, .noEntry) := by
  unfold State.offer
  rw [judgeOffer_of_unused h]

theorem offer_of_full (h : ¬offersUnused s p) (full : 16 ≤ s.chime.queue.length) : s.offer p = (s, .queueFull) := by
  unfold State.offer
  rw [judgeOffer_of_playable h, if_pos full]

theorem offer_of_room (h : ¬offersUnused s p) (room : s.chime.queue.length < 16) :
    s.offer p = (s.withChime { s.chime with
        queue := insertPerf { p with id := s.chime.freeId } s.chime.queue
        nextId := (s.chime.freeId + 1) % 256 }, .accepted s.chime.freeId) := by
  unfold State.offer
  rw [judgeOffer_of_playable h, if_neg (Nat.not_le.mpr room)]

end

/-! ## PLAY (R80, R194) -/

/-- The first byte of a PLAY holds the marks of its kind and of its due's form. -/
theorem unpack_playMarks (marks a b c hour minute second : Byte) (h : marks.toNat < 4) :
    unpack playRooms [marks, a, b, c, hour, minute, second] =
      some [marks.toNat % 2, marks.toNat / 2 % 2, a.toNat, b.toNat, c.toNat, hour.toNat, minute.toNat,
        second.toNat] := by
  have value : leNat [marks] = marks.toNat := by simp [leNat]
  rw [← value] at h ⊢
  rw [← beNat_one a, ← beNat_one b, ← beNat_one c, ← beNat_one hour, ← beNat_one minute, ← beNat_one second]
  exact if_pos h

theorem unpack_play (kind form : Fin 2) (a b c hour minute second : Byte) :
    unpack playRooms [byte (kind + 2 * form : Nat), a, b, c, hour, minute, second] =
      some [kind.val, form.val, a.toNat, b.toNat, c.toNat, hour.toNat, minute.toNat, second.toNat] := by
  have marks : (byte (kind + 2 * form : Nat)).toNat = kind + 2 * form := by
    rw [byte, BitVec.toNat_ofNat]
    omega
  have twoBits : (kind + 2 * form : Nat) < 4 := by omega
  have low : (kind + 2 * form : Nat) % 2 = kind := by omega
  have high : (kind + 2 * form : Nat) / 2 % 2 = form := by omega
  rw [unpack_playMarks _ a b c hour minute second (marks.trans_lt twoBits), marks, low, high]

theorem exec_play {kind form : Fin 2} {a b c hour minute second : Byte} {status : Status} {fields : List Byte}
    (hs : slotFree s)
    (h : playBody [kind.val, form.val, a.toNat, b.toNat, c.toNat, hour.toNat, minute.toNat, second.toNat] (taken s) =
      (t, status, fields)) :
    exec (.play [byte (kind + 2 * form : Nat), a, b, c, hour, minute, second]) s =
      .next (answered 0x18 status fields t).finish :=
  frameCommand_answered (kind := 0x18) hs rfl rfl rfl (by decide) (by decide)
    ((fields_of_unpack (unpack_play kind form a b c hour minute second) _).trans h)

/-- The arguments of a PLAY are in range (R80). -/
def goodPlayArgs (kind : Fin 2) (a b c : Nat) : Prop :=
  if kind = 0 then a < 64 ∧ (1 ≤ b ∧ b ≤ 9) ∧ c = 0 else a < 16 ∧ (1 ≤ b ∧ b ≤ 240) ∧ 2 ≤ c ∧ c ≤ 60

/-- The due of a PLAY is in range (R80). -/
def goodPlayDue (form : Fin 2) (hour minute second : Nat) : Prop :=
  if form = 0 then hour = 0 ∧ minute = 0 ∧ second = 0 else hour < 24 ∧ minute < 60 ∧ second < 60

/-- What a PLAY in range plays. -/
def playedArgs (velocity : Velocity) (kind : Fin 2) (a b c : Nat) : PerfKind × PerfArgs :=
  if kind = 0 then (.tune, .tune a b) else (.toll, .strokes a b (c * 1000) velocity)

/-- The time of day a PLAY in range names, if it names one. -/
def playedDue (form : Fin 2) (hour minute second : Nat) : Option Nat :=
  if form = 0 then none else some (timeMs hour minute second 0)

section
variable {velocity : Velocity} {kind form : Fin 2} {a b c hour minute second : Nat}

theorem keepIf_of {α : Type} {good : Bool} {v : α} (h : good = true) : keepIf good v = some v := if_pos h

theorem keepIf_not {α : Type} {good : Bool} {v : α} (h : ¬good = true) : keepIf good v = none := if_neg h

theorem playArgs_of_good (h : goodPlayArgs kind a b c) :
    playArgs velocity kind a b c = some (playedArgs velocity kind a b c) := by
  match kind with
  | 0 => exact keepIf_of (by simpa [goodPlayArgs, within, and_assoc] using h)
  | 1 => exact keepIf_of (by simpa [goodPlayArgs, within, and_assoc] using h)

theorem playArgs_of_bad (h : ¬goodPlayArgs kind a b c) : playArgs velocity kind a b c = none := by
  match kind with
  | 0 => exact keepIf_not fun good => h (by simpa [goodPlayArgs, within, and_assoc] using good)
  | 1 => exact keepIf_not fun good => h (by simpa [goodPlayArgs, within, and_assoc] using good)

theorem playDue_of_good (h : goodPlayDue form hour minute second) :
    playDue form hour minute second = some (playedDue form hour minute second) := by
  match form with
  | 0 => exact keepIf_of (by simpa [goodPlayDue, and_assoc] using h)
  | 1 => exact keepIf_of (by simpa [goodPlayDue, and_assoc] using h)

theorem playDue_of_bad (h : ¬goodPlayDue form hour minute second) : playDue form hour minute second = none := by
  match form with
  | 0 => exact keepIf_not fun good => h (by simpa [goodPlayDue, and_assoc] using good)
  | 1 => exact keepIf_not fun good => h (by simpa [goodPlayDue, and_assoc] using good)

theorem playBody_of_outside (h : ¬(goodPlayArgs kind a b c ∧ goodPlayDue form hour minute second)) :
    playBody [kind.val, form.val, a, b, c, hour, minute, second] s = (s, .range, []) := by
  unfold playBody
  dsimp only
  by_cases good : goodPlayArgs kind a b c
  · rw [playDue_of_bad fun due => h ⟨good, due⟩]
    split
    · rename_i due
      cases due
    · rfl
  · rw [playArgs_of_bad good]

theorem playBody_of_request {status : Status} {id : Option Nat} (args : goodPlayArgs kind a b c)
    (due : goodPlayDue form hour minute second)
    (h : playRequest (playedArgs s.tables.strike.velocity kind a b c).1 (playedArgs s.tables.strike.velocity kind a b c).2
      (playedDue form hour minute second) s = (t, status, id)) :
    playBody [kind.val, form.val, a, b, c, hour, minute, second] s = (t, status, (id.map byte).toList) := by
  unfold playBody
  dsimp only
  rw [playArgs_of_good args, playDue_of_good due]
  dsimp only
  rw [h]
  cases id <;> rfl

end


/-- What a PLAY in range is answered, its performance being due after a wait (R78, R80). -/
def playOffered (args : PerfKind × PerfArgs) (wait : Nat) (s : State) : State × Status × Option Nat :=
  match s.offer (s.makePerf args.1 args.2 .request none (s.now + wait)) with
  | (t, .accepted id) => (t, .ok, some id)
  | (t, .noEntry) => (t, .noEntry, none)
  | (t, .queueFull) => (t, .queueFull, none)

section
variable {args : PerfKind × PerfArgs} {wait : Nat}

theorem playRequest_now : playRequest args.1 args.2 none s = playOffered args 0 s := rfl

theorem playRequest_unset {target : Nat} (h : s.time.civil = none) :
    playRequest args.1 args.2 (some target) s = (s, .notSet, none) := by
  unfold playRequest
  rw [h]

theorem playRequest_timed {civil target : Nat} (h : s.time.civil = some civil) :
    playRequest args.1 args.2 (some target) s = playOffered args (untilTimeOfDay civil target) s := by
  unfold playRequest
  rw [h]
  rfl

theorem untilTimeOfDay_today {civil target : Nat} (h : civil % 86400000 ≤ target) :
    untilTimeOfDay civil target = target - civil % 86400000 := if_pos h

theorem untilTimeOfDay_tomorrow {civil target : Nat} (h : target < civil % 86400000) :
    untilTimeOfDay civil target = target + 86400000 - civil % 86400000 := if_neg (Nat.not_le.mpr h)

/-- A performance as a PLAY offers it, due after a wait (R80). -/
def playPerf (args : PerfKind × PerfArgs) (wait : Nat) (s : State) : Perf :=
  s.makePerf args.1 args.2 .request none (s.now + wait)

theorem playOffered_of_unused (h : offersUnused s (playPerf args wait s)) :
    playOffered args wait s = (s, .noEntry, none) := by
  have refused := offer_of_unused h
  unfold playPerf at refused
  unfold playOffered
  rw [refused]

theorem playOffered_of_full (h : ¬offersUnused s (playPerf args wait s)) (full : 16 ≤ s.chime.queue.length) :
    playOffered args wait s = (s, .queueFull, none) := by
  have refused := offer_of_full h full
  unfold playPerf at refused
  unfold playOffered
  rw [refused]

theorem playOffered_of_room (h : ¬offersUnused s (playPerf args wait s)) (room : s.chime.queue.length < 16) :
    playOffered args wait s = ((s.offer (playPerf args wait s)).1, .ok, some s.chime.freeId) := by
  have accepted := offer_of_room h room
  unfold playPerf at accepted ⊢
  unfold playOffered
  rw [accepted]

end

/-- The tune a PLAY plays is the one it names. -/
theorem offersUnused_play {velocity : Velocity} {kind : Fin 2} {a b c wait : Nat} :
    offersUnused s (playPerf (playedArgs velocity kind a b c) wait s) ↔ kind = 0 ∧ (s.tuneRec a).used = false := by
  match kind with
  | 0 =>
    constructor
    · rintro ⟨tune, repeats, same, unused⟩
      cases same
      exact ⟨rfl, unused⟩
    · rintro ⟨-, unused⟩
      exact ⟨a, b, rfl, unused⟩
  | 1 =>
    constructor
    · rintro ⟨tune, repeats, same, -⟩
      cases same
    · rintro ⟨isTune, -⟩
      cases isTune

section
variable {kind form : Fin 2} {a b c hour minute second : Byte}

/-- A PLAY in range whose performance is due after a wait: refused for its tune, then for the queue, else offered. -/
theorem exec_play_offered {wait : Nat} (hs : slotFree s) (args : goodPlayArgs kind a.toNat b.toNat c.toNat)
    (due : goodPlayDue form hour.toNat minute.toNat second.toNat)
    (h : ∀ args, playRequest args.1 args.2 (playedDue form hour.toNat minute.toNat second.toNat) (taken s) =
      playOffered args wait (taken s)) :
    let answer := exec (.play [byte (kind + 2 * form : Nat), a, b, c, hour, minute, second]) s
    let unset := kind = 0 ∧ (s.tuneRec a.toNat).used = false
    (unset → answer = .next (answered 0x18 .noEntry [] (taken s)).finish) ∧
    (¬unset → 16 ≤ s.chime.queue.length → answer = .next (answered 0x18 .queueFull [] (taken s)).finish) ∧
    (¬unset → s.chime.queue.length < 16 → answer = .next (answered 0x18 .ok [byte s.chime.freeId]
      ((taken s).offer (playPerf (playedArgs s.tables.strike.velocity kind a.toNat b.toNat c.toNat) wait s)).1).finish) := by
  have request := h (playedArgs s.tables.strike.velocity kind a.toNat b.toNat c.toNat)
  refine ⟨fun unset => ?unused, fun set full => ?full, fun set room => ?room⟩
  case unused =>
    exact exec_play hs (playBody_of_request args due (request.trans (playOffered_of_unused (offersUnused_play.mpr unset))))
  case full =>
    exact exec_play hs (playBody_of_request args due
      (request.trans (playOffered_of_full (fun unset => set (offersUnused_play.mp unset)) full)))
  case room =>
    exact exec_play hs (playBody_of_request args due
      (request.trans (playOffered_of_room (fun unset => set (offersUnused_play.mp unset)) room)))

end

/-! ## CANCEL (R88) -/

theorem exec_cancel {id : Byte} {status : Status} (hs : slotFree s) (h : cancelPerf id.toNat (taken s) = (t, status)) :
    exec (.cancel [id]) s = .next (answered 0x19 status [] t).finish :=
  frameCommand_answered (kind := 0x19) hs rfl rfl rfl (by decide) (by decide)
    ((fields_of_unpack (unpack_oneByte id) cancelBody).trans (congrArg plain h))

section
variable {id : Nat} {p : Perf}

theorem cancelPerf_of_absent (h : ∀ p ∈ s.chime.queue, p.id ≠ id) : cancelPerf id s = (s, .noEntry) := by
  have absent : s.chime.queue.find? (fun p => p.id = id) = none := List.find?_eq_none.mpr (by simpa using h)
  unfold cancelPerf
  rw [absent]

theorem cancelPerf_of_waiting (found : s.chime.queue.find? (fun p => p.id = id) = some p) (waits : p.playing = false) :
    cancelPerf id s = ((s.withChime { s.chime with queue := s.chime.queue.filter fun q => q.id ≠ id }).notify
      (.dropped p true .cancelled), .ok) := by
  have named : p.id = id := by simpa using List.find?_some found
  subst named
  unfold cancelPerf
  rw [found]
  exact if_neg (by rw [waits]; decide)

theorem cancelPerf_of_playing {pl : Playing} (found : s.chime.queue.find? (fun p => p.id = id) = some p)
    (plays : p.playing = true) (playing : s.chime.playing = some pl) :
    cancelPerf id s = (if pl.ended then s else
      ((s.withChime { s.chime with playing := some { pl with phase := .ending .cancelled } }).post
        (.release pl.bells pl.id)).post .releaseCheck, .ok) := by
  rw [← endPlaying_of_playing playing]
  unfold cancelPerf
  rw [found, playing]
  exact if_pos plays

end

/-- Settles O35: the offers by the queue's own rules, a PLAY by the wait its due names, a CANCEL by what the id names. -/
theorem offerPlayCancel : Obligations.OfferPlayCancel := by
  unfold Obligations.OfferPlayCancel
  refine ⟨fun p q => ?order, fun c h => freeId_first h, fun s p => ?offer,
    fun kind form a b c hour minute second s hs => ?play, fun id s hs => ?cancel⟩
  case order => exact before_iff p q
  case offer =>
    refine ⟨offer_of_unused, offer_of_full, fun set room => ?_⟩
    rw [offer_of_room set room, insertPerf_eq]
  case play =>
    have timed : ((hour.toNat * 60 + minute.toNat) * 60 + second.toNat) * 1000 + 0 =
        (hour.toNat * 3600 + minute.toNat * 60 + second.toNat) * 1000 := by omega
    refine ⟨fun outside => ?outside, fun args due now => ?now, fun args due timeOfDay unset => ?unset,
      fun civil args due timeOfDay set => ⟨fun today => ?today, fun tomorrow => ?tomorrow⟩⟩
    case outside => exact exec_play hs (playBody_of_outside outside)
    case now =>
      subst now
      exact exec_play_offered hs args due fun _ => playRequest_now
    case unset =>
      subst timeOfDay
      exact exec_play hs (playBody_of_request (s := taken s) args due (playRequest_unset (s := taken s) unset))
    case today =>
      subst timeOfDay
      exact exec_play_offered hs args due fun _ =>
        (playRequest_timed (s := taken s) set).trans (congrArg (playOffered _ · (taken s))
          ((congrArg (untilTimeOfDay civil) timed).trans (untilTimeOfDay_today today)))
    case tomorrow =>
      subst timeOfDay
      exact exec_play_offered hs args due fun _ =>
        (playRequest_timed (s := taken s) set).trans (congrArg (playOffered _ · (taken s))
          ((congrArg (untilTimeOfDay civil) timed).trans (untilTimeOfDay_tomorrow tomorrow)))
  case cancel =>
    exact ⟨fun absent => exec_cancel hs (cancelPerf_of_absent absent),
      fun p found waits => exec_cancel hs (cancelPerf_of_waiting found waits),
      fun p pl found plays playing => exec_cancel hs (cancelPerf_of_playing found plays playing)⟩

end Sys2Proof.Proofs
end

section
/-! SUPPORT. The notes of a performance: their times and positions, their blows' answers and their requests (R84-R87). -/
namespace Sys2Proof.Proofs

open Sys2Proof.Machine Sys2Proof.Claims

variable {s : State} {pl : Playing} {p : Perf}

/-! ## The instants of the player (R85-R87) -/

theorem setPlaying_of_playing (playing : s.chime.playing = some pl) (f : Playing → Playing) :
    s.setPlaying f = s.withChime { s.chime with playing := some (f pl) } := by
  unfold State.setPlaying
  rw [playing]
  rfl

theorem noteDue_of_interval {due : Nat} (playing : s.chime.playing = some pl) (phase : pl.phase = .interval due) :
    noteDue s = ((s.runTo due).onPlaying (nextPosition pl)).requestNote := by
  have still : (s.runTo due).chime.playing = some pl := playing
  obtain ⟨id, run, tune, bells, started, marks, _⟩ := pl
  subst phase
  unfold noteDue
  rw [playing]
  dsimp only
  rw [still]

theorem noteWaitExpiry_of_noteWait {l : List Nat} {deadline : Nat} {dealing : Bool} (playing : s.chime.playing = some pl)
    (phase : pl.phase = .noteWait l deadline dealing) :
    noteWaitExpiry s = ((((s.runTo deadline).withChime { (s.runTo deadline).chime with
      playing := some { pl with phase := .noteWait l deadline true } }).postAll
        (l.map fun b => .withdraw b pl.id)).post .noteDealt) := by
  rw [← setPlaying_of_playing (s := s.runTo deadline) playing fun pl => { pl with phase := .noteWait l deadline true }]
  obtain ⟨id, run, tune, bells, started, marks, _⟩ := pl
  subst phase
  unfold noteWaitExpiry
  rw [playing]

theorem tailEnd_of_tail {ends : Nat} (playing : s.chime.playing = some pl) (phase : pl.phase = .tail ends) :
    tailEnd s = ((((s.runTo ends).withChime { (s.runTo ends).chime with
      playing := some { pl with phase := .ending .complete } }).post (.release pl.bells pl.id)).post .releaseCheck) := by
  rw [← endPlaying_of_playing (s := s.runTo ends) playing]
  obtain ⟨id, run, tune, bells, started, marks, _⟩ := pl
  subst phase
  unfold tailEnd
  rw [playing]

/-! ## The note sounds, and the position moves on (R85-R87) -/

theorem playing_sound (playing : s.chime.playing = some pl) (perf : s.playingPerf = some p) :
    s.sound.chime.playing = some { pl with
      phase := if lastNote pl p = true then .tail (s.now + (s.noteInHand pl p).2.2)
        else .interval (s.now + (s.noteInHand pl p).2.2) } := by
  unfold State.sound
  rw [playing, perf]
  exact congrArg (Option.map _) playing

section
variable {bell count interval : Nat} {velocity : Velocity}

theorem playing_sound_strokes (playing : s.chime.playing = some pl) (perf : s.playingPerf = some p)
    (strokes : p.args = .strokes bell count interval velocity) :
    s.sound.chime.playing = some { pl with
      phase := if count ≤ p.note + 1 then .tail (s.now + interval) else .interval (s.now + interval) } := by
  have last : lastNote pl p = decide (count ≤ p.note + 1) := by
    unfold lastNote
    rw [strokes]
  have note : (s.noteInHand pl p).2.2 = interval := by
    unfold State.noteInHand
    rw [strokes]
  rw [playing_sound playing perf, last, note]
  simp only [decide_eq_true_eq]

theorem nextPosition_of_strokes (strokes : p.args = .strokes bell count interval velocity) :
    nextPosition pl p = { p with note := p.note + 1 } := by
  unfold nextPosition
  rw [strokes]

end

section
variable {tune repeats : Nat} {run : Run}

theorem playing_sound_tune (playing : s.chime.playing = some pl) (perf : s.playingPerf = some p)
    (isTune : p.args = .tune tune repeats) (hasRun : pl.run = some run) :
    s.sound.chime.playing = some { pl with
      phase := if run.count ≤ p.note + 1 ∧ repeats ≤ p.rep then
          .tail (s.now + (s.noteRec (run.first + p.note)).interval * 100 / run.tempo)
        else .interval (s.now + (s.noteRec (run.first + p.note)).interval * 100 / run.tempo) } := by
  have last : lastNote pl p = (decide (run.count ≤ p.note + 1) && decide (repeats ≤ p.rep)) := by
    unfold lastNote
    rw [isTune, hasRun]
  have note : (s.noteInHand pl p).2.2 = (s.noteRec (run.first + p.note)).interval * 100 / run.tempo := by
    unfold State.noteInHand
    rw [isTune, hasRun]
  rw [playing_sound playing perf, last, note]
  simp only [Bool.and_eq_true, decide_eq_true_eq]

theorem nextPosition_of_tune (isTune : p.args = .tune tune repeats) (hasRun : pl.run = some run) :
    nextPosition pl p =
      if run.count ≤ p.note + 1 then { p with rep := p.rep + 1, note := 0 } else { p with note := p.note + 1 } := by
  unfold nextPosition
  rw [isTune, hasRun]

end

/-! ## The answers to the blows of a note (R84, R85) -/

/-- The player waits for the blows of a list still; with none left and the bells dealt with, the note sounds. -/
def awaiting (pl : Playing) (deadline : Nat) (left : List Nat) (dealing : Bool) (marks : List Nat) (s : State) : State :=
  let u := s.withChime { s.chime with
    playing := some { pl with marks := marks, phase := .noteWait left deadline dealing } }
  if left = [] ∧ dealing = false then u.sound else u

section
variable {l : List Nat} {deadline : Nat} {dealing : Bool}

theorem setOutstanding_of_noteWait (playing : s.chime.playing = some pl) (phase : pl.phase = .noteWait l deadline dealing)
    (left : List Nat) (dealing' : Bool) :
    s.setOutstanding left dealing' = awaiting pl deadline left dealing' pl.marks s := by
  obtain ⟨id, run, tune, bells, started, marks, _⟩ := pl
  subst phase
  unfold State.setOutstanding State.setPlaying
  rw [playing]
  exact if_congr (by simp) rfl rfl

theorem blowTaken_of_noteWait (playing : s.chime.playing = some pl) (phase : pl.phase = .noteWait l deadline dealing)
    (b : Nat) : s.blowTaken b = awaiting pl deadline (l ++ [b]) dealing pl.marks s := by
  rw [← setOutstanding_of_noteWait playing phase]
  obtain ⟨id, run, tune, bells, started, marks, _⟩ := pl
  subst phase
  unfold State.blowTaken
  rw [playing]

theorem blowEnds_of_noteWait (playing : s.chime.playing = some pl) (phase : pl.phase = .noteWait l deadline dealing)
    (b : Nat) : s.blowEnds b = awaiting pl deadline (l.filter (· ≠ b)) dealing pl.marks s := by
  rw [← setOutstanding_of_noteWait playing phase]
  obtain ⟨id, run, tune, bells, started, marks, _⟩ := pl
  subst phase
  unfold State.blowEnds
  rw [playing]

theorem noteDealt_of_noteWait (playing : s.chime.playing = some pl) (phase : pl.phase = .noteWait l deadline dealing) :
    noteDealt s = awaiting pl deadline l false pl.marks s := by
  rw [← setOutstanding_of_noteWait playing phase]
  obtain ⟨id, run, tune, bells, started, marks, _⟩ := pl
  subst phase
  unfold noteDealt
  rw [playing]

theorem blowClipped_of_noteWait (playing : s.chime.playing = some pl) (phase : pl.phase = .noteWait l deadline dealing)
    (b : Nat) :
    s.blowClipped b = awaiting pl deadline (l.filter (· ≠ b)) dealing pl.marks (counted Perf.clip s) :=
  blowEnds_of_noteWait (s := counted Perf.clip s) playing phase b

/-- A bell is fault-marked, once (R84). -/
def faultMarked (b : Nat) (pl : Playing) : Playing :=
  { pl with marks := if pl.marks.contains b then pl.marks else pl.marks ++ [b] }

theorem marks_faultMarked (b : Nat) (pl : Playing) :
    (faultMarked b pl).marks = if b ∈ pl.marks then pl.marks else pl.marks ++ [b] :=
  if_congr List.contains_iff_mem rfl rfl

theorem blowFaulted_of_noteWait (playing : s.chime.playing = some pl) (phase : pl.phase = .noteWait l deadline dealing)
    (b : Nat) :
    s.blowFaulted b = awaiting pl deadline (l.filter (· ≠ b)) dealing
      (if b ∈ pl.marks then pl.marks else pl.marks ++ [b]) (counted Perf.lose s) := by
  have marked : ((s.setPlaying (faultMarked b)).onPlaying Perf.lose).chime.playing = some (faultMarked b pl) :=
    congrArg (Option.map (faultMarked b)) playing
  rw [← marks_faultMarked]
  refine Eq.trans ?_ (blowEnds_of_noteWait marked phase b)
  obtain ⟨id, run, tune, bells, started, marks, _⟩ := pl
  subst phase
  unfold State.blowFaulted
  rw [playing]
  rfl

end

/-- The player waits for no blow: it plays nothing, or runs an interval or a tail, or ends. -/
def noNoteWait (s : State) : Prop :=
  ∀ pl, s.chime.playing = some pl → ∀ l deadline dealing, pl.phase ≠ .noteWait l deadline dealing

theorem blowTaken_of_noNoteWait (h : noNoteWait s) (b : Nat) : s.blowTaken b = s := by
  unfold State.blowTaken
  split
  case h_1 playing => exact absurd rfl (h _ playing _ _ _)
  case h_2 => rfl

theorem blowEnds_of_noNoteWait (h : noNoteWait s) (b : Nat) : s.blowEnds b = s := by
  unfold State.blowEnds
  split
  case h_1 playing => exact absurd rfl (h _ playing _ _ _)
  case h_2 => rfl

theorem blowFaulted_of_noNoteWait (h : noNoteWait s) (b : Nat) : s.blowFaulted b = s := by
  unfold State.blowFaulted
  split
  case h_1 playing => exact absurd rfl (h _ playing _ _ _)
  case h_2 => rfl

theorem noteDealt_of_noNoteWait (h : noNoteWait s) : noteDealt s = s := by
  unfold noteDealt
  split
  case h_1 playing => exact absurd rfl (h _ playing _ _ _)
  case h_2 => rfl

/-! ## The request of a note (R84) -/

/-- A performance has lost a count of blows. -/
def loseBy (n : Nat) (p : Perf) : Perf := { p with lost := min 65535 (p.lost + n) }

theorem loseBy_lose (n : Nat) (p : Perf) : loseBy n p.lose = loseBy (n + 1) p := by
  have saturated : min 65535 (min 65535 (p.lost + 1) + n) = min 65535 (p.lost + (n + 1)) := by omega
  simp only [loseBy, Perf.lose, saturated]

/-- Two changes of the playing performance's record, the first of which keeps it the playing one. -/
theorem counted_counted (f g : Perf → Perf) (keeps : ∀ p, (g p).playing = p.playing) (s : State) :
    counted f (counted g s) = counted (f ∘ g) s := by
  have both (p : Perf) : (if (if p.playing then g p else p).playing then f (if p.playing then g p else p)
      else if p.playing then g p else p) = if p.playing then f (g p) else p := by
    cases plays : p.playing with
    | true => simp [keeps, plays]
    | false => simp [plays]
  unfold counted
  simp only [State.withChime_chime, List.map_map, Function.comp_def, both]
  rfl

/-- The playing performance has lost a count of blows. -/
def losing (n : Nat) (s : State) : State := if n = 0 then s else counted (loseBy n) s

theorem losing_lose (n : Nat) (s : State) : losing n (s.onPlaying Perf.lose) = losing (n + 1) s := by
  match n with
  | 0 => rfl
  | n + 1 =>
    have together : loseBy (n + 1) ∘ Perf.lose = loseBy (n + 1 + 1) := funext (loseBy_lose (n + 1))
    exact (counted_counted (loseBy (n + 1)) Perf.lose (fun _ => rfl) s).trans (congrArg (counted · s) together)

theorem losing_post (n : Nat) (s : State) (m : Msg) : losing n (s.post m) = (losing n s).post m := by
  unfold losing
  split <;> rfl

theorem losing_setPlaying (n : Nat) (s : State) (f : Playing → Playing) :
    losing n (s.setPlaying f) = (losing n s).setPlaying f := by
  unfold losing
  split <;> rfl

theorem losing_playing (n : Nat) (s : State) : (losing n s).chime.playing = s.chime.playing := by
  unfold losing
  split <;> rfl

theorem postAll_cons (s : State) (m : Msg) (l : List Msg) : s.postAll (m :: l) = (s.post m).postAll l :=
  (postAll_postAll s [m] l).symm

/-- A note's bells in turn: a marked bell's blow is lost, another bell's is requested. -/
theorem requestBlows_eq (marks : List Nat) (velocity : Velocity) (id : Nat) (bells : List Nat) (s : State) :
    bells.foldl (fun t b => if marks.contains b then t.onPlaying Perf.lose else t.post (.blow b velocity id)) s =
      (losing (bells.filter fun b => b ∈ marks).length s).postAll
        ((bells.filter fun b => b ∉ marks).map fun b => .blow b velocity id) := by
  induction bells generalizing s with
  | nil => exact (postAll_nil s).symm
  | cons b bells ih =>
    rw [List.foldl_cons, ih]
    by_cases marked : b ∈ marks
    · simp [marked, losing_lose]
    · simp [marked, losing_post, postAll_cons]

/-- A note's request: the blows lost, the wait for the others, and their requests. -/
theorem requestNote_eq (playing : s.chime.playing = some pl) (perf : s.playingPerf = some p) :
    let bells := (s.noteInHand pl p).1
    let t := losing (bells.filter fun b => b ∈ pl.marks).length s
    s.requestNote = (t.withChime { t.chime with
      playing := some { pl with phase := .noteWait [] (s.now + s.tables.strike.noteWait) true } }).postAll
        (((bells.filter fun b => b ∉ pl.marks).map fun b => .blow b (s.noteInHand pl p).2.1 p.id) ++
          [.noteDealt]) := by
  intro bells t
  have still : t.chime.playing = some pl := (losing_playing _ s).trans playing
  rw [← setPlaying_of_playing still fun pl =>
      { pl with phase := .noteWait [] (s.now + s.tables.strike.noteWait) true },
    ← losing_setPlaying, ← postAll_postAll, ← requestBlows_eq]
  unfold State.requestNote
  rw [playing, perf]
  rfl

/-- The bells and the velocity of the note in hand. -/
def bellsInHand (s : State) (pl : Playing) (p : Perf) : List Nat × Velocity :=
  match p.args, pl.run with
  | .strokes bell _ _ velocity, _ => ([bell], velocity)
  | .tune _ _, some run => ((s.noteRec (run.first + p.note)).bells, (s.noteRec (run.first + p.note)).velocity)
  | .tune _ _, none => ([], .medium)

theorem noteInHand_bells (s : State) (pl : Playing) (p : Perf) :
    (s.noteInHand pl p).1 = (bellsInHand s pl p).1 ∧ (s.noteInHand pl p).2.1 = (bellsInHand s pl p).2 := by
  unfold State.noteInHand bellsInHand
  match p.args, pl.run with
  | .strokes .., _ => exact ⟨rfl, rfl⟩
  | .tune .., some _ => exact ⟨rfl, rfl⟩
  | .tune .., none => exact ⟨rfl, rfl⟩

/-- Settles O37: the player's instants, the answers to its blows and the request of a note, each by its phase. -/
theorem notesAndTail : Obligations.NotesAndTail := by
  unfold Obligations.NotesAndTail
  refine ⟨fun s pl ready playing => ⟨fun due phase => ?due, fun l deadline dealing phase => ?expiry,
      fun ends phase => ?tail⟩,
    fun s pl p playing perf => ⟨fun bell count interval velocity strokes => ?strokes,
      fun tune repeats run isTune hasRun => ?tune⟩,
    fun s pl l deadline b dealing playing phase => ?answers, fun s b idle => ?idle,
    fun s pl p playing perf => ?request, fun pl p => ?position⟩
  case due => exact exec_of_ready rfl ready (noteDue_of_interval playing phase)
  case expiry => exact exec_of_ready rfl ready (noteWaitExpiry_of_noteWait playing phase)
  case tail => exact exec_of_ready rfl ready (tailEnd_of_tail playing phase)
  case strokes =>
    rw [playing_sound_strokes playing perf strokes]
    exact ⟨fun more => by rw [if_neg (Nat.not_le.mpr more)], fun last => by rw [if_pos last]⟩
  case tune => exact playing_sound_tune playing perf isTune hasRun
  case answers =>
    exact ⟨blowTaken_of_noteWait playing phase b, blowEnds_of_noteWait playing phase b,
      blowFaulted_of_noteWait playing phase b, blowClipped_of_noteWait playing phase b,
      noteDealt_of_noteWait playing phase⟩
  case idle =>
    exact ⟨blowTaken_of_noNoteWait idle b, blowEnds_of_noNoteWait idle b, blowFaulted_of_noNoteWait idle b,
      noteDealt_of_noNoteWait idle⟩
  case request =>
    obtain ⟨bells, velocity⟩ := noteInHand_bells s pl p
    have request := requestNote_eq playing perf
    rw [bells, velocity] at request
    exact request
  case position => exact ⟨fun _ _ _ _ => nextPosition_of_strokes, fun _ _ _ => nextPosition_of_tune⟩

end Sys2Proof.Proofs
end

section
/-! SUPPORT. The encoder of a swing unit: its edges, small movements, and what a turn does by the unit's state (R95, R97,
R100, R102, R103). -/
namespace Sys2Proof.Proofs

open Sys2Proof.Machine Sys2Proof.Claims

variable {s t : State} {u : Nat}

/-- A command with an effect while the part runs, its effect being known. -/
theorem exec_of_running {i : Instr} {f : State → State} (hi : exec i s = .next (command f s)) (hr : s.running = true)
    (hf : f s = t) : exec i s = .next t.finish := by
  rw [hi, command_running hr, hf]

/-! ## Edges and the tracker (R95) -/

/-- The tracker's furthest point, moved on in the direction of travel. -/
def furthestAt (w : SwingUnit) (angle : Int) : Int :=
  match w.trackDir with
  | .positive => max w.furthest angle
  | .negative => min w.furthest angle

theorem encoderEdge_eq (s : State) (u : Nat) (dir : Dir) :
    encoderEdge u dir s = s.setUnit u { s.unit u with
      angle := (s.unit u).angle + dir.sign, lastDir := dir
      furthest := furthestAt (s.unit u) ((s.unit u).angle + dir.sign) } := by
  unfold encoderEdge furthestAt
  cases e : (s.unit u).trackDir with
  | positive => simp only [e, decide_eq_true_eq, max_def_lt]
  | negative => simp only [e, decide_eq_true_eq, min_comm (s.unit u).furthest, min_def_lt]

theorem movedBack_of_positive {w : SwingUnit} (h : w.trackDir = .positive) : w.movedBack = w.furthest - w.angle := by
  unfold SwingUnit.movedBack
  rw [h]
  exact mul_one _

theorem movedBack_of_negative {w : SwingUnit} (h : w.trackDir = .negative) : w.movedBack = w.angle - w.furthest := by
  unfold SwingUnit.movedBack
  rw [h]
  exact (mul_neg_one _).trans (neg_sub _ _)

theorem isTurn_of_referenced {w : SwingUnit} {r : SwingRec} (h : w.referenced = true) :
    w.isTurn r = true ↔ r.restCounts < w.furthest.natAbs := by
  unfold SwingUnit.isTurn
  rw [if_pos h, decide_eq_true_eq]

theorem isTurn_of_unreferenced {w : SwingUnit} {r : SwingRec} (h : w.referenced = false) :
    w.isTurn r = true ↔ 2 * r.restCounts < (w.furthest - w.prevReversal).natAbs := by
  unfold SwingUnit.isTurn
  rw [h, if_neg (by decide), decide_eq_true_eq]

/-! ## Movements that are no turn (R95, R103) -/

theorem reversal_of_near (h : (s.unit u).movedBack < 4) : reversal u s = s := if_pos h

theorem reversal_of_small (back : 4 ≤ (s.unit u).movedBack) (small : (s.unit u).isTurn (s.swingRec u) = false) :
    reversal u s =
      if (s.unit u).state = .lowering then (s.setUnit u (s.unit u).reversed).enterSettling u .smallReversal
      else s.setUnit u (s.unit u).reversed := by
  refine (if_neg (not_lt.mpr back)).trans ?_
  rw [small]
  rfl

/-! ## Turns (R95, R97) -/

/-- The angle of a unit has moved back from its furthest point, and that was a turn. -/
structure Turns (s : State) (u : Nat) : Prop where
  back : 4 ≤ (s.unit u).movedBack
  turn : (s.unit u).isTurn (s.swingRec u) = true

/-- A unit's fields after a turn that is not counted: the tracker reversed, and the amplitude of a referenced unit. -/
def measuredUnit (w : SwingUnit) : SwingUnit :=
  { w.reversed with amplitude := if w.referenced then some w.furthest.natAbs else w.amplitude }

/-- A unit's fields after a turn that is counted. -/
def countedUnit (w : SwingUnit) : SwingUnit := { measuredUnit w with turns := min 4 (w.turns + 1) }

/-- The amplitude of a turn: a unit that is not referenced has none. -/
def amplitudeOfTurn (w : SwingUnit) : Option Nat := if w.referenced then some w.furthest.natAbs else none

theorem measuredUnit_of_referenced {w : SwingUnit} (h : w.referenced = true) :
    measuredUnit w = { w.reversed with amplitude := some w.furthest.natAbs } := by
  unfold measuredUnit
  rw [if_pos h]

theorem countedUnit_of_referenced {w : SwingUnit} (h : w.referenced = true) (few : w.turns ≤ 3) :
    countedUnit w = { w.reversed with amplitude := some w.furthest.natAbs, turns := w.turns + 1 } := by
  unfold countedUnit
  rw [measuredUnit_of_referenced h, min_eq_right (by omega)]

theorem amplitudeOfTurn_of_referenced {w : SwingUnit} (h : w.referenced = true) :
    amplitudeOfTurn w = some w.furthest.natAbs := if_pos h

namespace Turns

/-- A turn is counted outside REST; the fourth in a unit that is not in FAULT is its fault. -/
theorem reversal (h : Turns s u) :
    reversal u s =
      if (s.unit u).state = .rest then s.setUnit u (measuredUnit (s.unit u))
      else if (s.unit u).state ≠ .fault ∧ min 4 ((s.unit u).turns + 1) = 4 then
        (s.setUnit u (countedUnit (s.unit u))).enterFault u .encoderLost
      else (s.setUnit u (countedUnit (s.unit u))).actOnTurn u (amplitudeOfTurn (s.unit u))
        (s.unit u).trackDir.other := by
  obtain ⟨back, turn⟩ := h
  have taken : Machine.reversal u s = (s.setUnit u (s.unit u).reversed).takeTurn u (amplitudeOfTurn (s.unit u))
      (s.unit u).trackDir.other := (if_neg (not_lt.mpr back)).trans (if_pos turn)
  rw [taken]
  unfold State.takeTurn
  dsimp only
  rw [State.unit_setUnit_self, setUnit_setUnit, setUnit_setUnit]
  unfold countedUnit measuredUnit amplitudeOfTurn
  cases (s.unit u).referenced <;> rfl

theorem reversal_of_rest (h : Turns s u) (rest : (s.unit u).state = .rest) :
    Machine.reversal u s = s.setUnit u (measuredUnit (s.unit u)) := by
  rw [h.reversal, if_pos rest]

theorem reversal_of_fourth (h : Turns s u) (moves : (s.unit u).state ≠ .rest) (sound : (s.unit u).state ≠ .fault)
    (three : (s.unit u).turns = 3) :
    Machine.reversal u s = (s.setUnit u (countedUnit (s.unit u))).enterFault u .encoderLost := by
  rw [h.reversal, if_neg moves, if_pos ⟨sound, by rw [three]; rfl⟩]

theorem reversal_of_counted (h : Turns s u) (moves : (s.unit u).state ≠ .rest)
    (few : (s.unit u).state = .fault ∨ (s.unit u).turns ≤ 2) :
    Machine.reversal u s = (s.setUnit u (countedUnit (s.unit u))).actOnTurn u (amplitudeOfTurn (s.unit u))
      (s.unit u).trackDir.other := by
  rw [h.reversal, if_neg moves, if_neg]
  rintro ⟨sound, four⟩
  rcases few with fault | few
  · exact sound fault
  · omega

end Turns

/-! ## What a turn does by the unit's state (R100, R102, R103) -/

theorem actOnTurn_of_fault {a : Option Nat} {dir : Dir} (h : (s.unit u).state = .fault) : s.actOnTurn u a dir = s := by
  unfold State.actOnTurn
  dsimp only
  rw [h]

theorem actOnTurn_of_raising {a : Nat} {dir : Dir} (h : (s.unit u).state = .raising) :
    s.actOnTurn u (some a) dir =
      if a < (s.swingRec u).mark then s.askImpulse u dir false false else s.enterSwinging u := by
  unfold State.actOnTurn
  dsimp only
  rw [h]

theorem actOnTurn_of_swinging {a : Nat} {dir : Dir} (h : (s.unit u).state = .swinging) :
    s.actOnTurn u (some a) dir = if a < (s.swingRec u).mark then s.askImpulse u dir false false else s := by
  unfold State.actOnTurn
  dsimp only
  rw [h]

theorem actOnTurn_of_lowering {a : Option Nat} {dir : Dir} (h : (s.unit u).state = .lowering) :
    s.actOnTurn u a dir =
      if (s.unit u).lowKind = some .normal ∧ (s.swingRec u).brake = .counter then
        (s.setUnit u { s.unit u with noTurn := some (s.now + 10000) }).askImpulse u dir.other false true
      else s.setUnit u { s.unit u with noTurn := some (s.now + 10000) } := by
  unfold State.actOnTurn
  dsimp only
  rw [h]
  rfl

theorem actOnTurn_of_settling {a : Option Nat} {dir : Dir} (h : (s.unit u).state = .settling) :
    s.actOnTurn u a dir =
      s.setUnit u { s.unit u with settle := some (s.now + (s.swingRec u).settle * 1000), turned := true } := by
  unfold State.actOnTurn
  dsimp only
  rw [h]

theorem other_other (dir : Dir) : dir.other.other = dir := by cases dir <;> rfl

/-- What is read of a unit whose turn has just been counted. -/
theorem unit_counted (s : State) (u : Nat) : (s.setUnit u (countedUnit (s.unit u))).unit u = countedUnit (s.unit u) :=
  State.unit_setUnit_self ..

namespace Turns

theorem reversal_of_fault (h : Turns s u) (fault : (s.unit u).state = .fault) :
    Machine.reversal u s = s.setUnit u (countedUnit (s.unit u)) := by
  rw [h.reversal_of_counted (by rw [fault]; decide) (.inl fault), actOnTurn_of_fault (by rw [unit_counted]; exact fault)]

theorem reversal_of_settling (h : Turns s u) (few : (s.unit u).turns ≤ 2) (settling : (s.unit u).state = .settling) :
    Machine.reversal u s = s.setUnit u { countedUnit (s.unit u) with
      settle := some (s.now + (s.swingRec u).settle * 1000), turned := true } := by
  rw [h.reversal_of_counted (by rw [settling]; decide) (.inr few),
    actOnTurn_of_settling (by rw [unit_counted]; exact settling), unit_counted, setUnit_setUnit]
  rfl

theorem reversal_of_lowering (h : Turns s u) (few : (s.unit u).turns ≤ 2) (lowering : (s.unit u).state = .lowering) :
    let t := s.setUnit u { countedUnit (s.unit u) with noTurn := some (s.now + 10000) }
    Machine.reversal u s =
      if (s.unit u).lowKind = some .normal ∧ (s.swingRec u).brake = .counter then
        t.askImpulse u (s.unit u).trackDir false true
      else t := by
  rw [h.reversal_of_counted (by rw [lowering]; decide) (.inr few),
    actOnTurn_of_lowering (by rw [unit_counted]; exact lowering), unit_counted, setUnit_setUnit, other_other]
  rfl

theorem reversal_of_raising (h : Turns s u) (found : (s.unit u).referenced = true) (few : (s.unit u).turns ≤ 2)
    (raising : (s.unit u).state = .raising) :
    let t := s.setUnit u (countedUnit (s.unit u))
    Machine.reversal u s =
      if (s.unit u).furthest.natAbs < (s.swingRec u).mark then t.askImpulse u (s.unit u).trackDir.other false false
      else t.enterSwinging u := by
  rw [h.reversal_of_counted (by rw [raising]; decide) (.inr few), amplitudeOfTurn_of_referenced found,
    actOnTurn_of_raising (by rw [unit_counted]; exact raising)]
  rfl

theorem reversal_of_swinging (h : Turns s u) (found : (s.unit u).referenced = true) (few : (s.unit u).turns ≤ 2)
    (swinging : (s.unit u).state = .swinging) :
    let t := s.setUnit u (countedUnit (s.unit u))
    Machine.reversal u s =
      if (s.unit u).furthest.natAbs < (s.swingRec u).mark then t.askImpulse u (s.unit u).trackDir.other false false
      else t := by
  rw [h.reversal_of_counted (by rw [swinging]; decide) (.inr few), amplitudeOfTurn_of_referenced found,
    actOnTurn_of_swinging (by rw [unit_counted]; exact swinging)]
  rfl

end Turns

/-- Settles O41: each edge, impulse, small movement and turn is its equation. -/
theorem encoderAndTurns : Obligations.EncoderAndTurns := by
  unfold Obligations.EncoderAndTurns
  refine ⟨fun u dir s running => ?edge, fun w r => ⟨?back, rfl, rfl, rfl, ?turn⟩, fun s u dir kick braking => ?impulse,
    fun u s running => ?small, fun u s running back found far => ?referenced, fun u s running back near far => ?turns⟩
  case edge =>
    intro w angle
    refine exec_of_running rfl running ?_
    rw [encoderEdge_eq]
    cases dir <;> rfl
  case back =>
    cases e : w.trackDir with
    | positive => exact movedBack_of_positive e
    | negative => exact movedBack_of_negative e
  case turn =>
    cases e : w.referenced with
    | true => exact isTurn_of_referenced e
    | false => exact isTurn_of_unreferenced e
  case impulse => exact ⟨askImpulse_of_busy, askImpulse_of_idle⟩
  case small =>
    refine ⟨fun near => exec_of_running rfl running (reversal_of_near near), fun back small other => ?_,
      fun back small lowering => ?_⟩
    · exact exec_of_running rfl running ((reversal_of_small back small).trans (if_neg other))
    · exact exec_of_running rfl running ((reversal_of_small back small).trans (if_pos lowering))
  case referenced =>
    intro w amplitude dir
    have turns : Turns s u := ⟨back, (isTurn_of_referenced found).mpr far⟩
    refine ⟨fun rest => ?_, fun moves sound three => ?_, fun few => ?_⟩
    · rw [← measuredUnit_of_referenced found]
      exact exec_of_running rfl running (turns.reversal_of_rest rest)
    · have counted : countedUnit w = { w.reversed with amplitude := some amplitude, turns := 4 } := by
        rw [countedUnit_of_referenced found three.le, three]
      rw [← counted]
      exact exec_of_running rfl running (turns.reversal_of_fourth moves sound three)
    · rw [← countedUnit_of_referenced found (few.trans (by decide))]
      refine ⟨fun raising below => ?_, fun raising reached => ?_, fun swinging => ?_⟩
      · exact exec_of_running rfl running ((turns.reversal_of_raising found few raising).trans (if_pos below))
      · exact exec_of_running rfl running
          ((turns.reversal_of_raising found few raising).trans (if_neg (not_lt.mpr reached)))
      · exact exec_of_running rfl running (turns.reversal_of_swinging found few swinging)
  case turns =>
    intro counted
    have turns : Turns s u := ⟨back, by
      cases found : (s.unit u).referenced with
      | true => exact (isTurn_of_referenced found).mpr (near found)
      | false => exact (isTurn_of_unreferenced found).mpr (far found)⟩
    refine ⟨fun fault => exec_of_running rfl running (turns.reversal_of_fault fault), fun moves sound three =>
      exec_of_running rfl running (turns.reversal_of_fourth moves sound three), fun few => ⟨fun settling =>
        exec_of_running rfl running (turns.reversal_of_settling few settling), fun lowering => ⟨fun normal counter => ?_,
          fun other => ?_⟩⟩⟩
    · exact exec_of_running rfl running
        ((turns.reversal_of_lowering few lowering).trans (if_pos ⟨normal, counter⟩))
    · exact exec_of_running rfl running
        ((turns.reversal_of_lowering few lowering).trans (if_neg fun both => other.elim (· both.1) (· both.2)))

end Sys2Proof.Proofs
end

section
/-! SUPPORT. Index crossings, the timers of a swing unit that end a state or an impulse, and entering SWINGING and SETTLING
(R96, R99-R103). -/
namespace Sys2Proof.Proofs

open Sys2Proof.Machine Sys2Proof.Claims

variable {s t : State} {u b instant : Nat}

/-! ## Index crossings (R96) -/

/-- A unit's fields after an index crossing, with a slip count. -/
def zeroedUnit (w : SwingUnit) (slips : Nat) : SwingUnit := { w.rezero with turns := 0, slips := slips }

theorem indexCrossing_of_unreferenced (h : (s.unit u).referenced = false) :
    indexCrossing u s = s.setUnit u { zeroedUnit (s.unit u) (s.unit u).slips with referenced := true } := by
  unfold indexCrossing
  dsimp only
  rw [h]
  rfl

theorem indexCrossing_of_within (found : (s.unit u).referenced = true)
    (within : (s.unit u).state = .rest ∨ (s.unit u).angle.natAbs ≤ (s.swingRec u).tolerance) :
    indexCrossing u s = s.setUnit u (zeroedUnit (s.unit u) 0) := by
  unfold indexCrossing
  dsimp only
  rw [found, if_neg (by decide), if_pos within]
  rfl

/-- A referenced unit whose captured angle is outside the tolerance, and not at rest: a slip. -/
structure Slips (s : State) (u : Nat) : Prop where
  found : (s.unit u).referenced = true
  moves : (s.unit u).state ≠ .rest
  outside : (s.swingRec u).tolerance < (s.unit u).angle.natAbs

/-- A slip is counted up to the third, which is the fault of a unit that is not in FAULT. -/
theorem Slips.indexCrossing (h : Slips s u) :
    indexCrossing u s =
      let t := s.setUnit u (zeroedUnit (s.unit u) (min 3 ((s.unit u).slips + 1)))
      if min 3 ((s.unit u).slips + 1) = 3 ∧ (s.unit u).state ≠ .fault then t.enterFault u .encoderSlip else t := by
  obtain ⟨found, moves, outside⟩ := h
  unfold Machine.indexCrossing
  dsimp only
  rw [found, if_neg (by decide), if_neg (not_or.mpr ⟨moves, not_le.mpr outside⟩)]
  rfl

theorem Slips.indexCrossing_of_few (h : Slips s u) (few : (s.unit u).slips < 2) :
    Machine.indexCrossing u s = s.setUnit u (zeroedUnit (s.unit u) ((s.unit u).slips + 1)) := by
  have count : min 3 ((s.unit u).slips + 1) = (s.unit u).slips + 1 := min_eq_right (by omega)
  rw [h.indexCrossing, count]
  exact if_neg fun third => by omega

theorem Slips.indexCrossing_of_third (h : Slips s u) (two : (s.unit u).slips = 2) :
    Machine.indexCrossing u s =
      if (s.unit u).state = .fault then s.setUnit u (zeroedUnit (s.unit u) 3)
      else (s.setUnit u (zeroedUnit (s.unit u) 3)).enterFault u .encoderSlip := by
  rw [h.indexCrossing, two]
  by_cases fault : (s.unit u).state = .fault
  · rw [if_pos fault]
    exact if_neg fun third => third.2 fault
  · rw [if_neg fault]
    exact if_pos ⟨rfl, fault⟩

theorem abs_le_iff (angle : Int) (tolerance : Nat) : |angle| ≤ tolerance ↔ angle.natAbs ≤ tolerance := by
  rw [Int.abs_eq_natAbs, Int.ofNat_le]

/-! ## The timers that end a state (R100, R102, R103) -/

theorem raiseLimitExpiry_of_raising (raising : (s.unit u).state = .raising) (limit : (s.unit u).raiseLimit = some instant) :
    raiseLimitExpiry u s = (s.runTo instant).enterFault u .raiseTimeout := by
  unfold raiseLimitExpiry
  rw [raising, limit]

theorem lowerLimitExpiry_of_lowering (lowering : (s.unit u).state = .lowering)
    (limit : (s.unit u).lowerLimit = some instant) :
    lowerLimitExpiry u s = (s.runTo instant).enterFault u .lowerTimeout := by
  unfold lowerLimitExpiry
  rw [lowering, limit]

theorem noTurnTimeout_of_lowering (lowering : (s.unit u).state = .lowering) (limit : (s.unit u).noTurn = some instant) :
    noTurnTimeout u s = (s.runTo instant).enterSettling u .noTurn := by
  unfold noTurnTimeout
  rw [lowering, limit]

theorem rings_iff (w : SwingUnit) : w.rings = true ↔ w.state = .raising ∨ w.state = .swinging := by
  unfold SwingUnit.rings
  rw [Bool.or_eq_true, decide_eq_true_eq, decide_eq_true_eq]

theorem ringEnd_of_rings (rings : (s.unit u).rings = true) (ends : (s.unit u).ringEnd = some instant) :
    ringEnd u s = ((s.runTo instant).cutDrive u).lowerUnit u .normal .ringEnd := by
  rw [← stopUnit_of_rings (s := s.runTo instant) rings]
  unfold ringEnd
  rw [ends]
  exact if_pos rings

/-- A unit's fields at the end of its settle timer. -/
def restedUnit (w : SwingUnit) : SwingUnit :=
  let found := if w.referenced then w else { w.rezero with referenced := true }
  { found with state := .rest, turns := 0, owner := none, settle := none }

theorem settleTimerExpiry_of_settling (settling : (s.unit u).state = .settling)
    (settle : (s.unit u).settle = some instant) :
    settleTimerExpiry u s = (((s.runTo instant).setUnit u (restedUnit (s.unit u))).moveClaim u .free).unitNotice u
      .settling .settled := by
  unfold settleTimerExpiry
  rw [settling, settle]
  rfl

theorem restedUnit_of_referenced {w : SwingUnit} (h : w.referenced = true) :
    restedUnit w = { w with state := .rest, turns := 0, owner := none, settle := none } := by
  unfold restedUnit
  rw [if_pos h]

theorem restedUnit_of_unreferenced {w : SwingUnit} (h : w.referenced = false) :
    restedUnit w = { w.rezero with
      referenced := true, state := .rest, turns := 0, owner := none, settle := none } := by
  unfold restedUnit
  rw [h]
  rfl

/-- At its settle timer's end a unit is at rest, referenced and nobody's; one that found no index takes its angle for 0. -/
theorem restedUnit_fields (w : SwingUnit) :
    (restedUnit w).state = .rest ∧ (restedUnit w).referenced = true ∧ (restedUnit w).owner = none ∧
      (restedUnit w).turns = 0 ∧ (restedUnit w).settle = none ∧
      (w.referenced = true → (restedUnit w).angle = w.angle) ∧ (w.referenced = false → (restedUnit w).angle = 0) := by
  cases found : w.referenced with
  | true =>
    rw [restedUnit_of_referenced found]
    exact ⟨rfl, found, rfl, rfl, rfl, fun _ => rfl, nofun⟩
  | false =>
    rw [restedUnit_of_unreferenced found]
    exact ⟨rfl, rfl, rfl, rfl, rfl, nofun, fun _ => rfl⟩

/-! ## The timers of the drive (R101) -/

theorem driveWindowExpiry_of_waiting {dir : Dir} {braking : Bool}
    (waits : (s.unit u).drive = .waiting dir (some instant) braking) :
    driveWindowExpiry u s =
      ((s.runTo instant).setUnit u { (s.runTo instant).unit u with drive := .idle }).withdraw (.swing u) := by
  rw [← cutDrive_of_waiting (s := s.runTo instant) waits]
  unfold driveWindowExpiry
  rw [waits]

theorem driveImpulseEnd_of_impulse {dir : Dir} (drives : (s.unit u).drive = .impulse dir instant) :
    driveImpulseEnd u s =
      ((s.runTo instant).setUnit u { (s.runTo instant).unit u with drive := .idle }).releaseAll (.swing u) := by
  rw [← cutDrive_of_impulse (s := s.runTo instant) drives]
  unfold driveImpulseEnd
  rw [drives]

/-! ## Entering SWINGING and SETTLING (R99, R100, R103) -/

theorem unitNotice_of_unit {w : SwingUnit} {old : UnitState} {cause : UnitCause} (tables : t.tables = s.tables)
    (own : t.unit u = w) :
    t.unitNotice u old cause =
      t.notify (.unit u (s.bellOfUnit u) old w.state cause w.owner w.amplitude w.lowKind w.fault) := by
  rw [← own, ← bellOfUnit_of_tables tables]
  rfl

/-- A unit's fields in SWINGING. -/
def swingingUnit (w : SwingUnit) : SwingUnit := { w with state := .swinging, raiseLimit := none }

/-- A unit enters SWINGING, its kick being withdrawn, and is reported. -/
theorem unitNotice_swinging (tables : t.tables = s.tables) :
    (t.setUnit u (swingingUnit (t.unit u))).unitNotice u .raising .target =
      (t.setUnit u (swingingUnit (t.unit u))).notify (.unit u (s.bellOfUnit u) .raising .swinging .target
        (t.unit u).owner (t.unit u).amplitude (t.unit u).lowKind (t.unit u).fault) :=
  unitNotice_of_unit (by exact tables) (State.unit_setUnit_self ..)

theorem enterSwinging_of_kick {dir : Dir} {braking : Bool} (kick : (s.unit u).drive = .waiting dir none braking) :
    s.enterSwinging u =
      ((s.cutDrive u).setUnit u (swingingUnit ((s.cutDrive u).unit u))).unitNotice u .raising .target := by
  unfold State.enterSwinging
  rw [kick]
  rfl

theorem enterSwinging_of_noKick (h : ¬∃ dir braking, (s.unit u).drive = .waiting dir none braking) :
    s.enterSwinging u = (s.setUnit u (swingingUnit (s.unit u))).unitNotice u .raising .target := by
  unfold State.enterSwinging
  split
  · rename_i kick; exact absurd ⟨_, _, kick⟩ h
  · rfl

/-- A unit's fields in SETTLING, its drive stopped, at an instant and with a settle time in s. -/
def settlingUnit (w : SwingUnit) (now seconds : Nat) : SwingUnit :=
  { w with
    state := .settling, lowKind := none, lowerLimit := none, noTurn := none, turned := false
    settle := some (now + seconds * 1000) }

/-- A unit in SETTLING with its drive cut, before its bell's claim moves and it is reported. -/
def settlingState (s : State) (u : Nat) : State :=
  (s.cutDrive u).setUnit u (settlingUnit ((s.cutDrive u).unit u) s.now (s.swingRec u).settle)

theorem unit_settlingState (s : State) (u : Nat) :
    (settlingState s u).unit u = settlingUnit ((s.cutDrive u).unit u) s.now (s.swingRec u).settle :=
  State.unit_setUnit_self ..

theorem settlingState_tables (s : State) (u : Nat) : (settlingState s u).tables = s.tables :=
  (actsOnUnit_cutDrive s u).tables

/-- A unit in SETTLING is reported once its bell's claim has moved. -/
theorem enterSettling_eq (s : State) (u : Nat) (cause : UnitCause) :
    s.enterSettling u cause =
      ((settlingState s u).moveClaim u (.settling u)).notify (.unit u (s.bellOfUnit u) (s.unit u).state .settling cause
        ((s.cutDrive u).unit u).owner ((s.cutDrive u).unit u).amplitude none ((s.cutDrive u).unit u).fault) := by
  have cut := actsOnUnit_cutDrive s u
  have tables : ((settlingState s u).moveClaim u (.settling u)).tables = s.tables :=
    (moves_moveClaim (.refl _) u _).tables.trans (settlingState_tables s u)
  have own : ((settlingState s u).moveClaim u (.settling u)).unit u =
      settlingUnit ((s.cutDrive u).unit u) s.now (s.swingRec u).settle :=
    (unit_of_units (moveClaim_units _ _ _) u).trans (unit_settlingState s u)
  refine Eq.trans ?_ (unitNotice_of_unit tables own)
  unfold settlingState
  rw [← cut.now, ← swingRec_of_tables cut.tables]
  rfl

theorem enterSettling_of_bound {cause : UnitCause} (bound : s.bellOfUnit u = some b) :
    s.enterSettling u cause =
      (((settlingState s u).setBell b { s.bell b with claim := .settling u }).post (.report b)).notify
        (.unit u (s.bellOfUnit u) (s.unit u).state .settling cause ((s.cutDrive u).unit u).owner
          ((s.cutDrive u).unit u).amplitude none ((s.cutDrive u).unit u).fault) := by
  have same : (settlingState s u).bell b = s.bell b := bell_of_bells (cutDrive_bells s u) b
  rw [enterSettling_eq, moveClaim_of_bound ((bellOfUnit_of_tables (settlingState_tables s u) u).trans bound), same]

theorem enterSettling_of_unbound {cause : UnitCause} (unbound : s.bellOfUnit u = none) :
    s.enterSettling u cause =
      (settlingState s u).notify (.unit u (s.bellOfUnit u) (s.unit u).state .settling cause
        ((s.cutDrive u).unit u).owner ((s.cutDrive u).unit u).amplitude none ((s.cutDrive u).unit u).fault) := by
  rw [enterSettling_eq, moveClaim_of_unbound ((bellOfUnit_of_tables (settlingState_tables s u) u).trans unbound)]

/-- Settles O42: each crossing, timer's end and entry is its equation. -/
theorem indexAndUnitTimers : Obligations.IndexAndUnitTimers := by
  unfold Obligations.IndexAndUnitTimers
  refine ⟨fun u s running => ?index, fun u s instant ready => ?timers, fun u s instant running settling settle => ?settled,
    fun u s cause => ?enters⟩
  case index =>
    intro w zeroed
    have slips (found : w.referenced = true) (moves : w.state ≠ .rest)
        (outside : ((s.swingRec u).tolerance : Int) < |w.angle|) : Slips s u :=
      ⟨found, moves, not_le.mp fun within => not_le.mpr outside ((abs_le_iff _ _).mpr within)⟩
    refine ⟨fun lost => ?_, fun found within => ?_, fun found moves outside few => ?_,
      fun found moves sound outside two => ?_, fun found fault outside two => ?_⟩
    · exact exec_of_running rfl running (indexCrossing_of_unreferenced lost)
    · exact exec_of_running rfl running (indexCrossing_of_within found (within.imp_right (abs_le_iff _ _).mp))
    · exact exec_of_running rfl running ((slips found moves outside).indexCrossing_of_few few)
    · exact exec_of_running rfl running
        (((slips found moves outside).indexCrossing_of_third two).trans (if_neg sound))
    · have moves : w.state ≠ .rest := by rw [fault]; decide
      exact exec_of_running rfl running
        (((slips found moves outside).indexCrossing_of_third two).trans (if_pos fault))
  case timers =>
    exact ⟨fun raising limit => exec_of_ready rfl ready (raiseLimitExpiry_of_raising raising limit),
      fun lowering limit => exec_of_ready rfl ready (lowerLimitExpiry_of_lowering lowering limit),
      fun lowering limit => exec_of_ready rfl ready (noTurnTimeout_of_lowering lowering limit),
      fun rings ends => exec_of_ready rfl ready (ringEnd_of_rings ((rings_iff _).mpr rings) ends),
      fun dir braking waits => exec_of_ready rfl ready (driveWindowExpiry_of_waiting waits),
      fun dir drives => exec_of_ready rfl ready (driveImpulseEnd_of_impulse drives)⟩
  case settled =>
    exact ⟨restedUnit (s.unit u), exec_of_running rfl running (settleTimerExpiry_of_settling settling settle),
      restedUnit_fields (s.unit u)⟩
  case enters =>
    refine ⟨?_, fun noKick => (enterSwinging_of_noKick noKick).trans (unitNotice_swinging rfl), fun b bound =>
      enterSettling_of_bound bound, enterSettling_of_unbound⟩
    rintro ⟨dir, braking, kick⟩
    exact (enterSwinging_of_kick kick).trans (unitNotice_swinging (actsOnUnit_cutDrive s u).tables)

end Sys2Proof.Proofs
end

section
/-! SUPPORT. PEAL and ENDPEAL: the refusals of a run in their order, and what a run begins and ends with (R110, R112). -/
namespace Sys2Proof.Proofs

open Sys2Proof.Machine Sys2Proof.Claims

variable {s t : State} {plan : Nat} {status : Status}

/-! ## The refusals of a PEAL (R110) -/

/-- A unit that rings, lowers or has a start pending: no run takes it. -/
def rung (w : SwingUnit) : Prop := w.rings = true ∨ w.state = .lowering ∨ w.startPending = true

/-- A unit of the list is one that no run takes, as PEAL judges it. -/
def anyRung (s : State) (units : List Nat) : Bool :=
  units.any fun u => (s.unit u).rings || decide ((s.unit u).state = .lowering) || (s.unit u).startPending

theorem anyRung_iff (s : State) (units : List Nat) : anyRung s units = true ↔ ∃ u ∈ units, rung (s.unit u) := by
  simp only [anyRung, List.any_eq_true, Bool.or_eq_true, decide_eq_true_eq, or_assoc, rung]

theorem pealRefusal_of_unused (h : (s.planRec plan).used = false) : s.pealRefusal plan = some .noEntry := by
  unfold State.pealRefusal
  dsimp only
  rw [h]
  rfl

theorem pealRefusal_of_busy (used : (s.planRec plan).used = true) (busy : s.run.state ≠ .idle) :
    s.pealRefusal plan = some .busy := by
  unfold State.pealRefusal
  dsimp only
  rw [used, if_neg (by decide), if_pos busy]

/-- A used plan, with no run in progress. -/
structure Offered (s : State) (plan : Nat) : Prop where
  used : (s.planRec plan).used = true
  idle : s.run.state = .idle

namespace Offered

/-- What is left to judge of a used plan with no run in progress. -/
theorem pealRefusal (h : Offered s plan) :
    s.pealRefusal plan =
      if s.accessClear = false then some .access
      else if s.mainsNormal = false then some .reserve
      else if anyRung s (s.planRec plan).units then some .inUse
      else none := by
  unfold State.pealRefusal
  dsimp only
  rw [h.used, if_neg (by decide), if_neg (not_not.mpr h.idle)]
  cases s.accessClear <;> cases s.mainsNormal <;> rfl

theorem pealRefusal_of_access (h : Offered s plan) (active : s.accessClear = false) :
    s.pealRefusal plan = some .access := by
  rw [h.pealRefusal, if_pos active]

theorem pealRefusal_of_reserve (h : Offered s plan) (clear : s.accessClear = true) (lost : s.mainsNormal = false) :
    s.pealRefusal plan = some .reserve := by
  rw [h.pealRefusal, clear, if_neg (by decide), if_pos lost]

theorem pealRefusal_of_rung (h : Offered s plan) (clear : s.accessClear = true) (mains : s.mainsNormal = true)
    (rings : ∃ u ∈ (s.planRec plan).units, rung (s.unit u)) : s.pealRefusal plan = some .inUse := by
  rw [h.pealRefusal, clear, mains, if_neg (by decide), if_neg (by decide), if_pos ((anyRung_iff s _).mpr rings)]

theorem pealRefusal_of_still (h : Offered s plan) (clear : s.accessClear = true) (mains : s.mainsNormal = true)
    (still : ∀ u ∈ (s.planRec plan).units, ¬rung (s.unit u)) : s.pealRefusal plan = none := by
  have none : ¬∃ u ∈ (s.planRec plan).units, rung (s.unit u) := fun ⟨u, among, rings⟩ => still u among rings
  rw [h.pealRefusal, clear, mains, if_neg (by decide), if_neg (by decide), if_neg (mt (anyRung_iff s _).mp none)]

end Offered

theorem startPeal_of_refused (h : s.pealRefusal plan = some status) : startPeal plan s = (s, status) := by
  unfold startPeal
  rw [h]

theorem startPeal_of_accepted (h : s.pealRefusal plan = none) :
    startPeal plan s = (((s.withRun { pealRun0 with
      state := .starting, plan := plan, first := s.now, ends := s.now + (s.planRec plan).duration * 60000 }).notify
        (.run plan .idle .starting .accepted)).post .startStep, .ok) := by
  unfold startPeal
  rw [h]

/-! ## The requests (R110, R112) -/

theorem exec_peal {p : Byte} (hs : slotFree s) (h : pealBody [p.toNat] (taken s) = (t, status, [])) :
    exec (.peal [p]) s = .next (answered 0x22 status [] t).finish :=
  frameCommand_answered (kind := 0x22) hs rfl rfl rfl (by decide) (by decide)
    ((fields_of_unpack (unpack_oneByte p) _).trans h)

theorem pealBody_of_plan {p : Nat} (hp : p < 8) (h : startPeal p s = (t, status)) : pealBody [p] s = (t, status, []) :=
  (if_pos hp).trans (congrArg plain h)

theorem exec_endpeal (hs : slotFree s) (h : endPeal (taken s) = (t, status)) :
    exec (.endpeal []) s = .next (answered 0x23 status [] t).finish :=
  frameCommand_answered (kind := 0x23) (body := []) hs rfl rfl rfl (by decide) (by decide) (congrArg plain h)

theorem endPeal_of_idle (h : s.run.state = .idle) : endPeal s = (s, .noEntry) := by
  unfold endPeal
  rw [h]

theorem endPeal_of_stopping (h : s.run.state = .stopping) : endPeal s = (s, .ok) := by
  unfold endPeal
  rw [h]

theorem endPeal_of_moving (h : s.run.state = .starting ∨ s.run.state = .running) :
    endPeal s = (s.stopRun .endpeal s.planGap, .ok) := by
  unfold endPeal
  rcases h with e | e <;> rw [e]

/-- Settles O45: each refusal and effect of PEAL and ENDPEAL, in the state in which the frame is executed. -/
theorem pealRequests : Obligations.PealRequests := by
  unfold Obligations.PealRequests
  refine ⟨fun p s hs => ?peal, fun s hs => ⟨fun idle => exec_endpeal hs (endPeal_of_idle idle),
    fun stopping => exec_endpeal hs (endPeal_of_stopping stopping),
    fun moving => exec_endpeal hs (endPeal_of_moving moving)⟩⟩
  case peal =>
    intro refused
    refine ⟨fun outside => exec_peal hs (if_neg (Nat.not_lt.mpr outside)), fun inside => ?_⟩
    have refuses {status : Status} (h : (taken s).pealRefusal p.toNat = some status) : refused status :=
      exec_peal hs (pealBody_of_plan inside (startPeal_of_refused h))
    refine ⟨fun unused => refuses (pealRefusal_of_unused unused), fun used busy => refuses (pealRefusal_of_busy used busy),
      fun used idle => ?_⟩
    have offered : Offered (taken s) p.toNat := ⟨used, idle⟩
    exact ⟨fun active => refuses (offered.pealRefusal_of_access active),
      fun clear lost => refuses (offered.pealRefusal_of_reserve clear lost),
      fun clear mains rings => refuses (offered.pealRefusal_of_rung clear mains rings), fun clear mains still =>
        exec_peal hs (pealBody_of_plan inside (startPeal_of_accepted (offered.pealRefusal_of_still clear mains still)))⟩

end Sys2Proof.Proofs
end

section
/-! SUPPORT. The steps of a peal run: its start steps, its end instant, its stop steps and its return to IDLE (R110, R111,
R113). -/
namespace Sys2Proof.Proofs

open Sys2Proof.Machine Sys2Proof.Claims

variable {s t : State} {u step : Nat}

/-! ## A start leaves the run as it is (R98) -/

theorem claimSwing_run (s : State) (u : Nat) : (s.claimSwing u).1.run = s.run := by
  unfold State.claimSwing
  dsimp only
  repeat' split
  all_goals rfl

theorem preempt_run (s : State) (u : Nat) : (s.preempt u).run = s.run := by
  unfold State.preempt
  repeat' split
  all_goals rfl

theorem enterRaising_run (s : State) (u : Nat) (owner : Owner) (minutes : Nat) (cause : UnitCause) :
    (s.enterRaising u owner minutes cause).run = s.run := by
  by_cases kick : (s.unit u).drive = .idle ∧ ((s.unit u).state = .rest ∨ (s.unit u).turned = false)
  · rw [enterRaising_of_kick kick.1 kick.2, State.notify_run, State.request_run]
    rfl
  · rw [enterRaising_of_noKick kick]
    rfl

theorem startOnClaim_run (u : Nat) (owner : Owner) (p : Precedence) (minutes : Nat) (a : State × SwingAnswer) :
    (startOnClaim u owner p minutes a).1.run = a.1.run := by
  obtain ⟨t, answer⟩ := a
  cases answer with
  | granted => exact enterRaising_run t u owner minutes .start
  | pending =>
    cases p with
    | wait => rfl
    | preempt => exact preempt_run _ u
  | noBell | access | reserve | inUse => rfl

theorem startUnit_run (s : State) (u : Nat) (owner : Owner) (p : Precedence) (minutes : Nat) :
    (s.startUnit u owner p minutes).1.run = s.run := by
  unfold State.startUnit
  dsimp only
  iterate 6 (split; rfl)
  exact (startOnClaim_run u owner p minutes _).trans (claimSwing_run s u)

/-! ## The return to IDLE (R111) -/

/-- A unit at rest without a start pending, settling or in fault: its ringing is over. -/
def downed (w : SwingUnit) : Prop := w.state = .rest ∧ w.startPending = false ∨ w.state = .settling ∨ w.state = .fault

theorem membersDone_iff (s : State) : s.membersDone = true ↔ ∀ u ∈ s.run.members, downed (s.unit u) := by
  unfold State.membersDone downed
  rw [List.all_eq_true]
  refine forall₂_congr fun u _ => ?_
  dsimp only
  cases (s.unit u).state <;> simp

theorem finishRun_of_stopping (stopping : s.run.state = .stopping) (taken : s.run.stops = [])
    (done : s.membersDone = true) : s.finishRun = some (s.moveRun pealRun0 .membersDone) := by
  unfold State.finishRun
  rw [stopping, taken, done]
  rfl

theorem finishRun_of_running (running : s.run.state = .running) (done : s.membersDone = true) :
    s.finishRun = some ((s.moveRun { s.run with state := .stopping } .membersDone).moveRun pealRun0 .membersDone) := by
  unfold State.finishRun
  rw [running, done]
  rfl

/-- A run with a member still ringing goes on. -/
theorem finishRun_of_undone (undone : s.membersDone = false) : s.finishRun = none := by
  unfold State.finishRun
  rw [undone, Bool.and_false]
  cases s.run.state <;> rfl

/-- A run that is not started, or whose steps are still to be taken, goes on. -/
theorem finishRun_of_still (h : s.run.state = .idle ∨ s.run.state = .starting) : s.finishRun = none := by
  unfold State.finishRun
  rcases h with e | e <;> rw [e]

theorem finishRun_of_stops (stopping : s.run.state = .stopping) (stops : s.run.stops ≠ []) : s.finishRun = none := by
  unfold State.finishRun
  rw [stopping, List.isEmpty_eq_false_iff.mpr stops]
  rfl

/-- A run that returns to IDLE does so at once, and by itself where no message is left. -/
theorem settled_of_finishRun (h : s.finishRun = some t) : s.settleRun = t ∧ s.standing = some t := by
  unfold State.settleRun State.standing
  rw [h]
  exact ⟨rfl, rfl⟩

theorem settleRun_of_none (h : s.finishRun = none) : s.settleRun = s := by
  unfold State.settleRun
  rw [h]
  rfl

/-! ## Start steps (R110) -/

/-- The start of a unit in the run's plan. -/
def planStart (s : State) (u : Nat) : State × StartAnswer := s.startUnit u .peal (s.planRec s.run.plan).precedence 0

theorem stepUnit_of_halted (h : u ∈ s.run.halted) :
    s.stepUnit step u = s.notify (.step s.run.plan step u .halted) := if_pos (List.contains_iff_mem.mpr h)

/-- What a start step makes of its start: a refused one is told, and else the unit is a member. -/
def startOutcome (s : State) (step u : Nat) (t : State) : StartAnswer → State
  | .refused reason => t.notify (.step s.run.plan step u reason)
  | .started | .pending => t.withRun { s.run with members := s.run.members ++ [u] }

theorem planStart_run (s : State) (u : Nat) : (planStart s u).1.run = s.run := startUnit_run s u _ _ _

theorem stepUnit_of_start (h : u ∉ s.run.halted) :
    s.stepUnit step u = startOutcome s step u (planStart s u).1 (planStart s u).2 := by
  have run := planStart_run s u
  unfold State.stepUnit
  rw [if_neg (mt List.contains_iff_mem.mp h), ← planStart]
  rcases start : planStart s u with ⟨t, answer⟩
  rw [start] at run
  cases answer with
  | refused reason => rfl
  | started | pending => dsimp only; rw [show t.run = s.run from run]; rfl

/-- A start step adds to the members of the run, or leaves it. -/
theorem stepUnit_run (s : State) (step u : Nat) :
    ∃ members, (s.stepUnit step u).run = { s.run with members := members } := by
  have run := planStart_run s u
  by_cases halted : u ∈ s.run.halted
  · rw [stepUnit_of_halted halted]
    exact ⟨s.run.members, rfl⟩
  · rw [stepUnit_of_start halted]
    cases (planStart s u).2 with
    | refused reason => exact ⟨s.run.members, run⟩
    | started | pending => exact ⟨s.run.members ++ [u], rfl⟩

/-- The run as a start step of a unit leaves it, the last one's entry of RUNNING still to come. -/
def afterStart (s : State) (u : Nat) : State :=
  (s.withRun { s.run with steps := s.run.steps + 1 }).stepUnit s.run.steps u

/-- The step of a unit: the last one enters RUNNING. -/
theorem takeStartStep_of_starting (starting : s.run.state = .starting)
    (unit : (s.planRec s.run.plan).units[s.run.steps]? = some u) :
    takeStartStep s =
      if s.run.steps + 1 = (s.planRec s.run.plan).units.length then
        (((afterStart s u).withRun { (afterStart s u).run with state := .running }).notify
          (.run s.run.plan .starting .running .lastStep)).settleRun
      else afterStart s u := by
  have taken : takeStartStep s =
      if s.run.steps + 1 = (s.planRec s.run.plan).units.length then
        ((afterStart s u).moveRun { (afterStart s u).run with state := .running } .lastStep).settleRun
      else afterStart s u := by
    unfold takeStartStep
    dsimp only
    split
    · rename_i v _ found
      obtain rfl : v = u := Option.some.inj (found.symm.trans unit)
      rfl
    · rename_i other
      exact absurd unit (other u starting)
  obtain ⟨members, run⟩ := stepUnit_run (s.withRun { s.run with steps := s.run.steps + 1 }) s.run.steps u
  have plan : (afterStart s u).run.plan = s.run.plan := (congrArg PealRun.plan run :)
  have state : (afterStart s u).run.state = .starting := (congrArg PealRun.state run :).trans starting
  rw [taken, State.moveRun, plan, state]

/-! ## Stop steps (R111, R113) -/

theorem takeStopStep_of_none (h : s.run.stops = []) : takeStopStep s = s := by
  unfold takeStopStep
  rw [h]

theorem takeStopStep_of_stops {rest : List Nat} (h : s.run.stops = u :: rest) :
    takeStopStep s = (s.withRun { s.run with stops := rest, nextStop := s.run.nextStop + s.run.stopGap }).haltUnit u
      .pealStop .pealStop := by
  unfold takeStopStep
  rw [h]

/-- All the stop steps at once go in unit order, whatever the order they are laid out in. -/
theorem takeStopSteps_eq {members : List Nat} (h : ∀ u, u ∈ s.run.stops ↔ u ∈ members) :
    s.takeStopSteps = (s.withRun { s.run with stops := [] }).each
      ([0, 1, 2, 3, 4, 5].filter fun u => u ∈ members) fun u t => t.haltUnit u .pealStop .pealStop := by
  have same : s.run.stops.contains = fun u => decide (u ∈ members) := funext fun u => by
    rw [List.contains_eq_mem, decide_eq_decide.mpr (h u)]
  unfold State.takeStopSteps
  rw [same]
  rfl

/-- The run in STOPPING, its stop steps laid out. -/
def stoppingRun (s : State) (gap : Nat) : State :=
  s.withRun { s.run with
    state := .stopping, nextStop := s.now, stopGap := gap
    stops := if (s.planRec s.run.plan).reverse then s.run.members.reverse else s.run.members }

theorem mem_stops_stoppingRun (s : State) (gap u : Nat) : u ∈ (stoppingRun s gap).run.stops ↔ u ∈ s.run.members := by
  show u ∈ (if (s.planRec s.run.plan).reverse then s.run.members.reverse else s.run.members) ↔ u ∈ s.run.members
  split
  · exact List.mem_reverse
  · rfl

theorem stopRun_of_noGap (s : State) (cause : RunCause) :
    s.stopRun cause 0 =
      ((stoppingRun s 0).takeStopSteps.notify (.run s.run.plan s.run.state .stopping cause)).settleRun := rfl

theorem stopRun_of_gap {gap : Nat} (h : gap ≠ 0) (s : State) (cause : RunCause) :
    s.stopRun cause gap =
      (takeStopStep ((stoppingRun s gap).notify (.run s.run.plan s.run.state .stopping cause))).settleRun :=
  congrArg State.settleRun (if_neg h)

/-! ## The instants of the run -/

theorem startStep_of_starting (h : s.run.state = .starting) :
    startStep s = takeStartStep (s.runTo (s.run.first + s.run.steps * (s.planRec s.run.plan).startGap * 1000)) := if_pos h

theorem pealEndInstant_of_moving (h : s.run.state = .starting ∨ s.run.state = .running) :
    pealEndInstant s = (s.runTo s.run.ends).stopRun .duration ((s.planRec s.run.plan).stopGap * 1000) := if_pos h

theorem stopStep_of_stopping (stopping : s.run.state = .stopping) (stops : s.run.stops ≠ []) :
    stopStep s = (takeStopStep (s.runTo s.run.nextStop)).settleRun := if_pos ⟨stopping, stops⟩

/-- Settles O46: each step of a run, and its return to IDLE, is its equation. -/
theorem pealSteps : Obligations.PealSteps := by
  unfold Obligations.PealSteps
  refine ⟨fun s ready => ⟨fun starting => exec_of_ready rfl ready (startStep_of_starting starting),
      fun moving => exec_of_ready rfl ready (pealEndInstant_of_moving moving),
      fun stopping stops => exec_of_ready rfl ready (stopStep_of_stopping stopping stops)⟩,
    fun s u starting unit => ?start, fun s cause gap => ?stop, fun s => ?idle⟩
  case start =>
    intro plan t a stepped
    have step : afterStart s u = stepped := by
      by_cases halted : u ∈ s.run.halted
      · exact (stepUnit_of_halted (by exact halted)).trans (if_pos halted).symm
      · refine (stepUnit_of_start (by exact halted)).trans (Eq.trans ?_ (if_neg halted).symm)
        change startOutcome t s.run.steps u a.1 a.2 = _
        cases a.2 <;> rfl
    have taken := takeStartStep_of_starting starting unit
    rw [← step]
    exact ⟨fun more => taken.trans (if_neg more.ne), fun last => taken.trans (if_pos last)⟩
  case stop =>
    intro plan entered notice stopped
    refine ⟨?_, fun gap => stopRun_of_gap gap s cause, takeStopStep_of_none, fun u rest => takeStopStep_of_stops⟩
    rintro rfl
    rw [stopRun_of_noGap, takeStopSteps_eq (mem_stops_stoppingRun s 0)]
    rfl
  case idle =>
    intro allDown idle idled passed
    refine ⟨fun stopping stops down => ?_, fun running down => ?_, ?_⟩
    · have finish := finishRun_of_stopping stopping stops ((membersDone_iff s).mpr down)
      unfold State.moveRun at finish
      rw [stopping] at finish
      exact settled_of_finishRun finish
    · have finish := finishRun_of_running running ((membersDone_iff s).mpr down)
      unfold State.moveRun at finish
      rw [running] at finish
      exact settled_of_finishRun finish
    · rintro (rings | still | still | ⟨stopping, stops⟩)
      · exact settleRun_of_none (finishRun_of_undone (Bool.eq_false_iff.mpr (mt (membersDone_iff s).mp rings)))
      · exact settleRun_of_none (finishRun_of_still (.inl still))
      · exact settleRun_of_none (finishRun_of_still (.inr still))
      · exact settleRun_of_none (finishRun_of_stops stopping stops)

end Sys2Proof.Proofs
end

section
/-! SUPPORT. What each operation of a dial is: the class of a difference (R118), a change of state with its notice (R126), a
request asked for or withdrawn (R119, R118), a classification (R118), a rise of the target and a completion (R119, R120). -/
namespace Sys2Proof.Proofs

open Sys2Proof.Machine Sys2Proof.Claims

variable {s : State} {d n : Nat} {cause : DialCause} {r : DialRec} {target position : Nat}

/-! ## The difference and its class (R117, R118) -/

/-- The steps forward to a target, past the top of the face where the target lies behind. -/
theorem ahead_eq (ht : target < r.steps) (hp : position < r.steps) :
    r.ahead target position = if position ≤ target then target - position else target + r.steps - position := by
  unfold DialRec.ahead
  rw [Nat.mod_eq_of_lt hp]
  split
  · next reached =>
    rw [Nat.sub_add_comm reached, Nat.add_mod_right, Nat.mod_eq_of_lt (by omega)]
  · exact Nat.mod_eq_of_lt (by omega)

theorem ahead_lt (ht : target < r.steps) : r.ahead target position < r.steps := Nat.mod_lt _ (by omega)

theorem add_ahead_mod (ht : target < r.steps) (hp : position < r.steps) :
    (position + r.ahead target position) % r.steps = target := by
  rw [ahead_eq ht hp]
  split
  · rw [Nat.add_sub_cancel' (by omega), Nat.mod_eq_of_lt ht]
  · rw [Nat.add_sub_cancel' (by omega), Nat.add_mod_right, Nat.mod_eq_of_lt ht]

theorem ahead_eq_zero_iff (ht : target < r.steps) (hp : position < r.steps) :
    r.ahead target position = 0 ↔ position = target := by
  rw [ahead_eq ht hp]
  split <;> omega

theorem classFor_inStep_iff : r.classFor n = .inStep ↔ n = 0 := by
  unfold DialRec.classFor
  split
  · next reached => simp [reached]
  · next behind => split <;> simp [behind]

theorem classFor_advancing_iff : r.classFor n = .advancing ↔ n ≠ 0 ∧ n * r.interval ≤ r.hold * 60 := by
  unfold DialRec.classFor
  split
  · next reached => simp [reached]
  · next behind => split <;> simp [*]

theorem classFor_of_held (h : r.hold * 60 < n * r.interval) : r.classFor n = .holding := by
  have behind : n ≠ 0 := by
    rintro rfl
    omega
  unfold DialRec.classFor
  rw [if_neg behind, if_neg (Nat.not_le.mpr h)]

/-! ## A change of state (R126) -/

theorem moveDial_of_same {new : DialState} (h : (s.dial d).state = new) : s.moveDial d new cause = s := if_pos h

theorem moveDial_of_change {new : DialState} (h : (s.dial d).state ≠ new) :
    s.moveDial d new cause = (s.setDial d { s.dial d with state := new }).notify
      (.dial d (s.dial d).state new cause (s.dial d).position (s.target (s.dialRec d)) (s.difference d)
        (s.dial d).next) := if_neg h

/-! ## Requests (R118, R119) -/

@[simp] theorem dial_withdraw (s : State) (c : Claimant) (d : Nat) : (s.withdraw c).dial d = s.dial d := by
  unfold State.dial
  rw [State.withdraw_dials]

theorem withdrawDial_of_waiting (h : (s.dial d).drive = .waiting false) :
    s.withdrawDial d = (s.setDial d { s.dial d with drive := .idle }).withdraw (.dial d) := by
  unfold State.withdrawDial
  rw [h]

theorem withdrawDial_of_other (h : (s.dial d).drive ≠ .waiting false) : s.withdrawDial d = s := by
  unfold State.withdrawDial
  split
  · next waits => exact absurd waits h
  · rfl

/-- Outside its spacing a dial that is behind and not withheld asks for its next impulse. -/
theorem askDial_of_spaced (h : (s.dial d).spacing = none) :
    s.askDial d =
      if ((s.dial d).state = .inStep ∨ (s.dial d).state = .advancing) ∧ (s.dial d).drive = .idle ∧
          (∃ n, s.difference d = some n ∧ 1 ≤ n) then
        (s.setDial d { s.dial d with drive := .waiting false }).request (.dial d) (s.dialRec d).units
      else s :=
  if_congr (by simp [h, Option.any_eq_true]) rfl rfl

/-! ## Classification (R118) -/

/-- What holds a dial STOPPED whatever the time and its position are (R118). -/
def barred (s : State) (d : Nat) : Prop :=
  (s.dialRec d).inUse = false ∨ s.mainsNormal = false ∨ (s.dial d).stop = true ∨
    (s.dial d).inFlight = true ∧ ∀ ends, (s.dial d).drive ≠ .impulse false ends

theorem steps_eq_false_iff (drive : DialDrive) : drive.steps = false ↔ ∀ ends, drive ≠ .impulse false ends := by
  unfold DialDrive.steps
  split <;> simp_all

theorem barred_iff (s : State) (d : Nat) :
    (!(s.dialRec d).inUse || !s.mainsNormal || (s.dial d).stop || ((s.dial d).inFlight && !(s.dial d).drive.steps)) = true ↔
      barred s d := by
  simp [barred, ← steps_eq_false_iff, or_assoc]

theorem dialClass_of_barred (h : barred s d) : s.dialClass d = (.stopped, 0) := if_pos ((barred_iff s d).mpr h)

theorem dialClass_of_placeless (h : s.dials.half = none ∨ (s.dial d).position = none) : s.dialClass d = (.stopped, 0) := by
  by_cases held : barred s d
  · exact dialClass_of_barred held
  · unfold State.dialClass State.target
    dsimp only
    rw [if_neg (mt (barred_iff s d).mp held)]
    rcases h with unset | lost
    · rw [unset]
      rfl
    · rw [lost]
      split
      · next placed => cases placed
      · rfl

/-- The steps to the target from where the hands are once an impulse in progress has ended. -/
def stepsLeft (s : State) (d half position : Nat) : Nat :=
  (s.dialRec d).ahead (half * 30 / (s.dialRec d).interval)
    (if (s.dial d).drive.impulsing then position + 1 else position)

theorem dialClass_of_placed {half : Nat} (free : ¬barred s d) (hh : s.dials.half = some half)
    (hp : (s.dial d).position = some position) :
    (s.dialClass d).1 = (s.dialRec d).classFor (stepsLeft s d half position) := by
  unfold State.dialClass State.target
  dsimp only
  rw [if_neg (mt (barred_iff s d).mp free), hh, hp]
  rfl

theorem classify_of_unknown (h : (s.dial d).state = .unknown) : s.classify d cause = s := if_pos h

theorem classify_of_advancing (known : (s.dial d).state ≠ .unknown) (h : (s.dialClass d).1 = .advancing) :
    s.classify d cause = (s.moveDial d .advancing cause).askDial d := by
  unfold State.classify
  dsimp only
  rw [if_neg known, h, if_pos rfl]

/-- A class that wants no impulse: the dial's waiting request is withdrawn. -/
theorem classify_of_other {state : DialState} (known : (s.dial d).state ≠ .unknown) (h : (s.dialClass d).1 = state)
    (other : state ≠ .advancing) :
    s.classify d cause = ((s.withdrawDial d).moveDial d state cause).askDial d := by
  unfold State.classify
  dsimp only
  rw [if_neg known, h, if_neg other]

/-- A dial that is in use is given its repeat impulse where its mark stands, and is classified otherwise (R122). -/
theorem repeatOrClassify_eq (cause : DialCause) (d : Nat) (s : State) :
    repeatOrClassify cause d s =
      if s.mainsNormal = true ∧ (s.dialRec d).inUse = true ∧ (s.dial d).inFlight = true ∧ (s.dial d).drive = .idle then
        (s.setDial d { s.dial d with drive := .waiting true }).request (.dial d) (s.dialRec d).units
      else s.classify d cause :=
  if_congr (by simp [and_assoc]) rfl rfl

/-! ## A rise of the target and a completion (R119, R120) -/

section
variable (hn : s.difference d = some n)
include hn

theorem riseDial_of_inStep (h : (s.dial d).state = .inStep) :
    s.riseDial d = if 2 ≤ n then (s.moveDial d .advancing .fellBehind).askDial d else s.askDial d := by
  unfold State.riseDial
  rw [h, hn]

theorem riseDial_of_advancing (h : (s.dial d).state = .advancing) : s.riseDial d = s.askDial d := by
  unfold State.riseDial
  rw [h, hn]

theorem riseDial_of_holding (h : (s.dial d).state = .holding) :
    s.riseDial d = if n = 0 then s.moveDial d .inStep .targetReached else s := by
  unfold State.riseDial
  rw [h, hn]

theorem judgeDial_of_advancing (h : (s.dial d).state = .advancing) :
    s.judgeDial d = if n = 0 then s.moveDial d .inStep .caughtUp else s.askDial d := by
  unfold State.judgeDial
  rw [h, hn]

end

theorem riseDial_of_still (h : (s.dial d).state = .stopped ∨ (s.dial d).state = .unknown) : s.riseDial d = s := by
  unfold State.riseDial
  rcases h with still | still <;> rw [still]

/-- A completion acts as a rise does on every dial that is not ADVANCING (log 52). -/
theorem judgeDial_of_other (h : (s.dial d).state ≠ .advancing) : s.judgeDial d = s.riseDial d := by
  unfold State.judgeDial
  split
  · next advances _ => exact absurd advances h
  · rfl

end Sys2Proof.Proofs
end

section
/-! SUPPORT. The dials' own events: the end of an impulse and of the spacing (R119, R120); civil steps, the time-set event, the
loss of time, the mains return and the start (R122, R123). -/
namespace Sys2Proof.Proofs

open Sys2Proof.Machine Sys2Proof.Claims

variable {s : State} {d : Nat}

/-! ## The end of an impulse and of the spacing (R119, R120) -/

/-- The hands have made a step: the position moves on, the polarity turns, nothing is in flight and the drive is idle. -/
def stepped (t : State) (d : Nat) : State :=
  t.setDial d { t.dial d with
    position := (t.dial d).position.map fun p => (p + 1) % (t.dialRec d).steps
    next := (t.dial d).next.map Dir.other, inFlight := false, drive := .idle }

theorem dialImpulseEnd_of_impulse {again : Bool} {ends : Nat} (h : (s.dial d).drive = .impulse again ends) :
    let u := stepped ((s.runTo ends).releaseAll (.dial d)) d
    dialImpulseEnd d s =
      if again then u.classify d .mainsReturn
      else if (u.dial d).stop = true ∧ (u.dial d).state.moves = true then u.moveDial d .stopped .dialstop
      else u.judgeDial d := by
  intro u
  have read : u.dial d = _ := State.dial_setDial_self _ _ _
  unfold dialImpulseEnd
  rw [h, read]
  rfl

theorem dialSpacingExpiry_of_spacing {instant : Nat} (h : (s.dial d).spacing = some instant) :
    dialSpacingExpiry d s =
      ((s.runTo instant).setDial d { (s.runTo instant).dial d with spacing := none }).askDial d := by
  unfold dialSpacingExpiry
  rw [h]

/-- Settles O47: an impulse's end and the spacing's are their equations, a rise and a completion are told apart by the dial's
state, and the difference is the way round the face to the target. -/
theorem dialImpulses : Obligations.DialImpulses := by
  unfold Obligations.DialImpulses
  refine ⟨fun d s again ends hr h => exec_of_ready rfl hr (dialImpulseEnd_of_impulse h),
    fun d s instant hr h => ?spacing, fun s d n hn => ?rise, fun r target position _ ht hp => ?difference⟩
  case spacing =>
    have spaced := State.dial_setDial_self (s.runTo instant) d { (s.runTo instant).dial d with spacing := none }
    exact exec_of_ready rfl hr ((dialSpacingExpiry_of_spacing h).trans (askDial_of_spaced (by rw [spaced])))
  case rise =>
    exact ⟨riseDial_of_inStep hn, fun h => ⟨riseDial_of_advancing hn h, judgeDial_of_advancing hn h⟩,
      riseDial_of_holding hn, riseDial_of_still, judgeDial_of_other⟩
  case difference =>
    have reached := ahead_eq_zero_iff ht hp
    exact ⟨ahead_lt ht, add_ahead_mod ht hp, classFor_inStep_iff.trans reached,
      classFor_advancing_iff.trans (and_congr_left' (not_congr reached))⟩

/-! ## Civil time (R123) -/

/-- What is done to the dials that move is done to all but those STOPPED or UNKNOWN. -/
theorem ite_moves {α : Type} (state : DialState) (moving still : α) :
    (if state.moves then moving else still) = if state = .stopped ∨ state = .unknown then still else moving := by
  cases state <;> rfl

/-- The dials are taken one by one, in the order of their numbers (log 66). -/
theorem each_dial {f g : Nat → State → State} (h : ∀ d t, f d t = g d t) (s : State) :
    s.each dialNumbers f = s.each [0, 1, 2, 3] g := by
  rw [funext fun d => funext (h d)]
  rfl

/-- Settles O49: each event does to every dial what its state asks for, and a classification is its class's equation. -/
theorem dialsAndTime : Obligations.DialsAndTime := by
  unfold Obligations.DialsAndTime
  refine ⟨fun s civil => ⟨each_dial (fun d t => ite_moves _ _ _) _, rfl, each_dial (fun d t => ite_moves _ _ _) _⟩,
    fun s cause => each_dial (repeatOrClassify_eq cause) s,
    fun s d cause => ⟨classify_of_unknown, fun known h => ?stopped, fun half position known h hh hp => ?placed,
      fun state => ⟨moveDial_of_same, moveDial_of_change⟩, withdrawDial_of_waiting, withdrawDial_of_other⟩⟩
  case stopped =>
    refine classify_of_other known ?_ (by decide)
    rcases h with unused | lost | mark | unset | unplaced | flying
    · rw [dialClass_of_barred (.inl unused)]
    · rw [dialClass_of_barred (.inr (.inl lost))]
    · rw [dialClass_of_barred (.inr (.inr (.inl mark)))]
    · rw [dialClass_of_placeless (.inl unset)]
    · rw [dialClass_of_placeless (.inr unplaced)]
    · rw [dialClass_of_barred (.inr (.inr (.inr flying)))]
  case placed =>
    have free : ¬barred s d := by
      rintro (unused | lost | mark | flying)
      · exact h (.inl unused)
      · exact h (.inr (.inl lost))
      · exact h (.inr (.inr (.inl mark)))
      · exact h (.inr (.inr (.inr (.inr (.inr flying)))))
    have class_eq := dialClass_of_placed free hh hp
    exact ⟨fun reached => classify_of_other known (class_eq.trans (classFor_inStep_iff.mpr reached)) (by decide),
      fun behind near => classify_of_advancing known (class_eq.trans (classFor_advancing_iff.mpr ⟨behind, near⟩)),
      fun far => classify_of_other known (class_eq.trans (classFor_of_held far)) (by decide)⟩

end Sys2Proof.Proofs
end

section
/-! SUPPORT. DIALSET and DIALSTOP: their refusals in their order, and what an accepted one makes of the dial (R124, R125). -/
namespace Sys2Proof.Proofs

open Sys2Proof.Machine Sys2Proof.Claims

variable {s t : State} {d : Nat} {status : Status}

/-! ## The refusals of a DIALSET (R124) -/

/-- The fields of a DIALSET are in range (R124). -/
def goodFace (d hour minute second : Nat) : Prop := d < 4 ∧ 1 ≤ hour ∧ hour ≤ 12 ∧ minute < 60 ∧ second < 60

/-- The polarity is the last impulse's, with none in flight (R124). -/
def clashes (w : Dial) (next : Dir) : Prop := w.last = some next ∧ w.inFlight = false

section
variable {next : Dir}

theorem dialsetRefusal_of_clash (h : clashes (s.dial d) next) : s.dialsetRefusal d next = some .range := if_pos h

/-- What is left to judge of a polarity that does not clash. -/
theorem dialsetRefusal_of_fits (h : ¬clashes (s.dial d) next) :
    s.dialsetRefusal d next =
      if s.keyOn = false then some .locked
      else if (s.dialRec d).inUse = false then some .noEntry
      else if (s.dial d).drive.impulsing then some .busy
      else none := by
  refine (if_neg h).trans ?_
  cases s.keyOn <;> cases (s.dialRec d).inUse <;> rfl

theorem dialsetRefusal_of_locked (fits : ¬clashes (s.dial d) next) (off : s.keyOn = false) :
    s.dialsetRefusal d next = some .locked := by
  rw [dialsetRefusal_of_fits fits, if_pos off]

theorem dialsetRefusal_of_unused (fits : ¬clashes (s.dial d) next) (on : s.keyOn = true)
    (unused : (s.dialRec d).inUse = false) : s.dialsetRefusal d next = some .noEntry := by
  rw [dialsetRefusal_of_fits fits, on, if_neg (by decide), if_pos unused]

theorem dialsetRefusal_of_impulsing (fits : ¬clashes (s.dial d) next) (on : s.keyOn = true)
    (used : (s.dialRec d).inUse = true) (runs : (s.dial d).drive.impulsing = true) :
    s.dialsetRefusal d next = some .busy := by
  rw [dialsetRefusal_of_fits fits, on, used, if_neg (by decide), if_neg (by decide), if_pos runs]

theorem dialsetRefusal_of_free (fits : ¬clashes (s.dial d) next) (on : s.keyOn = true)
    (used : (s.dialRec d).inUse = true) (still : (s.dial d).drive.impulsing = false) :
    s.dialsetRefusal d next = none := by
  rw [dialsetRefusal_of_fits fits, on, used, still]
  rfl

theorem dialsetRequest_of_refused {face : Nat} (h : s.dialsetRefusal d next = some status) :
    dialsetRequest d face next s = (s, status) := by
  unfold dialsetRequest
  rw [h]

end

/-! ## What an accepted DIALSET does (R124) -/

/-- The dial takes a face and a polarity, with nothing waiting and nothing in flight. -/
def faced (s : State) (d face : Nat) (next : Dir) : State :=
  s.setDial d { s.dial d with
    drive := .idle, position := some (face / (s.dialRec d).interval), next := some next, inFlight := false
    kept := some (s.dialRec d).interval }

/-- A DIALSET's whole effect: the face, the withdrawal of what waited, and the dial classified. -/
def dialSet (s : State) (d face : Nat) (next : Dir) : State :=
  let set := faced s d face next
  let t := if (s.dial d).drive = .idle then set else set.withdraw (.dial d)
  (t.moveDial d (t.dialClass d).1 .dialset).askDial d

theorem dialsetRequest_of_accepted {face : Nat} {next : Dir} (h : s.dialsetRefusal d next = none) :
    dialsetRequest d face next s = (dialSet s d face next, .ok) := by
  unfold dialsetRequest dialSet
  dsimp only
  rw [h]
  by_cases still : (s.dial d).drive = .idle
  · rw [if_pos still, decide_eq_false (not_not_intro still)]
    rfl
  · rw [if_neg still, decide_eq_true still]
    rfl

/-! ## The DIALSET frame (R194) -/

/-- The polarity a DIALSET names. -/
def polarityOf (polarity : Fin 2) : Dir := if polarity = 0 then .positive else .negative

theorem polarityOf_eq (polarity : Fin 2) : (if polarity.val = 0 then Dir.positive else .negative) = polarityOf polarity := by
  fin_cases polarity <;> rfl

theorem unpack_dialset (polarity : Fin 2) (d hour minute second : Byte) :
    unpack dialsetRooms [byte polarity, d, hour, minute, second] =
      some [polarity.val, d.toNat, hour.toNat, minute.toNat, second.toNat] := by
  rw [← beNat_one d, ← beNat_one hour, ← beNat_one minute, ← beNat_one second]
  fin_cases polarity <;> rfl

theorem exec_dialset {polarity : Fin 2} {d hour minute second : Byte} {fields : List Byte} (hs : slotFree s)
    (h : dialsetBody [polarity.val, d.toNat, hour.toNat, minute.toNat, second.toNat] (taken s) = (t, status, fields)) :
    exec (.dialset [byte polarity, d, hour, minute, second]) s = .next (answered 0x28 status fields t).finish :=
  frameCommand_answered (kind := 0x28) hs rfl rfl rfl (by decide) (by decide)
    ((fields_of_unpack (unpack_dialset polarity d hour minute second) _).trans h)

section
variable {polarity : Fin 2} {hour minute second : Nat}

theorem dialsetBody_of_outside (h : ¬goodFace d hour minute second) :
    dialsetBody [polarity.val, d, hour, minute, second] s = (s, .range, []) :=
  if_neg fun inside => h (by simpa [goodFace, within, and_assoc] using inside)

theorem dialsetBody_of_good (h : goodFace d hour minute second) {face : Nat}
    (hf : face = hour % 12 * 3600 + minute * 60 + second)
    (request : dialsetRequest d face (polarityOf polarity) s = (t, status)) :
    dialsetBody [polarity.val, d, hour, minute, second] s =
      (t, status, if status = .ok then pack (enum 3 (t.dial d).state.ctorIdx ++ opt 2 (t.difference d)) else []) := by
  have inside : timeMs (hour % 12) minute second 0 / 1000 = face := by
    unfold timeMs
    omega
  refine (if_pos (by simpa [goodFace, within, and_assoc] using h)).trans ?_
  rw [inside, polarityOf_eq, request]

theorem dialsetBody_of_refused (h : goodFace d hour minute second)
    (refuses : s.dialsetRefusal d (polarityOf polarity) = some status) (bad : status ≠ .ok) :
    dialsetBody [polarity.val, d, hour, minute, second] s = (s, status, []) := by
  rw [dialsetBody_of_good h rfl (dialsetRequest_of_refused refuses), if_neg bad]

end

/-- The state of a dial and the presence of its difference stand in one byte, before the difference (log 18). -/
theorem pack_stateAndDifference (state : Nat) (difference : Option Nat) :
    pack (enum 3 state ++ opt 2 difference) =
      byte (state + 8 * difference.isSome.toNat) :: beBytes 2 (difference.getD 0) := by
  simp [pack, enum, opt, mark, num, markNat, markBytes, markBits, Item.room, leBytes, Item.bytes]

/-! ## DIALSTOP (R125) -/

theorem unpack_dialstop (act : Fin 2) (d : Byte) :
    unpack [.bits 1, .bytes 1] [byte act, d] = some [act.val, d.toNat] := by
  rw [← beNat_one d]
  fin_cases act <;> rfl

theorem exec_dialstop {act : Fin 2} {d : Byte} (hs : slotFree s)
    (h : dialstopBody [act.val, d.toNat] (taken s) = (t, status, [])) :
    exec (.dialstop [byte act, d]) s = .next (answered 0x29 status [] t).finish :=
  frameCommand_answered (kind := 0x29) hs rfl rfl rfl (by decide) (by decide)
    ((fields_of_unpack (unpack_dialstop act d) _).trans h)

theorem dialstopBody_of_dial {act : Nat} (hd : d < 4) (h : dialstopRequest d (decide (act = 0)) s = (t, status)) :
    dialstopBody [act, d] s = (t, status, []) := (if_pos hd).trans (congrArg plain h)

theorem dialstopRequest_of_locked {stop : Bool} (h : s.keyOn = false) : dialstopRequest d stop s = (s, .locked) :=
  if_pos (by rw [h]; rfl)

/-- The dial with its stop mark set or cleared. -/
def withStop (s : State) (d : Nat) (stop : Bool) : State := s.setDial d { s.dial d with stop := stop }

theorem dialstopRequest_stop (h : s.keyOn = true) :
    let t := (withStop s d true).withdrawDial d
    dialstopRequest d true s =
      (if (t.dial d).state.moves && decide ((t.dial d).drive = .idle) then t.moveDial d .stopped .dialstop else t, .ok) :=
  if_neg (by rw [h]; decide)

/-- A STOP of a dial whose drive is IDLE once its own waiting request is withdrawn: a dial that moves stops. -/
theorem dialstopRequest_of_idle (h : s.keyOn = true) (withdrawn : (withStop s d true).withdrawDial d = t)
    (state : (t.dial d).state = (s.dial d).state) (idle : (t.dial d).drive = .idle) :
    dialstopRequest d true s = (if (s.dial d).state.moves then t.moveDial d .stopped .dialstop else t, .ok) := by
  rw [dialstopRequest_stop h, withdrawn, state, idle, decide_eq_true rfl, Bool.and_true]

/-- A STOP with an impulse or a repeat's request: the mark alone (log 22). -/
theorem dialstopRequest_of_driven (h : s.keyOn = true)
    (drive : (s.dial d).drive = .waiting true ∨ (s.dial d).drive.impulsing = true) :
    dialstopRequest d true s = (withStop s d true, .ok) := by
  have read : (withStop s d true).dial d = _ := State.dial_setDial_self _ _ _
  have kept : (s.dial d).drive ≠ .waiting false ∧ (s.dial d).drive ≠ .idle := by
    rcases drive with waits | runs
    · rw [waits]
      decide
    · constructor <;> intro e <;> rw [e] at runs <;> cases runs
  obtain ⟨notWaiting, notIdle⟩ := kept
  rw [dialstopRequest_stop h, withdrawDial_of_other (by rw [read]; exact notWaiting), read, decide_eq_false notIdle,
    Bool.and_false]
  rfl

theorem dialstopRequest_release (h : s.keyOn = true) :
    dialstopRequest d false s =
      (if (s.dial d).state = .stopped then (withStop s d false).classify d .dialstop else withStop s d false, .ok) := by
  unfold dialstopRequest
  dsimp only
  rw [h, State.dial_setDial_self]
  rfl

/-- Settles O48: each refusal of DIALSET and DIALSTOP in its order, and each effect in the state in which the frame is
executed. -/
theorem dialRequests : Obligations.DialRequests := by
  unfold Obligations.DialRequests
  refine ⟨fun polarity d hour minute second s hs => ?set, fun act d s hs => ?stop⟩
  case set =>
    intro body answer good w next clash
    have refuses {status : Status} (face : good) (h : (taken s).dialsetRefusal d.toNat next = some status)
        (bad : status ≠ .ok) : answer = .next (answered 0x28 status [] (taken s)).finish :=
      exec_dialset hs (dialsetBody_of_refused face h bad)
    refine ⟨fun outside => ?range, fun face fits off => refuses face (dialsetRefusal_of_locked fits off) (by decide),
      fun face fits on unused => refuses face (dialsetRefusal_of_unused fits on unused) (by decide),
      fun face fits on used runs => refuses face (dialsetRefusal_of_impulsing fits on used runs) (by decide),
      fun face fits on used still => ?accepted⟩
    case range =>
      by_cases face : good
      · exact refuses face (dialsetRefusal_of_clash (outside.resolve_left (not_not_intro face))) (by decide)
      · exact exec_dialset hs (dialsetBody_of_outside face)
    case accepted =>
      intro r set t u difference
      have accepted := dialsetRequest_of_accepted (dialsetRefusal_of_free (s := taken s) fits on used still)
        (face := hour.toNat % 12 * 3600 + minute.toNat * 60 + second.toNat)
      rw [← pack_stateAndDifference]
      exact exec_dialset hs (dialsetBody_of_good face rfl accepted)
  case stop =>
    refine ⟨fun outside => exec_dialstop hs (if_neg (Nat.not_lt.mpr outside)),
      fun inside off => exec_dialstop hs (dialstopBody_of_dial inside (dialstopRequest_of_locked off)),
      fun inside on => ?_⟩
    intro w marked freed stops
    refine ⟨fun stop => ?stopped, fun release => ?released⟩
    case stopped =>
      subst stop
      have read : (marked true).dial d.toNat = { w with stop := true } := State.dial_setDial_self _ _ _
      refine ⟨fun still => ?idle, fun waits => ?waiting,
        fun driven => exec_dialstop hs (dialstopBody_of_dial inside (dialstopRequest_of_driven (s := taken s) on driven))⟩
      case idle =>
        have kept : (marked true).withdrawDial d.toNat = marked true :=
          withdrawDial_of_other (by rw [read]; show w.drive ≠ _; rw [still]; decide)
        exact exec_dialstop hs (dialstopBody_of_dial inside
          (dialstopRequest_of_idle on kept (by rw [read]; rfl) (by rw [read]; exact still)))
      case waiting =>
        have withdrawn : (marked true).withdrawDial d.toNat = freed := by
          rw [withdrawDial_of_waiting (by rw [read]; exact waits), read, State.setDial_setDial]
        have idle : freed.dial d.toNat = { w with stop := true, drive := .idle } :=
          (dial_withdraw _ _ _).trans (State.dial_setDial_self _ _ _)
        exact exec_dialstop hs (dialstopBody_of_dial inside
          (dialstopRequest_of_idle on withdrawn (by rw [idle]; rfl) (by rw [idle])))
    case released =>
      subst release
      exact exec_dialstop hs (dialstopBody_of_dial inside (dialstopRequest_release on))

end Sys2Proof.Proofs
end

section
/-! SUPPORT. What an operation of the model that acts on no circuit leaves of the lamps: the circuits' fields and records, and
elapsed time. Here the blocks' operations inside a command, the requests and the writes of the tables. -/
namespace Sys2Proof.Proofs

open Sys2Proof.Machine Sys2Proof.Claims

/-- What a lamp's restrike time hangs on: the circuits' fields, their records, and elapsed time. -/
def lamps (s : State) : Table Circuit × Table CircuitRec × Nat := (s.floods.circuits, s.tables.circuit, s.now)

/-! ### Updates of one field or one object -/

@[simp] theorem lamps_withRefs (s : State) (v : RefMonitor) : lamps (s.withRefs v) = lamps s := rfl
@[simp] theorem lamps_withDay (s : State) (v : DayProgramme) : lamps (s.withDay v) = lamps s := rfl
@[simp] theorem lamps_withChime (s : State) (v : Chime) : lamps (s.withChime v) = lamps s := rfl
@[simp] theorem lamps_withRun (s : State) (v : PealRun) : lamps (s.withRun v) = lamps s := rfl
@[simp] theorem lamps_withDials (s : State) (v : DialDriveState) : lamps (s.withDials v) = lamps s := rfl
@[simp] theorem lamps_withLight (s : State) (v : Light) : lamps (s.withLight v) = lamps s := rfl
@[simp] theorem lamps_withConverter (s : State) (v : Converter) : lamps (s.withConverter v) = lamps s := rfl
@[simp] theorem lamps_withSupply (s : State) (v : Supply) : lamps (s.withSupply v) = lamps s := rfl
@[simp] theorem lamps_withPower (s : State) (v : Power) : lamps (s.withPower v) = lamps s := rfl
@[simp] theorem lamps_withStore (s : State) (v : Store) : lamps (s.withStore v) = lamps s := rfl
@[simp] theorem lamps_withStart (s : State) (v : Start) : lamps (s.withStart v) = lamps s := rfl
@[simp] theorem lamps_withLink (s : State) (v : Link) : lamps (s.withLink v) = lamps s := rfl
@[simp] theorem lamps_withAgenda (s : State) (l : List Msg) : lamps (s.withAgenda l) = lamps s := rfl
@[simp] theorem lamps_setBell (s : State) (b : Nat) (v : Bell) : lamps (s.setBell b v) = lamps s := rfl
@[simp] theorem lamps_setUnit (s : State) (u : Nat) (v : SwingUnit) : lamps (s.setUnit u v) = lamps s := rfl
@[simp] theorem lamps_setDial (s : State) (d : Nat) (v : Dial) : lamps (s.setDial d v) = lamps s := rfl
@[simp] theorem lamps_setGuard (s : State) (e : Nat) (v : Option Nat) : lamps (s.setGuard e v) = lamps s := rfl
@[simp] theorem lamps_post (s : State) (m : Msg) : lamps (s.post m) = lamps s := rfl
@[simp] theorem lamps_postAll (s : State) (l : List Msg) : lamps (s.postAll l) = lamps s := rfl
@[simp] theorem lamps_notify (s : State) (n : NoticeBody) : lamps (s.notify n) = lamps s := rfl

@[simp] theorem lamps_withTime {s : State} {v : TimeBase} (h : v.elapsed = s.time.elapsed) :
    lamps (s.withTime v) = lamps s := by
  simp [lamps, State.now, h]

@[simp] theorem lamps_withTables {s : State} {v : Tables} (h : v.circuit = s.tables.circuit) :
    lamps (s.withTables v) = lamps s := by
  simp [lamps, h]

@[simp] theorem lamps_ite (c : Prop) [Decidable c] (s t : State) :
    lamps (if c then s else t) = if c then lamps s else lamps t := apply_ite lamps c s t

theorem lamps_foldl {α : Type} {f : State → α → State} (h : ∀ t a, lamps (f t a) = lamps t) (s : State) (l : List α) :
    lamps (l.foldl f s) = lamps s := by
  induction l generalizing s with
  | nil => rfl
  | cons a l ih => exact (ih _).trans (h s a)

theorem lamps_each {f : Nat → State → State} (h : ∀ i t, lamps (f i t) = lamps t) (s : State) (l : List Nat) :
    lamps (s.each l f) = lamps s := lamps_foldl (fun t i => h i t) s l

/-! ### The supply arbiter -/

theorem lamps_of_arbitrates {s t : State} (h : Arbitrates s t) : lamps t = lamps s := by rw [h.eq]; rfl

@[simp] theorem lamps_serve (s : State) : lamps s.serve = lamps s := lamps_of_arbitrates (arbitrates_serve (.refl s))
@[simp] theorem lamps_withdrawAll (s : State) (l : List Claimant) : lamps (s.withdrawAll l) = lamps s :=
  lamps_of_arbitrates (arbitrates_withdrawAll (.refl s) l)
@[simp] theorem lamps_withdraw (s : State) (c : Claimant) : lamps (s.withdraw c) = lamps s := lamps_withdrawAll s [c]
@[simp] theorem lamps_request (s : State) (c : Claimant) (n : Nat) : lamps (s.request c n) = lamps s :=
  lamps_of_arbitrates (arbitrates_request (.refl s) c n)
@[simp] theorem lamps_release (s : State) (c : Claimant) (n : Nat) : lamps (s.release c n) = lamps s :=
  lamps_of_arbitrates (arbitrates_release (.refl s) c n)
@[simp] theorem lamps_releaseAll (s : State) (c : Claimant) : lamps (s.releaseAll c) = lamps s := lamps_release s c _
@[simp] theorem lamps_supplyLoss (s : State) : lamps (supplyLoss s) = lamps s := by simp [supplyLoss]

/-! ### Notices, the converter and the light monitor -/

@[simp] theorem lamps_takeNotice (s : State) (n : NoticeBody) : lamps (s.takeNotice n) = lamps s := by
  simp [State.takeNotice]

@[simp] theorem lamps_beginConversion (s : State) : lamps s.beginConversion = lamps s := by
  unfold State.beginConversion
  split <;> simp

@[simp] theorem lamps_queueConversion (s : State) (c : Conversion) : lamps (s.queueConversion c) = lamps s := by
  simp [State.queueConversion]

@[simp] theorem lamps_sampleNow (s : State) : lamps s.sampleNow = lamps s := by simp [State.sampleNow]
@[simp] theorem lamps_returnLight (s : State) : lamps (returnLight s) = lamps s := by simp [returnLight]

@[simp] theorem lamps_lightResult (s : State) (r : Nat) : lamps (lightResult r s) = lamps s := by
  simp [lightResult, goodLight, outLight, State.lightTransition]

@[simp] theorem lamps_newLightSettings (s : State) (new : LightSettings) : lamps (s.newLightSettings new) = lamps s := by
  simp [State.newLightSettings]

/-! ### The chime player's queue and notes -/

@[simp] theorem lamps_dropOffer (s : State) (p : Perf) (r : DropReason) : lamps (s.dropOffer p r) = lamps s := rfl
@[simp] theorem lamps_leaveQueue (s : State) (id : Nat) : lamps (s.leaveQueue id) = lamps s := rfl
@[simp] theorem lamps_drop (s : State) (p : Perf) (r : DropReason) : lamps (s.drop p r) = lamps s := rfl
@[simp] theorem lamps_onPlaying (s : State) (f : Perf → Perf) : lamps (s.onPlaying f) = lamps s := rfl
@[simp] theorem lamps_setPlaying (s : State) (f : Playing → Playing) : lamps (s.setPlaying f) = lamps s := rfl

@[simp] theorem lamps_offer (s : State) (p : Perf) : lamps (s.offer p).1 = lamps s := by
  unfold State.offer
  split <;> simp

theorem lamps_of_offer {s t : State} {p : Perf} {a : OfferAnswer} (h : s.offer p = (t, a)) : lamps t = lamps s := by
  rw [← lamps_offer s p, h]

@[simp] theorem lamps_sound (s : State) : lamps s.sound = lamps s := by
  unfold State.sound
  split <;> simp

@[simp] theorem lamps_setOutstanding (s : State) (l : List Nat) (dealing : Bool) :
    lamps (s.setOutstanding l dealing) = lamps s := by
  unfold State.setOutstanding
  split <;> simp

@[simp] theorem lamps_blowTaken (s : State) (b : Nat) : lamps (s.blowTaken b) = lamps s := by
  unfold State.blowTaken
  split <;> simp

@[simp] theorem lamps_blowEnds (s : State) (b : Nat) : lamps (s.blowEnds b) = lamps s := by
  unfold State.blowEnds
  split <;> simp

@[simp] theorem lamps_blowClipped (s : State) (b : Nat) : lamps (s.blowClipped b) = lamps s := by
  simp [State.blowClipped]

@[simp] theorem lamps_answerRefused (s : State) (b : Nat) (r : Refused) : lamps (s.answerRefused b r) = lamps s := by
  unfold State.answerRefused State.blowFaulted
  repeat' split
  all_goals simp

@[simp] theorem lamps_noteDealt (s : State) : lamps (noteDealt s) = lamps s := by
  unfold noteDealt
  split <;> simp

@[simp] theorem lamps_requestNote (s : State) : lamps s.requestNote = lamps s := by
  unfold State.requestNote
  split
  · exact lamps_foldl (by simp) (State.setPlaying s _) _
  · rfl

/-! ### Claims and hammers -/

@[simp] theorem lamps_completeRelease (s : State) (b : Nat) : lamps (completeRelease b s) = lamps s := by
  unfold completeRelease
  dsimp only
  split <;> simp

@[simp] theorem lamps_releaseBells (s : State) (bells : List Nat) (id : Nat) :
    lamps (releaseBells bells id s) = lamps s := by
  have ended : lamps (s.each (bells.filter fun b => decide ((s.bell b).claim = .struck id)) fun b t =>
      t.setBell b ((t.bell b).endBlows id)) = lamps s := lamps_each (by simp) s _
  simp [releaseBells, releaseBell, lamps_each, ended]

@[simp] theorem lamps_claimSwing (s : State) (u : Nat) : lamps (s.claimSwing u).1 = lamps s := by
  unfold State.claimSwing
  dsimp only
  repeat' split
  all_goals simp

@[simp] theorem lamps_preempt (s : State) (u : Nat) : lamps (s.preempt u) = lamps s := by
  unfold State.preempt
  repeat' split
  all_goals simp

@[simp] theorem lamps_cancelPending (s : State) (u : Nat) : lamps (s.cancelPending u).1 = lamps s := by
  unfold State.cancelPending
  repeat' split
  all_goals simp

@[simp] theorem lamps_moveClaim (s : State) (u : Nat) (c : Claim) : lamps (s.moveClaim u c) = lamps s := by
  unfold State.moveClaim
  split <;> simp

@[simp] theorem lamps_tryHead (s : State) (p : Perf) : lamps (s.tryHead p) = lamps s := by
  unfold State.tryHead State.claimBells
  repeat' split
  · rfl
  · rfl
  · rename_i claimed
    split at claimed <;> cases claimed
    exact (lamps_requestNote _).trans (lamps_each (by simp) s _)

@[simp] theorem lamps_strikeableReport (s : State) (b : Nat) : lamps (strikeableReport b s) = lamps s := by
  unfold strikeableReport
  split <;> simp

@[simp] theorem lamps_takeBlow (s : State) (b : Nat) (v : Velocity) (id : Nat) : lamps (s.takeBlow b v id) = lamps s := by
  simp [State.takeBlow]

@[simp] theorem lamps_blowRequest (s : State) (b : Nat) (v : Velocity) (id : Nat) :
    lamps (blowRequest b v id s) = lamps s := by
  unfold blowRequest
  repeat' split
  all_goals simp

@[simp] theorem lamps_hammerGranted (s : State) (b units : Nat) : lamps (hammerGranted b units s) = lamps s := by
  unfold hammerGranted
  dsimp only
  repeat' split
  all_goals simp

@[simp] theorem lamps_pulseOver (s : State) (b : Nat) : lamps (s.pulseOver b) = lamps s := by
  simp [State.pulseOver, State.discardStale]

@[simp] theorem lamps_pulseEnds (s : State) (b : Nat) : lamps (s.pulseEnds b) = lamps s := by simp [State.pulseEnds]

@[simp] theorem lamps_refuseHeld (s : State) (b : Nat) (r : Refused) : lamps (s.refuseHeld b r) = lamps s := by
  unfold State.refuseHeld
  split <;> simp

@[simp] theorem lamps_withdrawBlow (s : State) (b id : Nat) : lamps (withdrawBlow b id s) = lamps s := by
  unfold withdrawBlow
  dsimp only
  split
  · simp
  · split <;> simp

@[simp] theorem lamps_accessHammer (s : State) (b : Nat) : lamps (accessHammer b s) = lamps s := by
  unfold accessHammer
  dsimp only
  split <;> simp

@[simp] theorem lamps_accessBells (s : State) : lamps (accessBells s) = lamps s := by
  unfold accessBells
  dsimp only
  split <;> simp [lamps_each]

@[simp] theorem lamps_lossHammer (s : State) (b : Nat) : lamps (lossHammer b s) = lamps s := by
  unfold lossHammer
  dsimp only
  split <;> simp

@[simp] theorem lamps_lossBells (s : State) : lamps (lossBells s) = lamps s := by simp [lossBells, lamps_each]

@[simp] theorem lamps_coilResult (s : State) (b reading : Nat) : lamps (coilResult b reading s) = lamps s := by
  unfold coilResult State.setHammerFault
  dsimp only
  repeat' split
  all_goals simp

@[simp] theorem lamps_clearBellFault (s : State) (b : Nat) : lamps (s.clearBellFault b) = lamps s := rfl

/-! ### The chime player's starts and ends, and the strike generator -/

@[simp] theorem lamps_endPlaying (s : State) (reason : EndReason) : lamps (s.endPlaying reason) = lamps s := by
  unfold State.endPlaying
  split <;> simp

@[simp] theorem lamps_releaseCheck (s : State) : lamps (releaseCheck s) = lamps s := by
  unfold releaseCheck
  split <;> simp

@[simp] theorem lamps_abortPlaying (s : State) (reason : EndReason) (id : Option Nat) :
    lamps (abortPlaying reason id s) = lamps s := by
  unfold abortPlaying
  split <;> simp

@[simp] theorem lamps_cancelPerf (s : State) (id : Nat) : lamps (cancelPerf id s).1 = lamps s := by
  unfold cancelPerf
  repeat' split
  all_goals simp

@[simp] theorem lamps_playRequest (s : State) (kind : PerfKind) (args : PerfArgs) (due : Option Nat) :
    lamps (playRequest kind args due s).1 = lamps s := by
  unfold playRequest
  split
  · rfl
  · dsimp only
    split <;> exact lamps_of_offer ‹_›

@[simp] theorem lamps_takeQuarter (s : State) (quarter civil : Nat) : lamps (takeQuarter quarter civil s) = lamps s := by
  have generated (t : State) (k : PerfKind × PerfArgs) : lamps (t.generate quarter civil k) = lamps t := by
    unfold State.generate
    dsimp only
    repeat' split
    · rfl
    all_goals simpa using lamps_of_offer ‹_›
  unfold takeQuarter
  dsimp only
  repeat' split
  · rfl
  · exact lamps_foldl generated (s.withChime _) _
  · exact lamps_foldl (by simp) (s.withChime _) _

@[simp] theorem lamps_minuteStrike (s : State) (minute : Nat) : lamps (minuteStrike minute s) = lamps s := by
  simp [minuteStrike]

@[simp] theorem lamps_stepStrike (s : State) (old new : Nat) : lamps (stepStrike old new s) = lamps s := by
  simp [stepStrike]

@[simp] theorem lamps_timeSetStrike (s : State) (civil : Nat) : lamps (timeSetStrike civil s) = lamps s := by
  simp [timeSetStrike]

@[simp] theorem lamps_readyStrike (s : State) : lamps (readyStrike s) = lamps s := by
  unfold readyStrike
  split <;> simp

/-! ### The swing controller -/

@[simp] theorem lamps_unitNotice (s : State) (u : Nat) (old : UnitState) (cause : UnitCause) :
    lamps (s.unitNotice u old cause) = lamps s := rfl

@[simp] theorem lamps_pendingNotice (s : State) (u : Nat) (failed : Option FailReason) :
    lamps (s.pendingNotice u failed) = lamps s := rfl

@[simp] theorem lamps_askImpulse (s : State) (u : Nat) (dir : Dir) (kick braking : Bool) :
    lamps (s.askImpulse u dir kick braking) = lamps s := by
  unfold State.askImpulse
  dsimp only
  split <;> simp

@[simp] theorem lamps_swingGranted (s : State) (u units : Nat) : lamps (swingGranted u units s) = lamps s := by
  unfold swingGranted
  dsimp only
  split <;> simp

@[simp] theorem lamps_cutDrive (s : State) (u : Nat) : lamps (s.cutDrive u) = lamps s := by
  unfold State.cutDrive
  dsimp only
  split <;> simp

@[simp] theorem lamps_enterRaising (s : State) (u : Nat) (owner : Owner) (minutes : Nat) (cause : UnitCause) :
    lamps (s.enterRaising u owner minutes cause) = lamps s := by simp [State.enterRaising]

@[simp] theorem lamps_enterSwinging (s : State) (u : Nat) : lamps (s.enterSwinging u) = lamps s := by
  unfold State.enterSwinging
  split <;> simp

@[simp] theorem lamps_stopUnit (s : State) (u : Nat) (kind : LowKind) (cause : UnitCause) :
    lamps (s.stopUnit u kind cause) = lamps s := by simp [State.stopUnit, State.lowerUnit]

@[simp] theorem lamps_enterSettling (s : State) (u : Nat) (cause : UnitCause) :
    lamps (s.enterSettling u cause) = lamps s := by simp [State.enterSettling]

@[simp] theorem lamps_enterFault (s : State) (u : Nat) (f : UnitFault) : lamps (s.enterFault u f) = lamps s := by
  simp [State.enterFault]

@[simp] theorem lamps_clearUnitFault (s : State) (u : Nat) : lamps (s.clearUnitFault u) = lamps s := by
  simp [State.clearUnitFault]

@[simp] theorem lamps_takeTurn (s : State) (u : Nat) (amplitude : Option Nat) (dir : Dir) :
    lamps (s.takeTurn u amplitude dir) = lamps s := by
  have acted (t : State) : lamps (t.actOnTurn u amplitude dir) = lamps t := by
    unfold State.actOnTurn
    dsimp only
    repeat' split
    all_goals simp
  simp [State.takeTurn, acted]

@[simp] theorem lamps_failStart (s : State) (u : Nat) (reason : FailReason) : lamps (s.failStart u reason) = lamps s := rfl

@[simp] theorem lamps_startUnit (s : State) (u : Nat) (owner : Owner) (p : Precedence) (minutes : Nat) :
    lamps (s.startUnit u owner p minutes).1 = lamps s := by
  have claimed {t : State} {a : SwingAnswer} (h : s.claimSwing u = (t, a)) : lamps t = lamps s := by
    rw [← lamps_claimSwing s u, h]
  unfold State.startUnit
  dsimp only
  iterate 6
    split
    · rfl
  split
  · rename_i granted
    exact (lamps_enterRaising _ _ _ _ _).trans (claimed granted)
  · rename_i pending
    dsimp only
    split <;> simpa using claimed pending
  all_goals
    rename_i refused
    exact claimed refused

@[simp] theorem lamps_unitHanded (s : State) (u : Nat) : lamps (unitHanded u s) = lamps s := by simp [unitHanded]

@[simp] theorem lamps_unitFailed (s : State) (u : Nat) (reason : FailReason) :
    lamps (unitFailed u reason s) = lamps s := by simp [unitFailed]

@[simp] theorem lamps_cancelStart (s : State) (u : Nat) (reason : FailReason) :
    lamps (s.cancelStart u reason) = lamps s := by
  have cancelled := lamps_cancelPending s u
  unfold State.cancelStart
  repeat' split
  · rename_i e; rw [e] at cancelled; simpa using cancelled
  · rename_i e; rw [e] at cancelled; exact cancelled
  · rfl

@[simp] theorem lamps_haltUnit (s : State) (u : Nat) (cause : UnitCause) (reason : FailReason) :
    lamps (s.haltUnit u cause reason) = lamps s := by simp [State.haltUnit]

@[simp] theorem lamps_accessSwing (s : State) : lamps (accessSwing s) = lamps s := by
  have cleared (u : Nat) (t : State) : lamps (clearUnit u t) = lamps t := by
    unfold clearUnit
    split <;> simp
  unfold accessSwing
  split <;> simp [lamps_each, accessUnit, cleared]

@[simp] theorem lamps_lossSwing (s : State) : lamps (lossSwing s) = lamps s := by
  simp [lossSwing, lossUnit, lamps_each]

/-! ### The peal run -/

@[simp] theorem lamps_moveRun (s : State) (r : PealRun) (cause : RunCause) : lamps (s.moveRun r cause) = lamps s := rfl

theorem lamps_of_finishRun {s t : State} (h : s.finishRun = some t) : lamps t = lamps s := by
  unfold State.finishRun at h
  repeat' split at h
  case h_1.isTrue | h_2.isTrue => cases h; rfl
  all_goals cases h

@[simp] theorem lamps_settleRun (s : State) : lamps s.settleRun = lamps s := by
  unfold State.settleRun
  cases h : s.finishRun with
  | none => rfl
  | some t => exact lamps_of_finishRun h

@[simp] theorem lamps_stepUnit (s : State) (step u : Nat) : lamps (s.stepUnit step u) = lamps s := by
  have started := lamps_startUnit s u .peal (s.planRec s.run.plan).precedence 0
  unfold State.stepUnit
  repeat' split
  · rfl
  all_goals rename_i e; rw [e] at started; exact started

@[simp] theorem lamps_takeStartStep (s : State) : lamps (takeStartStep s) = lamps s := by
  unfold takeStartStep
  dsimp only
  split <;> simp

@[simp] theorem lamps_takeStopStep (s : State) : lamps (takeStopStep s) = lamps s := by
  unfold takeStopStep
  split <;> simp

@[simp] theorem lamps_takeStopSteps (s : State) : lamps s.takeStopSteps = lamps s := by
  simp [State.takeStopSteps, lamps_each]

@[simp] theorem lamps_stopRun (s : State) (cause : RunCause) (gap : Nat) : lamps (s.stopRun cause gap) = lamps s := by
  simp [State.stopRun]

@[simp] theorem lamps_hurryRun (s : State) (cause : RunCause) : lamps (s.hurryRun cause) = lamps s := by
  unfold State.hurryRun
  split <;> simp

@[simp] theorem lamps_accessRun (s : State) : lamps (accessRun s) = lamps s := by
  unfold accessRun
  split <;> simp

@[simp] theorem lamps_startPeal (s : State) (plan : Nat) : lamps (startPeal plan s).1 = lamps s := by
  unfold startPeal
  split <;> simp

/-! ### The day programme, but for a scene that fires -/

@[simp] theorem lamps_setToday (s : State) (t : Today) : lamps (s.setToday t) = lamps s := rfl
@[simp] theorem lamps_evaluate (s : State) (t : Today) (minute : Nat) : lamps (s.evaluate t minute) = lamps s := rfl

@[simp] theorem lamps_skip (s : State) (e minute now : Nat) (reason : SkipReason) (status : Status) :
    lamps (s.skip e minute now reason status) = lamps s := rfl

@[simp] theorem lamps_handPerf (s : State) (e minute now : Nat) (kind : PerfKind) (args : PerfArgs) :
    lamps (s.handPerf e minute now kind args) = lamps s := by
  unfold State.handPerf
  dsimp only
  repeat' split
  · rfl
  all_goals simpa using lamps_of_offer ‹_›

@[simp] theorem lamps_reportRefusal (r : State × Status) (e minute now : Nat) :
    lamps (State.reportRefusal r e minute now) = lamps r.1 := by simp [State.reportRefusal]

@[simp] theorem lamps_transitionDay (s : State) (state : LightState) : lamps (transitionDay state s) = lamps s := by
  unfold transitionDay
  repeat' split
  all_goals simp

@[simp] theorem lamps_comeTo (s : State) (t : Today) (minute : Nat) (forward : Bool) :
    lamps (s.comeTo t minute forward) = lamps s := by simp [State.comeTo]

@[simp] theorem lamps_minuteDay (s : State) (minute : Nat) : lamps (minuteDay minute s) = lamps s := by
  unfold minuteDay
  split <;> simp

@[simp] theorem lamps_stepDay (s : State) (old new : Nat) : lamps (stepDay old new s) = lamps s := by
  unfold stepDay
  split <;> simp

@[simp] theorem lamps_timeSetDay (s : State) (civil : Nat) : lamps (timeSetDay civil s) = lamps s := rfl

@[simp] theorem lamps_readyDay (s : State) : lamps (readyDay s) = lamps s := by
  unfold readyDay
  split <;> simp

@[simp] theorem lamps_reclass (s : State) : lamps s.reclass = lamps s := by
  unfold State.reclass
  split <;> simp

/-! ### The time base and the reference monitor -/

@[simp] theorem lamps_retime {s : State} {b : TimeBase} (h : b.elapsed = s.time.elapsed) (cause : TimeCause) (always : Bool) :
    lamps (s.retime b cause always) = lamps s := by
  unfold State.retime
  split <;> simp [h, TimeBase.seenAt]

@[simp] theorem elapsed_byRule (b : TimeBase) (t : TimeSettings) : (b.byRule t).elapsed = b.elapsed := rfl
@[simp] theorem lamps_loseTime (s : State) : lamps s.loseTime = lamps s := rfl
@[simp] theorem lamps_holdOver (s : State) (cause : TimeCause) : lamps (s.holdOver cause) = lamps s :=
  lamps_retime (by rfl) _ _
@[simp] theorem lamps_freeRun (s : State) : lamps s.freeRun = lamps s := lamps_retime (by rfl) _ _
@[simp] theorem lamps_setTime (s : State) (kept : Nat) : lamps (s.setTime kept) = lamps s := lamps_retime (by rfl) _ _

@[simp] theorem elapsed_discipline (b : TimeBase) (threshold phase : Nat) (offset : Int) :
    (b.discipline threshold phase offset).elapsed = b.elapsed := by
  unfold TimeBase.discipline
  repeat' split
  all_goals rfl

@[simp] theorem elapsed_correct (b : TimeBase) (threshold : Nat) (offset : Int) :
    (b.correct threshold offset).elapsed = b.elapsed := by
  unfold TimeBase.correct
  split <;> rfl

@[simp] theorem lamps_confirmation (s : State) (tel : Telegram) (phase : Latch) (source : PhaseSource) :
    lamps (confirmation tel phase source s) = lamps s := by
  unfold confirmation
  split
  · exact lamps_retime (by rfl) _ _
  · refine lamps_retime ?_ _ _
    show (TimeBase.correct (if _ then _ else _) _ _).elapsed = _
    rw [elapsed_correct]
    split
    · exact elapsed_discipline ..
    · rfl

@[simp] theorem lamps_readyTime (s : State) : lamps (readyTime s) = lamps s := by
  unfold readyTime
  split
  · rfl
  · extract_lets ruled clock held limited
    have hr : lamps ruled = lamps s := lamps_withTime rfl
    have hh : lamps held = lamps ruled := by
      unfold held
      split
      · exact lamps_withTime (by rfl)
      · rfl
    have hl : lamps limited = lamps held := by
      unfold limited
      repeat' split
      all_goals simp
    rw [← hr, ← hh, ← hl]
    repeat' split
    · rfl
    · exact lamps_withTime (by rfl)
    · rfl

@[simp] theorem lamps_failPending (s : State) : lamps s.failPending = lamps s := by
  unfold State.failPending
  split <;> simp

@[simp] theorem lamps_failRecord (s : State) (chars : List Byte) : lamps (s.failRecord chars) = lamps s := rfl

@[simp] theorem lamps_takeChar (s : State) (c : Byte) : lamps (takeChar s c) = lamps s := by
  unfold takeChar
  repeat' split
  all_goals simp [State.makePending, State.recordOver]

@[simp] theorem lamps_decideMark (s : State) (d : Decision) (after : Option SecEdge) :
    lamps (decideMark d after s) = lamps s := by
  unfold decideMark
  dsimp only
  repeat' split
  all_goals simp

@[simp] theorem lamps_phaseOf (s : State) (mark : Latch) (confirms : Option Telegram) :
    lamps (s.phaseOf mark confirms) = lamps s := by
  unfold State.phaseOf
  repeat' split
  all_goals simp

@[simp] theorem lamps_changeMode (s : State) (new : RefMode) : lamps (s.changeMode new) = lamps s := by
  unfold State.changeMode
  dsimp only
  split
  · split <;> simp
  · refine lamps_foldl (fun t d => ?_) (s.withRefs _) _
    split <;> simp
  · simp

@[simp] theorem lamps_newTimeSettings (s : State) (new : TimeSettings) : lamps (s.newTimeSettings new) = lamps s := by
  have limited (t : State) : lamps (limitJudged t) = lamps t := by
    unfold limitJudged
    repeat' split
    all_goals simp
  have offset (t : State) : lamps (offsetJudged t) = lamps t := by
    unfold offsetJudged
    split
    · rfl
    · exact lamps_retime (by rfl) _ _
    · exact lamps_retime (by rfl) _ _
  simp [State.newTimeSettings, applyTimeSettings_eq, limited, offset]

/-! ### The dials -/

@[simp] theorem lamps_moveDial (s : State) (d : Nat) (new : DialState) (cause : DialCause) :
    lamps (s.moveDial d new cause) = lamps s := by simp [State.moveDial]

@[simp] theorem lamps_requestDial (s : State) (d : Nat) (again : Bool) : lamps (s.requestDial d again) = lamps s := by
  simp [State.requestDial]

@[simp] theorem lamps_askDial (s : State) (d : Nat) : lamps (s.askDial d) = lamps s := by simp [State.askDial]

@[simp] theorem lamps_riseDial (s : State) (d : Nat) : lamps (s.riseDial d) = lamps s := by
  unfold State.riseDial
  split <;> simp

@[simp] theorem lamps_judgeDial (s : State) (d : Nat) : lamps (s.judgeDial d) = lamps s := by
  unfold State.judgeDial
  split <;> simp

@[simp] theorem lamps_dialGranted (s : State) (d units : Nat) : lamps (dialGranted d units s) = lamps s := by
  unfold dialGranted
  dsimp only
  split <;> simp

@[simp] theorem lamps_withdrawDial (s : State) (d : Nat) : lamps (s.withdrawDial d) = lamps s := by
  unfold State.withdrawDial
  split <;> simp

@[simp] theorem lamps_classify (s : State) (d : Nat) (cause : DialCause) : lamps (s.classify d cause) = lamps s := by
  simp [State.classify]

@[simp] theorem lamps_lossDials (s : State) : lamps (lossDials s) = lamps s := by simp [lossDials, lossDial, lamps_each]

@[simp] theorem lamps_repeatOrClassify (s : State) (cause : DialCause) (d : Nat) :
    lamps (repeatOrClassify cause d s) = lamps s := by simp [repeatOrClassify]

@[simp] theorem lamps_returnDials (s : State) (cause : DialCause) : lamps (returnDials cause s) = lamps s := by
  simp [returnDials, lamps_each]

@[simp] theorem lamps_setTargets (s : State) (half : Option Nat) : lamps (s.setTargets half) = lamps s := rfl

@[simp] theorem lamps_stepDials (s : State) (civil : Nat) : lamps (stepDials civil s) = lamps s := by
  simp [stepDials, lamps_each]

@[simp] theorem lamps_timeSetDials (s : State) (civil : Nat) : lamps (timeSetDials civil s) = lamps s := by
  simp [timeSetDials, lamps_each]

@[simp] theorem lamps_unsetDials (s : State) : lamps (unsetDials s) = lamps s := by simp [unsetDials, lamps_each]

@[simp] theorem lamps_forgetDial (s : State) (d : Nat) (cause : DialCause) : lamps (s.forgetDial d cause) = lamps s := by
  simp [State.forgetDial]

@[simp] theorem lamps_newDialRecord (s : State) (d : Nat) (old new : DialRec) :
    lamps (s.newDialRecord d old new) = lamps s := by simp [State.newDialRecord]

@[simp] theorem lamps_readyDials (s : State) : lamps (readyDials s) = lamps s := by
  simp [readyDials, readyDial, lamps_each]

@[simp] theorem lamps_dialsetRequest (s : State) (d face : Nat) (next : Dir) :
    lamps (dialsetRequest d face next s).1 = lamps s := by
  unfold dialsetRequest
  split <;> simp

@[simp] theorem lamps_dialstopRequest (s : State) (d : Nat) (stop : Bool) :
    lamps (dialstopRequest d stop s).1 = lamps s := by
  unfold dialstopRequest
  repeat' split
  all_goals simp

end Sys2Proof.Proofs
end

section
/-! SUPPORT. What becomes of a struck or cooling lamp (R137, R142): what each operation of a circuit, and each message of a
command, does to it. -/
namespace Sys2Proof.Proofs

open Sys2Proof.Machine Sys2Proof.Claims

variable {s t u : State} {b c j : Nat}

/-! ## What becomes of a lamp -/

/-- What may have become of a SWITCHED circuit between two instants: a lit lamp is lit, or cools for its restrike time from an
instant between; a cooling one cools as it did. -/
structure LampStands (restrike since now : Nat) (w v : Circuit) : Prop where
  lit : w.state.lit = true → v.state.lit = true ∨
    v.state = .cooling ∧ ∃ left, since ≤ left ∧ left ≤ now ∧ v.timer = some (left + restrike * 1000)
  cooling : w.state = .cooling → v.state = .cooling ∧ v.timer = w.timer

/-- The lamp is lit or cools. -/
def hot (w : Circuit) : Prop := w.state.lit = true ∨ w.state = .cooling

/-- A SWITCHED circuit whose lamp is hot in `s` has its record in `t`, and its lamp there is what may have become of it. -/
structure LampKept (c : Nat) (s t : State) : Prop where
  now : s.now ≤ t.now
  record : (s.circuitRec c).kind = .switched → hot (s.circuit c) → t.circuitRec c = s.circuitRec c
  lamp : (s.circuitRec c).kind = .switched → LampStands (s.circuitRec c).restrike s.now t.now (s.circuit c) (t.circuit c)

theorem hot_of_stands {restrike since now : Nat} {w v : Circuit} (h : LampStands restrike since now w v) (hw : hot w) :
    hot v := by
  rcases hw with lit | cools
  · exact (h.lit lit).imp_right And.left
  · exact .inr (h.cooling cools).1

theorem LampStands.refl {restrike since now : Nat} (w : Circuit) : LampStands restrike since now w w :=
  ⟨.inl, fun h => ⟨h, rfl⟩⟩

/-- A lamp that keeps its state and its timer stands. -/
theorem lampStands_of_same {restrike since now : Nat} {w v : Circuit} (state : v.state = w.state) (timer : v.timer = w.timer) :
    LampStands restrike since now w v :=
  ⟨fun h => .inl (by rwa [state]), fun h => ⟨by rwa [state], timer⟩⟩

theorem LampStands.trans {restrike a m z : Nat} {w v x : Circuit} (h : LampStands restrike a m w v)
    (k : LampStands restrike m z v x) (am : a ≤ m) (mz : m ≤ z) : LampStands restrike a z w x where
  lit lit := by
    rcases h.lit lit with still | ⟨cools, left, since, until_, timer⟩
    · rcases k.lit still with still | ⟨cools, left, since, until_, timer⟩
      · exact .inl still
      · exact .inr ⟨cools, left, am.trans since, until_, timer⟩
    · obtain ⟨cools', timer'⟩ := k.cooling cools
      exact .inr ⟨cools', left, since, until_.trans mz, timer'.trans timer⟩
  cooling cools := by
    obtain ⟨cools', timer⟩ := h.cooling cools
    obtain ⟨cools'', timer'⟩ := k.cooling cools'
    exact ⟨cools'', timer'.trans timer⟩

theorem LampKept.refl (c : Nat) (s : State) : LampKept c s s := ⟨le_rfl, fun _ _ => rfl, fun _ => .refl _⟩

theorem LampKept.trans (h : LampKept c s t) (k : LampKept c t u) : LampKept c s u where
  now := h.now.trans k.now
  record kind hot' := by
    have same := h.record kind hot'
    rw [k.record (by rw [same]; exact kind) (hot_of_stands (h.lamp kind) hot'), same]
  lamp kind := by
    have cold (no : ¬hot (s.circuit c)) : LampStands (s.circuitRec c).restrike s.now u.now (s.circuit c) (u.circuit c) :=
      ⟨fun lit => absurd (.inl lit) no, fun cools => absurd (.inr cools) no⟩
    by_cases hot' : hot (s.circuit c)
    · have same := h.record kind hot'
      have next := k.lamp (by rw [same]; exact kind)
      rw [same] at next
      exact (h.lamp kind).trans next h.now k.now
    · exact cold hot'

/-- A change in no time that touches neither the circuits nor their records. -/
theorem lampKept_of_lamps (h : lamps t = lamps s) : LampKept c s t := by
  unfold lamps at h
  simp only [Prod.mk.injEq] at h
  obtain ⟨circuits, records, now⟩ := h
  have circuit : t.circuit c = s.circuit c := by unfold State.circuit; rw [circuits]
  have record : t.circuitRec c = s.circuitRec c := by unfold State.circuitRec; rw [records]
  exact ⟨now.ge, fun _ _ => record, fun _ => by rw [circuit]; exact .refl _⟩

theorem LampKept.then_lamps (h : LampKept c s t) (k : lamps u = lamps t) : LampKept c s u := h.trans (lampKept_of_lamps k)

theorem lampKept_foldl {α : Type} {f : State → α → State} (hf : ∀ t a, LampKept c t (f t a)) (s : State) (l : List α) :
    LampKept c s (l.foldl f s) := by
  induction l generalizing s with
  | nil => exact .refl c s
  | cons a l ih => exact (hf s a).trans (ih _)

theorem lampKept_each {f : Nat → State → State} (hf : ∀ i t, LampKept c t (f i t)) (s : State) (l : List Nat) :
    LampKept c s (s.each l f) := lampKept_foldl (fun t i => hf i t) s l

/-! ## A circuit's fields written -/

/-- A circuit is written as what may become of its lamp. -/
theorem lampKept_setCircuit {w : Circuit} (h : (s.circuitRec j).kind = .switched →
    LampStands (s.circuitRec j).restrike s.now s.now (s.circuit j) w) : LampKept c s (s.setCircuit j w) where
  now := le_rfl
  record _ _ := rfl
  lamp kind := by
    rw [State.circuit_setCircuit]
    split
    · subst j; exact h kind
    · exact .refl _

theorem lampKept_setCircuit_same {w : Circuit} (state : w.state = (s.circuit j).state)
    (timer : w.timer = (s.circuit j).timer) : LampKept c s (s.setCircuit j w) := lampKept_setCircuit fun _ => lampStands_of_same state timer

theorem lampKept_setCircuit_of_dimmed {w : Circuit} (kind : (s.circuitRec j).kind = .dimmed) :
    LampKept c s (s.setCircuit j w) := lampKept_setCircuit fun switched => by rw [kind] at switched; cases switched

theorem lampKept_setCircuit_of_cold {w : Circuit} (cold : ¬hot (s.circuit j)) : LampKept c s (s.setCircuit j w) :=
  lampKept_setCircuit fun _ => ⟨fun lit => absurd (.inl lit) cold, fun cools => absurd (.inr cools) cold⟩

theorem not_hot_of_state {w : Circuit} (h : w.state = .off ∨ w.state = .waiting) : ¬hot w := by
  unfold hot
  rcases h with e | e <;> rw [e] <;> decide

theorem not_cooling_of_lit {w : Circuit} (h : w.state = .warming ∨ w.state = .on) : w.state ≠ .cooling := by
  rcases h with e | e <;> rw [e] <;> decide

/-- A lit lamp is switched off, and cools from now. -/
theorem lampKept_setCircuit_cools {w : Circuit} (lit : (s.circuit j).state = .warming ∨ (s.circuit j).state = .on)
    (cools : w.state = .cooling) (timer : w.timer = some (s.now + (s.circuitRec j).restrike * 1000)) :
    LampKept c s (s.setCircuit j w) :=
  lampKept_setCircuit fun _ => ⟨fun _ => .inr ⟨cools, _, le_rfl, le_rfl, timer⟩, fun h => absurd h (not_cooling_of_lit lit)⟩

theorem lampKept_setCircuit_lit {w : Circuit} (lit : (s.circuit j).state = .warming) (on : w.state = .on) :
    LampKept c s (s.setCircuit j w) :=
  lampKept_setCircuit fun _ => ⟨fun _ => .inl (by rw [on]; rfl), fun h => absurd h (not_cooling_of_lit (.inl lit))⟩

/-- A change of state is the write of the fields, with a notice. -/
theorem lamps_changeCircuit (s : State) (j : Nat) (w : Circuit) (cause : FloodCause) (units : Nat) :
    lamps (s.changeCircuit j w cause units) = lamps (s.setCircuit j w) := by
  unfold State.changeCircuit
  dsimp only
  split <;> rfl

theorem lamps_moveCircuit (s : State) (j : Nat) (w : Circuit) (cause : FloodCause) :
    lamps (s.moveCircuit j w cause) = lamps (s.setCircuit j w) := lamps_changeCircuit ..

/-! ## SWITCHED circuits (R136, R137) -/

theorem lampKept_strike (cold : ¬hot (s.circuit j)) (cause : FloodCause) : LampKept c s (s.strike j cause) :=
  (lampKept_setCircuit_of_cold cold).then_lamps ((lamps_request ..).trans (lamps_moveCircuit ..))

theorem lampKept_cool (lit : (s.circuit j).state = .warming ∨ (s.circuit j).state = .on) (cause : FloodCause) :
    LampKept c s (s.cool j cause) :=
  (lampKept_setCircuit_cools lit rfl rfl).then_lamps ((lamps_releaseAll ..).trans (lamps_changeCircuit ..))

theorem lampKept_actSwitched (s : State) (j : Nat) (cause : FloodCause) : LampKept c s (s.actSwitched j cause) := by
  unfold State.actSwitched
  dsimp only
  split
  · rename_i off _
    exact lampKept_strike (not_hot_of_state (.inl off)) _
  · rename_i waits _
    exact (lampKept_setCircuit_of_cold (not_hot_of_state (.inr waits))).then_lamps
      ((lamps_withdraw ..).trans (lamps_changeCircuit ..))
  · rename_i warming _
    exact lampKept_cool (.inl warming) _
  · rename_i on _
    exact lampKept_cool (.inr on) _
  · exact .refl c s

theorem lampKept_warmed (warming : (s.circuit j).state = .warming) : LampKept c s (s.warmed j) :=
  (lampKept_setCircuit_lit warming rfl).then_lamps ((lamps_release ..).trans (lamps_changeCircuit ..))

/-! ## DIMMED circuits (R138-R141) -/

@[simp] theorem lamps_floodNotice (s : State) (j : Nat) (old : CircuitState) (cause : FloodCause) (units : Nat) :
    lamps (s.floodNotice j old cause units) = lamps s := rfl

theorem lampKept_runFade (s : State) (j : Nat) : LampKept c s (s.runFade j) :=
  lampKept_setCircuit_same (by rfl) (by rfl)

theorem lamps_darken (s : State) (j : Nat) (cause : FloodCause) : lamps (s.darken j cause) =
    lamps (s.setCircuit j { s.circuit j with state := .off, level := 0, target := 0, fade := none }) := by
  unfold State.darken State.giveUp
  rw [lamps_releaseAll, lamps_withdraw, lamps_changeCircuit]

theorem lampKept_darken (kind : (s.circuitRec j).kind = .dimmed) (cause : FloodCause) : LampKept c s (s.darken j cause) :=
  (lampKept_setCircuit_of_dimmed kind).then_lamps (lamps_darken s j cause)

theorem lampKept_seek (s : State) (j units : Nat) : LampKept c s (s.seek j units) := by
  refine lampKept_of_lamps ?_
  simp [State.seek]

theorem lampKept_moveCircuit (kind : (s.circuitRec j).kind = .dimmed) (w : Circuit) (cause : FloodCause) :
    LampKept c s (s.moveCircuit j w cause) := (lampKept_setCircuit_of_dimmed kind).then_lamps (lamps_moveCircuit s j w cause)

theorem lampKept_retarget (kind : (s.circuitRec j).kind = .dimmed) (target : Nat) (cause : FloodCause) :
    LampKept c s (s.retarget j target cause) := by
  have aimed : LampKept c s ((s.setCircuit j { s.circuit j with target := target }).withdraw (.flood j)) :=
    (lampKept_setCircuit_of_dimmed kind).then_lamps (lamps_withdraw _ _)
  have fades := aimed.trans (lampKept_runFade _ j)
  unfold State.retarget
  dsimp only
  split
  · exact (lampKept_moveCircuit kind _ _).trans (lampKept_seek ..)
  · split
    · exact lampKept_darken kind _
    · split
      · exact fades.then_lamps (lamps_release ..)
      · exact fades

theorem lampKept_markShed (s : State) (j : Nat) : LampKept c s (s.markShed j) :=
  (lampKept_setCircuit_same (by rfl) (by rfl)).then_lamps (lamps_floodNotice ..)

theorem lampKept_unmarkShed (s : State) (j : Nat) : LampKept c s (s.unmarkShed j) :=
  (lampKept_setCircuit_same (by rfl) (by rfl)).then_lamps (lamps_floodNotice ..)

theorem kind_of_tables (tables : t.tables = s.tables) (kind : (s.circuitRec j).kind = .dimmed) :
    (t.circuitRec j).kind = .dimmed := by
  unfold State.circuitRec
  rw [tables]
  exact kind

theorem lampKept_cap (kind : (s.circuitRec j).kind = .dimmed) (cause : FloodCause) : LampKept c s (s.cap j cause) := by
  unfold State.cap
  dsimp only
  repeat' split
  · exact lampKept_retarget kind _ _
  · exact ((lampKept_markShed s j).then_lamps (lamps_release ..)).trans
      (lampKept_retarget (kind_of_tables (moves_dropToShed (.refl s) j).tables kind) _ _)
  · exact (lampKept_markShed s j).trans (lampKept_retarget (s := s.markShed j) (kind_of_tables rfl kind) _ _)

theorem lampKept_uncap (s : State) (j : Nat) : LampKept c s (s.uncap j) := by
  unfold State.uncap
  dsimp only
  split
  · rename_i h
    simp only [Bool.and_eq_true, decide_eq_true_eq] at h
    exact (lampKept_unmarkShed s j).trans (lampKept_retarget h.2 _ _)
  · exact lampKept_unmarkShed s j

theorem lampKept_actDimmed (kind : (s.circuitRec j).kind = .dimmed) (cause : FloodCause) :
    LampKept c s (s.actDimmed j cause) := by
  unfold State.actDimmed
  dsimp only
  repeat' split
  · exact lampKept_cap kind _
  · exact (lampKept_unmarkShed s j).trans (lampKept_retarget (s := s.unmarkShed j) (kind_of_tables rfl kind) _ _)
  · exact lampKept_retarget kind _ _

/-! ## Demand judged, and grants (R131, R136, R139) -/

theorem lampKept_actCircuit (s : State) (j : Nat) (cause : FloodCause) : LampKept c s (s.actCircuit j cause) := by
  unfold State.actCircuit
  split
  · split
    · exact (lampKept_unmarkShed s j).trans (lampKept_actSwitched ..)
    · exact lampKept_actSwitched ..
  · rename_i kind
    exact lampKept_actDimmed kind _

theorem lampKept_floodGranted (s : State) (j units : Nat) : LampKept c s (floodGranted j units s) := by
  have returned (w : Circuit) (cold : ¬hot (s.circuit j)) (held : Nat) :
      LampKept c s ((s.changeCircuit j w .grant held).release (.flood j) units) :=
    (lampKept_setCircuit_of_cold cold).then_lamps ((lamps_release ..).trans (lamps_changeCircuit ..))
  unfold floodGranted
  dsimp only
  split
  · rename_i waits
    have cold := not_hot_of_state (.inr waits)
    split
    · have strikes := (lampKept_setCircuit_of_cold (c := c) cold).then_lamps (lamps_moveCircuit s j
        { s.circuit j with state := .warming, timer := some (s.now + (s.circuitRec j).warmUp * 1000) } .grant)
      split
      · refine strikes.trans (lampKept_warmed ?_)
        rw [State.moveCircuit, changeCircuit_of_change (by rw [waits]; exact nofun), State.circuit_notify,
          State.circuit_setCircuit_self]
      · exact strikes
    · exact returned _ cold _
  · rename_i kind waits
    split
    · refine ((lampKept_setCircuit_of_dimmed kind).then_lamps (lamps_moveCircuit ..)).trans (lampKept_retarget ?_ _ _)
      exact kind_of_tables (by rw [State.moveCircuit, changeCircuit_of_change (by rw [waits]; exact nofun)]; rfl) kind
    · exact returned _ (not_hot_of_state (.inr waits)) _
  · rename_i kind _
    split
    · exact lampKept_retarget kind _ _
    · exact lampKept_of_lamps (lamps_release ..)
  · exact lampKept_of_lamps (lamps_release ..)

/-! ## One event for several circuits -/

theorem lampKept_takeOwnGrants (s : State) (j : Nat) : LampKept c s (s.takeOwnGrants j) :=
  (lampKept_of_lamps (lamps_withAgenda s _)).trans (lampKept_foldl (fun t units => lampKept_floodGranted t j units) _ _)

theorem lampKept_eachCircuit {f : Nat → State → State} (hf : ∀ i t, LampKept c t (f i t)) (s : State) (l : List Nat) :
    LampKept c s (s.eachCircuit l f) :=
  ((lampKept_of_lamps (lamps_withAgenda s _)).trans
    (lampKept_each (fun i t => (hf i t).trans (lampKept_takeOwnGrants ..)) _ l)).then_lamps (lamps_withAgenda _ _)

/-- One event for several DIMMED circuits, each of which stays DIMMED. -/
theorem lampKept_eachCircuit_of_dimmed {f : Nat → State → State}
    (hf : ∀ i t, (t.circuitRec i).kind = .dimmed → LampKept c t (f i t)) (moves : ∀ i t, Moves t (f i t)) (s : State)
    {l : List Nat} (dimmed : ∀ i ∈ l, (s.circuitRec i).kind = .dimmed) : LampKept c s (s.eachCircuit l f) := by
  have acts (l : List Nat) (t : State) (tables : t.tables = s.tables) (dimmed : ∀ i ∈ l, (s.circuitRec i).kind = .dimmed) :
      LampKept c t (t.each l fun i t => (f i t).takeOwnGrants i) := by
    induction l generalizing t with
    | nil => exact .refl c t
    | cons i l ih =>
      have kind : (t.circuitRec i).kind = .dimmed := kind_of_tables tables (dimmed i (List.mem_cons_self ..))
      have stays : Moves t ((f i t).takeOwnGrants i) := moves_takeOwnGrants (moves i t) i
      exact ((hf i t kind).trans (lampKept_takeOwnGrants ..)).trans
        (ih _ (stays.tables.trans tables) fun k hk => dimmed k (List.mem_cons_of_mem _ hk))
  exact ((lampKept_of_lamps (lamps_withAgenda s _)).trans (acts l (s.withAgenda []) rfl dimmed)).then_lamps
    (lamps_withAgenda _ _)

theorem lampKept_withFloods {v : Floods} (h : v.circuits = s.floods.circuits) : LampKept c s (s.withFloods v) :=
  lampKept_of_lamps (by simp [lamps, State.now, h])

theorem lampKept_shedSet (s : State) : LampKept c s (shedSet s) := by
  refine (lampKept_withFloods (by rfl)).trans (lampKept_eachCircuit_of_dimmed (fun i t kind => lampKept_cap kind _)
    (fun i t => moves_cap (.refl t) i _) _ fun i hi => ?_)
  have sheds := (List.mem_filter.mp hi).2
  simp only [State.sheds, Bool.and_eq_true, decide_eq_true_eq] at sheds
  exact sheds.1.1.1

theorem lampKept_shedClear (s : State) : LampKept c s (shedClear s) :=
  (lampKept_withFloods (by rfl)).trans (lampKept_eachCircuit (fun i t => lampKept_uncap t i) _ _)

theorem lampKept_judgeCircuits (l : List Nat) (cause : FloodCause) (s : State) : LampKept c s (judgeCircuits l cause s) := by
  have taken : LampKept c s (s.each l fun i t => t.takeDemand i) :=
    lampKept_each (fun i t => lampKept_setCircuit_same (by rfl) (by rfl)) s l
  unfold judgeCircuits
  dsimp only
  split
  · exact taken.trans (lampKept_eachCircuit (fun i t => lampKept_actCircuit t i cause) _ l)
  · exact taken

/-! ## Scenes, overrides and the mains (R133-R135, R142) -/

theorem lampKept_writeLevels (s : State) (levels : List (Option Nat)) (last : Option Nat) :
    LampKept c s (s.writeLevels levels last) := by
  have written (l : List Nat) : LampKept c s (s.each l fun i t =>
      t.setCircuit i { t.circuit i with sceneLevel := (levels.getD i none).getD 0 }) :=
    lampKept_each (fun i t => lampKept_setCircuit_same (by rfl) (by rfl)) s l
  exact ((written _).trans (lampKept_withFloods (by rfl))).then_lamps (lamps_post _ _)

theorem lampKept_activateScene (s : State) (scene : Nat) : LampKept c s (activateScene scene s).1 := by
  unfold activateScene
  dsimp only
  split
  · exact lampKept_writeLevels ..
  · exact .refl c s

theorem lampKept_fallBack (s : State) : LampKept c s s.fallBack := by
  unfold State.fallBack
  split
  · exact lampKept_activateScene ..
  · exact .refl c s

theorem lampKept_transitionFloods (state : LightState) (s : State) : LampKept c s (transitionFloods state s) := by
  unfold transitionFloods
  repeat' split
  · exact .refl c s
  · exact lampKept_fallBack s
  · exact lampKept_writeLevels ..
  · exact .refl c s

theorem lampKept_unsetFloods (s : State) : LampKept c s (unsetFloods s) := by
  unfold unsetFloods
  split
  · exact lampKept_fallBack s
  · exact lampKept_writeLevels ..

theorem lampKept_overrideRequest (j : Nat) (level : Option Nat) (duration : Nat) (s : State) :
    LampKept c s (overrideRequest j level duration s).1 := by
  unfold overrideRequest
  dsimp only
  split
  · exact .refl c s
  · exact (lampKept_setCircuit_same (by rfl) (by rfl)).then_lamps (lamps_post _ _)

theorem lampKept_lossCircuit (j : Nat) (s : State) : LampKept c s (lossCircuit j s) := by
  have dark (kind : (s.circuitRec j).kind = .dimmed) (t : State) (kept : LampKept c s t) (tables : t.tables = s.tables)
      (w : Circuit) : LampKept c s ((t.setCircuit j w).floodNotice j (t.circuit j).state .mainsLoss 0) :=
    (kept.trans (lampKept_setCircuit_of_dimmed (kind_of_tables tables kind))).then_lamps (lamps_floodNotice ..)
  unfold lossCircuit
  dsimp only
  split
  · rename_i warming
    exact (lampKept_setCircuit_cools (.inl warming) (by rfl) (by rfl)).then_lamps (lamps_floodNotice ..)
  · rename_i on
    exact (lampKept_setCircuit_cools (.inr on) (by rfl) (by rfl)).then_lamps (lamps_floodNotice ..)
  · rename_i waits
    exact (lampKept_setCircuit_of_cold (not_hot_of_state (.inr waits))).then_lamps (lamps_floodNotice ..)
  case h_7 => exact .refl c s
  all_goals
    rename_i kind _
    split
    · exact dark kind _ (lampKept_unmarkShed s j) rfl _
    · exact dark kind s (.refl c s) rfl _

theorem lampKept_lossFloods (s : State) : LampKept c s (lossFloods s) :=
  lampKept_each (fun i t => lampKept_lossCircuit i t) s _

/-! ## The messages of a command (log 3, log 4) -/

theorem lampKept_fireEntry (e minute now : Nat) (s : State) : LampKept c s (fireEntry e minute now s) := by
  unfold fireEntry
  split
  case h_4 => exact (lampKept_activateScene s _).then_lamps (lamps_reportRefusal ..)
  all_goals exact lampKept_of_lamps (by simp)

theorem lampKept_judgeEntry (e minute now : Nat) (s : State) : LampKept c s (judgeEntry e minute now s) := by
  have guarded : LampKept c s (s.setGuard e (some minute)) := lampKept_of_lamps (lamps_setGuard ..)
  unfold judgeEntry
  dsimp only
  repeat' split
  · exact .refl c s
  · exact guarded.trans (lampKept_fireEntry ..)
  · exact guarded.then_lamps (lamps_skip ..)

/-- No message puts out a lamp but to cool, or ends its cooling. -/
theorem lampKept_handle (m : Msg) (s : State) : LampKept c s (handle m s) := by
  cases m with
  | granted claimant units =>
    cases claimant with
    | flood j => exact lampKept_floodGranted s j units
    | hammer | dial | swing => exact lampKept_of_lamps (by simp [handle, grantTold])
  | shedSet => exact lampKept_shedSet s
  | shedClear => exact lampKept_shedClear s
  | judgeEntry e minute now => exact lampKept_judgeEntry e minute now s
  | unsetFloods => exact lampKept_unsetFloods s
  | transitionFloods state => exact lampKept_transitionFloods state s
  | judgeCircuits l cause => exact lampKept_judgeCircuits l cause s
  | returnFloods cause => exact lampKept_judgeCircuits _ cause s
  | accessFloods => exact lampKept_judgeCircuits _ _ s
  | _ => exact lampKept_of_lamps (by simp [handle])

theorem lampKept_standing (h : s.standing = some t) : LampKept c s t := by
  unfold State.standing at h
  split at h
  · rename_i done
    cases h
    exact lampKept_of_lamps (lamps_of_finishRun done)
  · obtain ⟨perf, -, rfl⟩ := Option.map_eq_some_iff.mp h
    exact lampKept_of_lamps (lamps_tryHead s perf)

theorem lampKept_drain (n : Nat) (s : State) : LampKept c s (s.drain n) := by
  induction n generalizing s with
  | zero => exact lampKept_of_lamps (lamps_withAgenda s _)
  | succ n ih =>
    unfold State.drain
    split
    · have handled (m : Msg) (rest : List Msg) : LampKept c s (s.handleFirst m rest) :=
        ((lampKept_of_lamps (lamps_withAgenda s _)).trans (lampKept_handle m _)).then_lamps (lamps_withAgenda _ _)
      exact (handled _ _).trans (ih _)
    · split
      · rename_i stands
        exact (lampKept_standing stands).trans (ih _)
      · exact .refl c s

theorem lamps_pump (s : State) : lamps s.pump = lamps s := by rw [State.pump_eq]; rfl

theorem lampKept_finish (h : LampKept c s t) : LampKept c s t.finish := by
  refine h.trans ?_
  unfold State.finish
  split
  · exact (lampKept_drain _ t).then_lamps (lamps_pump _)
  · exact (lampKept_of_lamps (lamps_withAgenda t _)).then_lamps (lamps_pump _)

end Sys2Proof.Proofs
end

section
/-! SUPPORT. What the host's requests do to a struck or cooling lamp: a PUT writes the record of a dark circuit alone. -/
namespace Sys2Proof.Proofs

open Sys2Proof.Machine Sys2Proof.Claims

variable {s t : State} {c : Nat}

/-! ## PUT and ERASE (R129, R186) -/

@[simp] theorem lamps_putBell (s : State) (b : Nat) (new : BellRec) : lamps (putBell b new s).1 = lamps s := by
  unfold putBell
  repeat' split
  all_goals simp

@[simp] theorem lamps_putSwing (s : State) (u : Nat) (new : SwingRec) : lamps (putSwing u new s).1 = lamps s := by
  unfold putSwing
  repeat' split
  all_goals simp

@[simp] theorem lamps_putPlan (s : State) (p : Nat) (new : Plan) : lamps (putPlan p new s).1 = lamps s := by
  unfold putPlan
  split <;> simp

@[simp] theorem lamps_putTune (s : State) (i : Nat) (new : Tune) : lamps (putTune i new s).1 = lamps s := by
  unfold putTune
  split <;> simp

@[simp] theorem lamps_putNote (s : State) (n : Nat) (new : Note) : lamps (putNote n new s).1 = lamps s := by
  unfold putNote
  split <;> simp

@[simp] theorem lamps_putDial (s : State) (d : Nat) (new : DialRec) : lamps (putDial d new s).1 = lamps s := by
  unfold putDial
  repeat' split
  all_goals simp

@[simp] theorem lamps_putScene (s : State) (i : Nat) (new : Scene) : lamps (putScene i new s).1 = lamps s := rfl
@[simp] theorem lamps_putEntry (s : State) (e : Nat) (new : Entry) : lamps (putEntry e new s).1 = lamps s := rfl
@[simp] theorem lamps_putSun (s : State) (d : Nat) (new : Sun) : lamps (putSun d new s).1 = lamps s := rfl

@[simp] theorem lamps_putSpecial (s : State) (e : Nat) (new : Special) : lamps (putSpecial e new s).1 = lamps s := by
  unfold putSpecial
  split <;> simp

@[simp] theorem lamps_putSupply (s : State) (new : SupplySettings) : lamps (putSupply new s).1 = lamps s := by
  unfold putSupply
  repeat' split
  all_goals simp

/-- A circuit's record is written where the circuit is OFF (R129), so where its lamp is cold. -/
theorem lampKept_putCircuit (j : Nat) (new : CircuitRec) (s : State) : LampKept c s (putCircuit j new s).1 := by
  unfold putCircuit
  repeat' split
  · exact .refl c s
  · exact .refl c s
  · rename_i notOff
    have off : (s.circuit j).state = .off := not_not.mp notOff
    have other (warm : hot (s.circuit c)) : j ≠ c := by
      rintro rfl
      exact not_hot_of_state (.inl off) warm
    exact ⟨le_rfl, fun _ warm => Table.get_put_other circuitRec0 s.tables.circuit new (other warm), fun _ => .refl _⟩

theorem lampKept_ranged {α : Type} {write : α → State → State × Status} (h : ∀ new, LampKept c s (write new s).1)
    (reading : Option α) : LampKept c s (ranged reading write s).1 := by
  unfold ranged
  split
  · exact h _
  · exact .refl c s

theorem lampKept_putGroup (group : Nat) (v : List Nat) (s : State) : LampKept c s (putGroup group v s).1 := by
  unfold putGroup
  split
  all_goals exact lampKept_ranged (fun new => lampKept_of_lamps (by simp)) _

theorem lampKept_putValues (table i : Nat) (v : List Nat) (s : State) : LampKept c s (putValues table i v s).1 := by
  unfold putValues
  split
  case h_7 => exact lampKept_ranged (fun new => lampKept_putCircuit i new s) _
  case h_12 => exact lampKept_putGroup i v s
  all_goals exact lampKept_ranged (fun new => lampKept_of_lamps (by simp)) _

theorem lampKept_eraseEntry (table i : Nat) (s : State) : LampKept c s (eraseEntry table i s).1 := by
  unfold eraseEntry
  split
  case h_1 => unfold eraseBell; split <;> exact lampKept_of_lamps (by simp)
  case h_6 => unfold eraseDial; split <;> exact lampKept_of_lamps (by simp)
  case h_7 =>
    unfold eraseCircuit
    split
    · exact lampKept_putCircuit i _ s
    · exact .refl c s
  case h_12 => unfold eraseGroup; split <;> exact lampKept_of_lamps (by simp)
  all_goals exact lampKept_of_lamps (by simp)

theorem lampKept_putRequest (body : List Byte) (s : State) : LampKept c s (putRequest body s).1 := by
  unfold putRequest
  dsimp only
  repeat' split
  case h_1 => exact lampKept_putValues _ _ _ s
  all_goals exact .refl c s

theorem lampKept_eraseRequest (body : List Byte) (s : State) : LampKept c s (eraseRequest body s).1 := by
  unfold eraseRequest
  dsimp only
  split
  · exact lampKept_eraseEntry _ _ s
  · exact .refl c s

/-! ## The other requests -/

theorem lamps_clearNewMarks (s : State) : lamps s.clearNewMarks = lamps s := by
  unfold State.clearNewMarks
  dsimp only
  refine (lamps_withLight _ _).trans
    ((lamps_each (fun u t => ?_) _ unitNumbers).trans (lamps_each (fun b t => ?_) s bellNumbers))
  · exact lamps_setUnit t u _
  · exact lamps_setBell t b _

theorem lamps_clearfaultRequest (v : List Nat) (s : State) : lamps (clearfaultRequest v s).1 = lamps s := by
  unfold clearfaultRequest
  repeat' split
  all_goals simp [State.clearLightMark]

theorem lamps_settimeRequest (v : List Nat) (s : State) : lamps (settimeRequest v s).1 = lamps s := by
  unfold settimeRequest
  dsimp only
  repeat' split
  all_goals simp

theorem lamps_quietRequest (v : List Nat) (s : State) : lamps (quietRequest v s).1 = lamps s := by
  unfold quietRequest
  split <;> rfl

theorem lamps_playBody (v : List Nat) (s : State) : lamps (playBody v s).1 = lamps s := by
  unfold playBody
  dsimp only
  repeat' split
  all_goals simp

theorem lamps_cancelBody (v : List Nat) (s : State) : lamps (cancelBody v s).1 = lamps s := by
  unfold cancelBody plain
  split <;> simp

theorem lamps_ringBody (v : List Nat) (s : State) : lamps (ringBody v s).1 = lamps s := by
  unfold ringBody ringRequest
  dsimp only
  repeat' split
  all_goals simp

theorem lamps_haltBody (v : List Nat) (s : State) : lamps (haltBody v s).1 = lamps s := by
  unfold haltBody haltRequest
  dsimp only
  repeat' split
  all_goals simp

theorem lamps_pealBody (v : List Nat) (s : State) : lamps (pealBody v s).1 = lamps s := by
  unfold pealBody plain
  repeat' split
  all_goals simp

theorem lamps_endPeal (s : State) : lamps (endPeal s).1 = lamps s := by
  unfold endPeal
  split <;> simp

theorem lamps_dialsetBody (v : List Nat) (s : State) : lamps (dialsetBody v s).1 = lamps s := by
  unfold dialsetBody
  dsimp only
  repeat' split
  all_goals simp

theorem lamps_dialstopBody (v : List Nat) (s : State) : lamps (dialstopBody v s).1 = lamps s := by
  unfold dialstopBody plain
  repeat' split
  all_goals simp

theorem lampKept_sceneBody (v : List Nat) (s : State) : LampKept c s (sceneBody v s).1 := by
  unfold sceneBody
  split
  · split
    · exact lampKept_activateScene s _
    · exact .refl c s
  · exact .refl c s

theorem lampKept_overrideBody (v : List Nat) (s : State) : LampKept c s (overrideBody v s).1 := by
  unfold overrideBody
  repeat' split
  case h_1.isTrue => exact lampKept_overrideRequest _ _ _ s
  all_goals exact .refl c s

theorem lamps_listRequest (body : List Byte) (s : State) : lamps (listRequest body s).1 = lamps s := by
  unfold listRequest
  dsimp only
  split <;> rfl

theorem lamps_getRequest (body : List Byte) (s : State) : lamps (getRequest body s).1 = lamps s := by
  unfold getRequest
  dsimp only
  split <;> rfl

theorem lampKept_fields {rooms : List Room} {run : List Nat → State → Answer} (h : ∀ v, LampKept c s (run v s).1)
    (body : List Byte) : LampKept c s (fields rooms body run s).1 := by
  unfold fields
  split
  · exact h _
  · exact .refl c s

/-- No request puts out a lamp but to cool, or ends its cooling. -/
theorem lampKept_runRequest (kind : Nat) (body : List Byte) (s : State) : LampKept c s (runRequest kind body s).1 := by
  have told {run : List Nat → State → Answer} {rooms : List Room} (h : ∀ v, lamps (run v s).1 = lamps s) :
      LampKept c s (fields rooms body run s).1 := lampKept_fields (fun v => lampKept_of_lamps (h v)) body
  unfold runRequest
  split
  case h_2 => exact lampKept_of_lamps (lamps_clearNewMarks s)
  case h_3 => exact told fun v => lamps_clearfaultRequest v s
  case h_4 => exact lampKept_of_lamps (lamps_getRequest body s)
  case h_5 => exact lampKept_putRequest body s
  case h_6 => exact lampKept_eraseRequest body s
  case h_7 => exact lampKept_of_lamps (lamps_listRequest body s)
  case h_11 => exact told fun v => lamps_settimeRequest v s
  case h_13 => exact told fun v => lamps_quietRequest v s
  case h_15 => exact told fun v => lamps_playBody v s
  case h_16 => exact told fun v => lamps_cancelBody v s
  case h_18 => exact told fun v => lamps_ringBody v s
  case h_19 => exact told fun v => lamps_haltBody v s
  case h_20 => exact told fun v => lamps_pealBody v s
  case h_21 => exact lampKept_of_lamps (lamps_endPeal s)
  case h_22 => exact told fun v => lamps_dialsetBody v s
  case h_23 => exact told fun v => lamps_dialstopBody v s
  case h_24 => exact lampKept_fields (fun v => lampKept_sceneBody v s) body
  case h_25 => exact lampKept_fields (fun v => lampKept_overrideBody v s) body
  all_goals exact lampKept_of_lamps rfl

theorem lampKept_judgeRequest (kind : Byte) (body : List Byte) (s : State) : LampKept c s (judgeRequest kind body s).1 := by
  unfold judgeRequest
  repeat' split
  case isFalse.isFalse.isFalse => exact lampKept_runRequest _ body s
  all_goals exact .refl c s

/-! ## Frames and bytes of the line -/

theorem lampKept_takeFrame (kind : Byte) (body : List Byte) (s : State) : LampKept c s (takeFrame kind body s) := by
  unfold takeFrame
  dsimp only
  repeat' split
  · exact lampKept_of_lamps rfl
  · exact lampKept_of_lamps rfl
  · exact ((lampKept_of_lamps (lamps_withLink s _)).trans (lampKept_judgeRequest kind body _)).then_lamps (lamps_withLink ..)

theorem lampKept_takeByte (v : Byte) (s : State) : LampKept c s (s.takeByte v) := by
  have link (l : Link) : LampKept c s (s.withLink l) := lampKept_of_lamps (lamps_withLink s l)
  unfold State.takeByte
  dsimp only
  split
  · exact .refl c s
  · split <;> exact link _
  · split <;> exact link _
  · exact link _
  · split
    · split
      · exact lampKept_takeFrame _ _ s
      · exact link _
    · exact link _

/-- Time that passes leaves the lamps as they are. -/
theorem lampKept_advance (s : State) (n : Nat) : LampKept c s (s.withTime (s.time.advance n)) where
  now := by
    show s.time.elapsed ≤ (s.time.advance n).elapsed
    rw [TimeBase.elapsed_advance]
    exact Nat.le_add_right ..
  record _ _ := rfl
  lamp _ := .refl _

theorem lampKept_runTo (s : State) (instant : Nat) : LampKept c s (s.runTo instant) := lampKept_advance s _
theorem lampKept_runToKept (s : State) (target : Nat) : LampKept c s (s.runToKept target) := lampKept_advance s _

theorem lampKept_receiveByte (b : RxByte) (s : State) : LampKept c s (receiveByte b s) := by
  have link (t : State) (l : Link) (h : LampKept c s t) : LampKept c s (t.withLink l) := h.then_lamps (lamps_withLink t l)
  have later := lampKept_advance (c := c) s b.gap
  unfold receiveByte State.hunt
  dsimp only
  repeat' split
  case isFalse.isFalse.isFalse => exact later.trans (lampKept_takeByte ..)
  case isTrue.isFalse => exact later
  case isTrue.isTrue => exact link _ _ later
  case isFalse.isTrue.isTrue => exact link _ _ (link _ _ later)
  all_goals exact link _ _ later

end Sys2Proof.Proofs
end

section
/-! SUPPORT. What each of the part's own timers does to a struck or cooling lamp. -/
namespace Sys2Proof.Proofs

open Sys2Proof.Machine Sys2Proof.Claims

variable {s t : State} {c : Nat}

/-- The clock runs to an instant, and what follows touches no lamp. -/
theorem lampKept_later (instant : Nat) (h : lamps t = lamps (s.runTo instant)) : LampKept c s t :=
  (lampKept_runTo s instant).then_lamps h

theorem lampKept_laterKept (target : Nat) (h : lamps t = lamps (s.runToKept target)) : LampKept c s t :=
  (lampKept_runToKept s target).then_lamps h

/-! ## The time base (R2-R6, R21) -/

theorem lampKept_civilMinuteBoundary (s : State) : LampKept c s (civilMinuteBoundary s) := by
  unfold civilMinuteBoundary
  split
  · exact lampKept_laterKept _ ((lamps_postAll _ _).trans (lamps_withTime (by rfl)))
  · exact .refl c s

theorem lampKept_civilHalfMinuteBoundary (s : State) : LampKept c s (civilHalfMinuteBoundary s) := by
  unfold civilHalfMinuteBoundary passHalfMinute
  split
  · rename_i passed
    split at passed <;> cases passed
    refine lampKept_laterKept _
      ((lamps_each (fun d t => ?_) _ _).trans ((lamps_setTargets _ _).trans (lamps_withTime (by rfl))))
    split <;> simp
  · exact .refl c s

theorem lampKept_keptSecondEnd (s : State) : LampKept c s (keptSecondEnd s) := by
  unfold keptSecondEnd
  repeat' split
  · exact .refl c s
  · exact lampKept_runToKept s _
  · exact lampKept_runToKept s _
  · exact .refl c s

theorem lampKept_rangeEnd (s : State) : LampKept c s (Machine.rangeEnd s) := by
  unfold Machine.rangeEnd
  split
  · exact lampKept_laterKept _ (lamps_loseTime _)
  · exact .refl c s

theorem lampKept_seasonalInstant (s : State) : LampKept c s (seasonalInstant s) := by
  unfold seasonalInstant
  repeat' split
  · exact lampKept_of_lamps (lamps_retime (by rfl) _ _)
  · exact lampKept_laterKept _ (lamps_retime (by rfl) _ _)
  · exact lampKept_of_lamps (lamps_retime (by rfl) _ _)
  · exact .refl c s
  · exact .refl c s

theorem lampKept_lossOfLock (s : State) : LampKept c s (lossOfLock s) := by
  unfold lossOfLock
  split
  · exact lampKept_later _ (lamps_holdOver _ _)
  · exact .refl c s

theorem lampKept_holdoverLimit (s : State) : LampKept c s (holdoverLimit s) := by
  unfold holdoverLimit
  split
  · exact lampKept_laterKept _ (lamps_freeRun _)
  · exact .refl c s

/-! ## The reference monitor (R12-R18) -/

theorem lampKept_whenReady {f : State → State} (h : LampKept c s (f s)) : LampKept c s (s.whenReady f) := by
  unfold State.whenReady
  split
  · exact h
  · exact .refl c s

theorem lampKept_whenReading {f : State → State} (h : LampKept c s (f s)) : LampKept c s (s.whenReading f) := by
  refine lampKept_whenReady ?_
  split
  · exact .refl c s
  · exact h

theorem lampKept_telegramRecord (chars : List Byte) (s : State) : LampKept c s (telegramRecord chars s) :=
  lampKept_whenReading (lampKept_of_lamps (lamps_foldl lamps_takeChar s chars))

theorem lampKept_telegramRecordTimeout (s : State) : LampKept c s (telegramRecordTimeout s) := by
  refine lampKept_whenReading ?_
  split
  · exact lampKept_later _ (lamps_failRecord _ _)
  · exact .refl c s

theorem lampKept_telegramSilence (s : State) : LampKept c s (telegramSilence s) := by
  refine lampKept_whenReading ?_
  split
  · exact lampKept_later _ (lamps_withRefs _ _)
  · exact .refl c s

theorem lampKept_telegramMark (s : State) : LampKept c s (telegramMark s) := by
  refine lampKept_whenReading (lampKept_of_lamps ?_)
  dsimp only
  repeat' split
  all_goals simp

theorem lampKept_telegramMarkDeadline (s : State) : LampKept c s (telegramMarkDeadline s) := by
  refine lampKept_whenReading ?_
  split
  · exact lampKept_later _ (lamps_failPending _)
  · exact .refl c s

theorem lamps_decisions (l : List Decision) (after : Decision → Option SecEdge) (s : State) :
    lamps (l.foldl (fun t d => decideMark d (after d) t) s) = lamps s :=
  lamps_foldl (fun t d => lamps_decideMark t d _) s l

theorem lampKept_secondMarkEdge (s : State) : LampKept c s (secondMarkEdge s) := by
  refine lampKept_whenReady ?_
  split
  · exact .refl c s
  · exact lampKept_of_lamps (lamps_decisions _ _ _)

theorem lampKept_secondMarkTimeout (s : State) : LampKept c s (secondMarkTimeout s) := by
  refine lampKept_whenReady ?_
  split
  · exact lampKept_later _ (lamps_withRefs _ _)
  · exact .refl c s

theorem lampKept_skewDecisionTimeout (s : State) : LampKept c s (skewDecisionTimeout s) := by
  refine lampKept_whenReady ?_
  split
  · exact lampKept_later _ (lamps_decisions _ _ _)
  · exact .refl c s

/-! ## The chime player (R81-R87) -/

theorem lampKept_headDue (s : State) : LampKept c s (headDue s) := by
  unfold headDue
  repeat' split
  · exact .refl c s
  · exact lampKept_runTo s _
  · exact .refl c s

theorem lampKept_startDeadline (id : Nat) (s : State) : LampKept c s (startDeadline id s) := by
  unfold startDeadline
  repeat' split
  · exact .refl c s
  · exact lampKept_later _ (lamps_drop _ _ _)
  · exact .refl c s

theorem lampKept_noteDue (s : State) : LampKept c s (noteDue s) := by
  unfold noteDue
  dsimp only
  repeat' split
  · exact lampKept_later _ ((lamps_requestNote _).trans (lamps_onPlaying _ _))
  · exact lampKept_runTo s _
  · exact .refl c s

theorem lampKept_noteWaitExpiry (s : State) : LampKept c s (noteWaitExpiry s) := by
  unfold noteWaitExpiry
  split
  · exact lampKept_later _ ((lamps_post _ _).trans ((lamps_postAll _ _).trans (lamps_setPlaying _ _)))
  · exact .refl c s

theorem lampKept_tailEnd (s : State) : LampKept c s (tailEnd s) := by
  unfold tailEnd
  split
  · exact lampKept_later _ (lamps_endPlaying _ _)
  · exact .refl c s

/-! ## The hammers (R58, R62) -/

theorem lampKept_pulseEnd (b : Nat) (s : State) : LampKept c s (pulseEnd b s) := by
  unfold pulseEnd
  split
  · exact lampKept_later _ (lamps_pulseEnds _ _)
  · exact .refl c s

theorem lampKept_recoveryEnd (b : Nat) (s : State) : LampKept c s (recoveryEnd b s) := by
  unfold recoveryEnd
  dsimp only
  repeat' split
  · exact lampKept_later _ (lamps_setBell _ _ _)
  · exact lampKept_later _ ((lamps_answerRefused _ _ _).trans (lamps_setBell _ _ _))
  · exact lampKept_later _ ((lamps_takeBlow _ _ _ _).trans (lamps_setBell _ _ _))
  · exact .refl c s

theorem lampKept_senseInstant (b : Nat) (s : State) : LampKept c s (senseInstant b s) := by
  unfold senseInstant
  split
  · exact lampKept_later _ ((lamps_queueConversion _ _).trans (lamps_setBell _ _ _))
  · exact .refl c s

/-! ## The swing units (R95-R103) -/

theorem lampKept_raiseLimitExpiry (u : Nat) (s : State) : LampKept c s (raiseLimitExpiry u s) := by
  unfold raiseLimitExpiry
  split
  · exact lampKept_later _ (lamps_enterFault _ _ _)
  · exact .refl c s

theorem lampKept_lowerLimitExpiry (u : Nat) (s : State) : LampKept c s (lowerLimitExpiry u s) := by
  unfold lowerLimitExpiry
  split
  · exact lampKept_later _ (lamps_enterFault _ _ _)
  · exact .refl c s

theorem lampKept_noTurnTimeout (u : Nat) (s : State) : LampKept c s (noTurnTimeout u s) := by
  unfold noTurnTimeout
  split
  · exact lampKept_later _ (lamps_enterSettling _ _ _)
  · exact .refl c s

theorem lampKept_driveWindowExpiry (u : Nat) (s : State) : LampKept c s (driveWindowExpiry u s) := by
  unfold driveWindowExpiry
  split
  · exact lampKept_later _ (lamps_cutDrive _ _)
  · exact .refl c s

theorem lampKept_driveImpulseEnd (u : Nat) (s : State) : LampKept c s (driveImpulseEnd u s) := by
  unfold driveImpulseEnd
  split
  · exact lampKept_later _ (lamps_cutDrive _ _)
  · exact .refl c s

theorem lampKept_ringEnd (u : Nat) (s : State) : LampKept c s (ringEnd u s) := by
  unfold ringEnd
  repeat' split
  · exact lampKept_later _ (lamps_stopUnit _ _ _ _)
  · exact .refl c s
  · exact .refl c s

theorem lampKept_settleTimerExpiry (u : Nat) (s : State) : LampKept c s (settleTimerExpiry u s) := by
  unfold settleTimerExpiry
  split
  · exact lampKept_later _ ((lamps_unitNotice _ _ _ _).trans ((lamps_moveClaim _ _ _).trans (lamps_setUnit _ _ _)))
  · exact .refl c s

theorem lamps_reversal (u : Nat) (s : State) : lamps (reversal u s) = lamps s := by
  unfold reversal
  dsimp only
  repeat' split
  all_goals simp

theorem lamps_indexCrossing (u : Nat) (s : State) : lamps (indexCrossing u s) = lamps s := by
  unfold indexCrossing
  dsimp only
  repeat' split
  all_goals simp

/-! ## The run and the dials (R110, R111, R119, R120) -/

theorem lampKept_startStep (s : State) : LampKept c s (startStep s) := by
  unfold startStep
  split
  · exact lampKept_later _ (lamps_takeStartStep _)
  · exact .refl c s

theorem lampKept_pealEndInstant (s : State) : LampKept c s (pealEndInstant s) := by
  unfold pealEndInstant
  split
  · exact lampKept_later _ (lamps_stopRun _ _ _)
  · exact .refl c s

theorem lampKept_stopStep (s : State) : LampKept c s (stopStep s) := by
  unfold stopStep
  split
  · exact lampKept_later _ ((lamps_settleRun _).trans (lamps_takeStopStep _))
  · exact .refl c s

theorem lampKept_dialSpacingExpiry (d : Nat) (s : State) : LampKept c s (dialSpacingExpiry d s) := by
  unfold dialSpacingExpiry
  split
  · exact lampKept_later _ ((lamps_askDial _ _).trans (lamps_setDial _ _ _))
  · exact .refl c s

theorem lampKept_dialImpulseEnd (d : Nat) (s : State) : LampKept c s (dialImpulseEnd d s) := by
  unfold dialImpulseEnd
  split
  · rename_i again ends _
    refine lampKept_later ends ?_
    dsimp only
    repeat' split
    all_goals simp
  · exact .refl c s

/-! ## The light monitor, the converter, the arbiter and the store (R147, R151, R164, R173) -/

theorem lampKept_sampleInstant (s : State) : LampKept c s (sampleInstant s) := by
  unfold sampleInstant
  split
  · exact lampKept_later _ (lamps_sampleNow _)
  · exact .refl c s

theorem lampKept_conversionEnd (reading : Nat) (s : State) : LampKept c s (conversionEnd reading s) := by
  unfold conversionEnd
  split
  · exact .refl c s
  · rename_i ends _
    refine lampKept_later ends ?_
    dsimp only
    split <;> simp

theorem lampKept_shedTimerExpiry (claimant : Claimant) (s : State) : LampKept c s (shedTimerExpiry claimant s) := by
  unfold shedTimerExpiry
  dsimp only
  repeat' split
  · exact .refl c s
  · exact .refl c s
  · exact lampKept_later _ (lamps_withSupply _ _)
  · rename_i instant _ _
    exact lampKept_later instant (by simp)

theorem lamps_saveTableWritten (readBack : Bool) (s : State) : lamps (saveTableWritten readBack s) = lamps s := by
  unfold saveTableWritten
  dsimp only
  repeat' split
  all_goals rfl

/-! ## Access and key (R170, R171) -/

theorem lampKept_whenRunning {f : State → State} (h : LampKept c s (f s)) : LampKept c s (s.whenRunning f) := by
  unfold State.whenRunning
  split
  · exact h
  · exact .refl c s

theorem lamps_accessSwitchChange (shows : Access) (s : State) : lamps (accessSwitchChange shows s) = lamps s := by
  unfold accessSwitchChange State.whenRunning
  dsimp only
  repeat' split
  all_goals rfl

theorem lamps_keySwitchChange (shows : Key) (s : State) : lamps (keySwitchChange shows s) = lamps s := by
  unfold keySwitchChange State.whenRunning
  dsimp only
  repeat' split
  all_goals rfl

theorem lampKept_accessTimerExpiry (s : State) : LampKept c s (accessTimerExpiry s) := by
  refine lampKept_whenRunning ?_
  dsimp only
  repeat' split
  · exact .refl c s
  · exact lampKept_later _ rfl
  · exact lampKept_later _ rfl

theorem lampKept_keyTimerExpiry (s : State) : LampKept c s (keyTimerExpiry s) := by
  refine lampKept_whenRunning ?_
  split
  · exact .refl c s
  · exact lampKept_later _ rfl

/-! ## The mains (R142, R168, R169) -/

theorem lampKept_loseMains (s : State) : LampKept c s s.loseMains := by
  have before : lamps (lossDials (lossRun (lossSwing (abortPlaying .reserve none (lossBells s))))) = lamps s := by
    simp [lossRun]
  unfold State.loseMains lightLoss converterLoss
  refine ((lampKept_of_lamps before).trans (lampKept_lossFloods _)).then_lamps ?_
  simp

theorem lampKept_setMains (mains : Mains) (settle : Option Nat) (s : State) : LampKept c s (s.setMains mains settle) := by
  have set : LampKept c s (s.withPower { s.power with mains := mains, settle := settle }) :=
    lampKept_of_lamps (lamps_withPower s _)
  have told := set.then_lamps (lamps_notify _ (.mains s.power.mains mains s.now))
  unfold State.setMains
  dsimp only
  repeat' split
  · exact set
  · exact told.trans (lampKept_loseMains _)
  · exact told.then_lamps (lamps_postAll _ _)
  · exact told

theorem lampKept_mainsLineAbsent (s : State) : LampKept c s (mainsLineAbsent s) := by
  unfold mainsLineAbsent
  refine (lampKept_of_lamps (lamps_withPower s _)).trans (lampKept_whenRunning ?_)
  split
  · exact .refl c _
  · exact lampKept_setMains _ _ _

theorem lampKept_mainsLinePresent (s : State) : LampKept c s (mainsLinePresent s) := by
  unfold mainsLinePresent
  refine (lampKept_of_lamps (lamps_withPower s _)).trans (lampKept_whenRunning ?_)
  split
  · exact lampKept_setMains _ _ _
  · exact .refl c _

theorem lampKept_mainsSettleExpiry (s : State) : LampKept c s (mainsSettleExpiry s) := by
  refine lampKept_whenRunning ?_
  split
  · exact .refl c s
  · exact (lampKept_runTo s _).trans (lampKept_setMains _ _ _)

/-! ## The circuits' own timers, but for the restrike timer (R135, R137, R138) -/

theorem lampKept_warmUpEnd (j : Nat) (s : State) : LampKept c s (warmUpEnd j s) := by
  unfold warmUpEnd
  split
  · rename_i instant warming _
    exact (lampKept_runTo s instant).trans (lampKept_warmed warming)
  · exact .refl c s

theorem lampKept_fadeStep (j : Nat) (s : State) : LampKept c s (fadeStep j s) := by
  unfold fadeStep
  split
  · rename_i instant kind _ _
    have dimmed : ((s.runTo instant).circuitRec j).kind = .dimmed := kind
    have stepped (w : Circuit) : LampKept c s ((s.runTo instant).setCircuit j w) :=
      (lampKept_runTo s instant).trans (lampKept_setCircuit_of_dimmed dimmed)
    have darkens (w : Circuit) (cause : FloodCause) : LampKept c s (((s.runTo instant).setCircuit j w).darken j cause) :=
      (stepped w).trans (lampKept_darken (s := (s.runTo instant).setCircuit j w) dimmed cause)
    have fades (w : Circuit) : LampKept c s (((s.runTo instant).setCircuit j w).runFade j) :=
      (stepped w).trans (lampKept_runFade _ j)
    dsimp only
    split
    all_goals
      split
      · exact darkens _ _
      · split
        · exact (fades _).then_lamps (lamps_release _ _ _)
        · exact fades _
  · exact .refl c s

theorem lampKept_overrideExpiry (j : Nat) (s : State) : LampKept c s (overrideExpiry j s) := by
  unfold overrideExpiry
  split
  · exact ((lampKept_runTo s _).trans (lampKept_setCircuit_same (by rfl) (by rfl))).then_lamps (lamps_post _ _)
  · exact .refl c s

/-! ## The entry to READY (R175) -/

theorem lampKept_coldStart (s : State) : LampKept c s s.coldStart := by
  unfold State.coldStart
  dsimp only
  refine LampKept.trans ?_ (lampKept_each (fun j t => lampKept_setCircuit_same (by rfl) (by rfl)) _ _)
  refine lampKept_of_lamps ((lamps_each (fun b t => lamps_setBell t b _) _ _).trans rfl)

theorem lampKept_loadingEnd (s : State) : LampKept c s (loadingEnd s) := by
  have judges : LampKept c s (judged s) := by
    unfold judged
    split
    · obtain ⟨day, bells, warm⟩ := warmStart_eq s
      exact lampKept_of_lamps (by rw [warm]; rfl)
    · exact lampKept_coldStart s
  unfold loadingEnd
  split
  · exact judges.then_lamps ((lamps_postAll _ _).trans (lamps_withStart _ _))
  · exact .refl c s

end Sys2Proof.Proofs
end

section
/-! SUPPORT. Every command keeps a lamp's restrike time (R137, R142). -/
namespace Sys2Proof.Proofs

open Sys2Proof.Machine Sys2Proof.Claims

variable {s t u : State} {c : Nat}

/-! ## The restrike timer's end -/

/-- The lamp's restrike time is over at the state's instant. -/
def RestrikeOver (c : Nat) (s t : State) : Prop :=
  (s.circuit c).state = .cooling ∧ ∃ ends, (s.circuit c).timer = some ends ∧ ends ≤ t.now

/-- What a command in READY may do to a lamp: keep it, or end its cooling when the restrike time is over. -/
def LampHeld (c : Nat) (s t : State) : Prop := LampKept c s t ∨ RestrikeOver c s t

theorem LampHeld.then (h : LampHeld c s t) (k : LampKept c t u) : LampHeld c s u := by
  rcases h with kept | ⟨cools, ends, timer, isOver⟩
  · exact .inl (kept.trans k)
  · exact .inr ⟨cools, ends, timer, isOver.trans k.now⟩

theorem lampHeld_finish (h : LampHeld c s t) : LampHeld c s t.finish := h.then (lampKept_finish (.refl c t))

theorem now_of_lamps (h : lamps t = lamps s) : t.now = s.now := congrArg (fun l => l.2.2) h

theorem lamps_strike (s : State) (j : Nat) (cause : FloodCause) :
    lamps (s.strike j cause) = lamps (s.setCircuit j { s.circuit j with state := .waiting, timer := none }) :=
  (lamps_request _ _ _).trans (lamps_moveCircuit s j _ cause)

/-- The restrike timer's end writes its own circuit's fields, at its instant. -/
theorem restrikeEnd_writes {j ends : Nat} (cools : (s.circuit j).state = .cooling) (timer : (s.circuit j).timer = some ends) :
    ∃ w, lamps (restrikeEnd j s) = lamps ((s.runTo ends).setCircuit j w) := by
  unfold restrikeEnd
  rw [cools, timer]
  dsimp only
  repeat' split
  · exact ⟨_, rfl⟩
  · exact ⟨_, lamps_strike _ _ _⟩
  · exact ⟨_, lamps_moveCircuit _ _ _ _⟩

theorem restrikeEnd_of_not_cooling {j : Nat} (h : ∀ ends, (s.circuit j).state = .cooling → (s.circuit j).timer ≠ some ends) :
    restrikeEnd j s = s := by
  unfold restrikeEnd
  split
  · rename_i ends cools timer
    exact absurd timer (h ends cools)
  · rfl

theorem lampKept_setCircuit_other {j : Nat} (other : j ≠ c) (w : Circuit) : LampKept c s (s.setCircuit j w) where
  now := le_rfl
  record _ _ := rfl
  lamp _ := by
    rw [State.circuit_setCircuit, if_neg other]
    exact .refl _

theorem lampHeld_restrikeEnd (j : Nat) (s : State) : LampHeld c s (restrikeEnd j s) := by
  by_cases cooling : ∃ ends, (s.circuit j).state = .cooling ∧ (s.circuit j).timer = some ends
  · obtain ⟨ends, cools, timer⟩ := cooling
    obtain ⟨w, writes⟩ := restrikeEnd_writes cools timer
    by_cases own : j = c
    · subst own
      refine .inr ⟨cools, ends, timer, ?_⟩
      have now : (restrikeEnd j s).now = ((s.runTo ends).setCircuit j w).now := now_of_lamps writes
      rw [now, State.now_setCircuit, State.now_runTo]
      exact le_max_right _ _
    · exact .inl (((lampKept_runTo s ends).trans (lampKept_setCircuit_other own w)).then_lamps writes)
  · push Not at cooling
    rw [restrikeEnd_of_not_cooling cooling]
    exact .inl (.refl c s)

/-! ## The opening of LOADING -/

/-- A command that touches no lamp, but where it opens LOADING. -/
theorem lampHeld_of_loading_or_lamps (h : t.start.phase = .loading ∨ lamps t = lamps s) (ready : t.start.phase = .ready) :
    LampHeld c s t := by
  rcases h with loading | same
  · rw [loading] at ready; cases ready
  · exact .inl (lampKept_of_lamps same)

theorem transmitFrameEnd_opens (s : State) :
    (transmitFrameEnd s).start.phase = .loading ∨ lamps (transmitFrameEnd s) = lamps s := by
  unfold transmitFrameEnd State.sent
  repeat' split
  case h_2 => exact .inl (loading_openLoading _ _)
  all_goals exact .inr rfl

theorem resetLineRelease_opens (s : State) :
    (resetLineRelease s).start.phase = .loading ∨ lamps (resetLineRelease s) = lamps s := by
  unfold resetLineRelease
  dsimp only
  repeat' split
  · exact .inl (loading_openLoading _ _)
  · exact .inr rfl
  · exact .inr rfl

theorem powerOn_opens (retained : Bool) (s : State) :
    (powerOn retained s).start.phase = .loading ∨ lamps (powerOn retained s) = lamps s := by
  unfold powerOn
  dsimp only
  repeat' split
  · exact .inr rfl
  · exact .inr rfl
  · exact .inl (loading_openLoading _ _)

theorem lampHeld_transmitFrameEnd (ready : (command transmitFrameEnd s).start.phase = .ready) :
    LampHeld c s (command transmitFrameEnd s) := by
  unfold command at ready ⊢
  split at ready
  · rename_i running
    rw [start_finish] at ready
    rw [if_pos running]
    exact lampHeld_finish (lampHeld_of_loading_or_lamps (transmitFrameEnd_opens s) ready)
  · rename_i stopped
    rw [if_neg stopped]
    exact .inl (.refl c s)

/-! ## Every command -/

theorem lampHeld_command {f : State → State} (h : LampHeld c s (f s)) : LampHeld c s (command f s) := by
  unfold command
  split
  · exact lampHeld_finish h
  · exact .inl (.refl c s)

theorem lampKept_command {f : State → State} (h : LampKept c s (f s)) : LampKept c s (command f s) := by
  unfold command
  split
  · exact lampKept_finish h
  · exact .refl c s

theorem lampHeld_readyCommand {f : State → State} (h : LampKept c s (f s)) : LampHeld c s (readyCommand f s) := by
  unfold readyCommand
  split
  · exact .inl (lampKept_finish h)
  · exact .inl (.refl c s)

theorem lampHeld_frame (kind : Byte) (body : List Byte) : LampHeld c s (command (wholeFrame kind body) s) :=
  lampHeld_command (.inl ((lampKept_of_lamps (lamps_withLink s _)).trans (lampKept_takeFrame kind body _)))

theorem lampHeld_bytes (bytes : List RxByte) :
    LampHeld c s (bytes.foldl (fun t x => command (receiveByte x) t) s) :=
  .inl (lampKept_foldl (fun t x => lampKept_command (lampKept_receiveByte x t)) s bytes)

/-- A command that ends in READY keeps every lamp, or ends its cooling when its restrike time is over. -/
theorem lampHeld_exec (i : Instr) (s : State) :
    ∃ t, exec i s = .next t ∧ (t.start.phase = .ready → LampHeld c s t) := by
  cases i with
  | status | faults | clearfault | get | put | erase | list | save | restart | rate | settime | timeinfo | quiet
  | dayinfo | play | cancel | queue | ring | halt | peal | endpeal | dialset | dialstop | scene | override
  | floodinfo | lightinfo | supplyinfo | unknownKindFrame => exact ⟨_, rfl, fun _ => lampHeld_frame _ _⟩
  | frameDiscarded bytes => exact ⟨_, rfl, fun _ => lampHeld_bytes bytes⟩
  | transmitFrameEnd => exact ⟨_, rfl, lampHeld_transmitFrameEnd⟩
  | resetLineHeld | supplyFailure => exact ⟨_, rfl, fun _ => .inl (lampKept_of_lamps rfl)⟩
  | resetLineRelease => exact ⟨_, rfl, lampHeld_of_loading_or_lamps (resetLineRelease_opens s)⟩
  | powerOn retained => exact ⟨_, rfl, lampHeld_of_loading_or_lamps (powerOn_opens retained s)⟩
  | loadingEnd => exact ⟨_, rfl, fun _ => lampHeld_command (.inl (lampKept_loadingEnd s))⟩
  | restrikeEnd j => exact ⟨_, rfl, fun _ => lampHeld_command (lampHeld_restrikeEnd j s)⟩
  | mainsLineAbsent => exact ⟨_, rfl, fun _ => lampHeld_finish (.inl (lampKept_mainsLineAbsent s))⟩
  | mainsLinePresent => exact ⟨_, rfl, fun _ => lampHeld_finish (.inl (lampKept_mainsLinePresent s))⟩
  | mainsSettleExpiry => exact ⟨_, rfl, fun _ => lampHeld_command (.inl (lampKept_mainsSettleExpiry s))⟩
  | accessSwitchChange shows =>
    exact ⟨_, rfl, fun _ => lampHeld_finish (.inl (lampKept_of_lamps (lamps_accessSwitchChange shows s)))⟩
  | keySwitchChange shows =>
    exact ⟨_, rfl, fun _ => lampHeld_finish (.inl (lampKept_of_lamps (lamps_keySwitchChange shows s)))⟩
  | accessTimerExpiry => exact ⟨_, rfl, fun _ => lampHeld_command (.inl (lampKept_accessTimerExpiry s))⟩
  | keyTimerExpiry => exact ⟨_, rfl, fun _ => lampHeld_command (.inl (lampKept_keyTimerExpiry s))⟩
  | encoderEdge => exact ⟨_, rfl, fun _ => lampHeld_command (.inl (lampKept_of_lamps rfl))⟩
  | reversal j => exact ⟨_, rfl, fun _ => lampHeld_command (.inl (lampKept_of_lamps (lamps_reversal j s)))⟩
  | indexCrossing j => exact ⟨_, rfl, fun _ => lampHeld_command (.inl (lampKept_of_lamps (lamps_indexCrossing j s)))⟩
  | settleTimerExpiry j => exact ⟨_, rfl, fun _ => lampHeld_command (.inl (lampKept_settleTimerExpiry j s))⟩
  | civilMinuteBoundary => exact ⟨_, rfl, fun _ => lampHeld_readyCommand (lampKept_civilMinuteBoundary s)⟩
  | civilHalfMinuteBoundary => exact ⟨_, rfl, fun _ => lampHeld_readyCommand (lampKept_civilHalfMinuteBoundary s)⟩
  | keptSecondEnd => exact ⟨_, rfl, fun _ => lampHeld_readyCommand (lampKept_keptSecondEnd s)⟩
  | rangeEnd => exact ⟨_, rfl, fun _ => lampHeld_readyCommand (lampKept_rangeEnd s)⟩
  | seasonalInstant => exact ⟨_, rfl, fun _ => lampHeld_readyCommand (lampKept_seasonalInstant s)⟩
  | lossOfLock => exact ⟨_, rfl, fun _ => lampHeld_readyCommand (lampKept_lossOfLock s)⟩
  | holdoverLimit => exact ⟨_, rfl, fun _ => lampHeld_readyCommand (lampKept_holdoverLimit s)⟩
  | telegramRecord chars => exact ⟨_, rfl, fun _ => lampHeld_readyCommand (lampKept_telegramRecord chars s)⟩
  | telegramRecordTimeout => exact ⟨_, rfl, fun _ => lampHeld_readyCommand (lampKept_telegramRecordTimeout s)⟩
  | telegramMark => exact ⟨_, rfl, fun _ => lampHeld_readyCommand (lampKept_telegramMark s)⟩
  | telegramMarkDeadline => exact ⟨_, rfl, fun _ => lampHeld_readyCommand (lampKept_telegramMarkDeadline s)⟩
  | telegramSilence => exact ⟨_, rfl, fun _ => lampHeld_readyCommand (lampKept_telegramSilence s)⟩
  | secondMarkEdge => exact ⟨_, rfl, fun _ => lampHeld_readyCommand (lampKept_secondMarkEdge s)⟩
  | secondMarkTimeout => exact ⟨_, rfl, fun _ => lampHeld_readyCommand (lampKept_secondMarkTimeout s)⟩
  | skewDecisionTimeout => exact ⟨_, rfl, fun _ => lampHeld_readyCommand (lampKept_skewDecisionTimeout s)⟩
  | headDue => exact ⟨_, rfl, fun _ => lampHeld_readyCommand (lampKept_headDue s)⟩
  | startDeadline id => exact ⟨_, rfl, fun _ => lampHeld_readyCommand (lampKept_startDeadline id s)⟩
  | noteDue => exact ⟨_, rfl, fun _ => lampHeld_readyCommand (lampKept_noteDue s)⟩
  | noteWaitExpiry => exact ⟨_, rfl, fun _ => lampHeld_readyCommand (lampKept_noteWaitExpiry s)⟩
  | tailEnd => exact ⟨_, rfl, fun _ => lampHeld_readyCommand (lampKept_tailEnd s)⟩
  | pulseEnd j => exact ⟨_, rfl, fun _ => lampHeld_readyCommand (lampKept_pulseEnd j s)⟩
  | recoveryEnd j => exact ⟨_, rfl, fun _ => lampHeld_readyCommand (lampKept_recoveryEnd j s)⟩
  | senseInstant j => exact ⟨_, rfl, fun _ => lampHeld_readyCommand (lampKept_senseInstant j s)⟩
  | raiseLimitExpiry j => exact ⟨_, rfl, fun _ => lampHeld_readyCommand (lampKept_raiseLimitExpiry j s)⟩
  | driveWindowExpiry j => exact ⟨_, rfl, fun _ => lampHeld_readyCommand (lampKept_driveWindowExpiry j s)⟩
  | driveImpulseEnd j => exact ⟨_, rfl, fun _ => lampHeld_readyCommand (lampKept_driveImpulseEnd j s)⟩
  | ringEnd j => exact ⟨_, rfl, fun _ => lampHeld_readyCommand (lampKept_ringEnd j s)⟩
  | noTurnTimeout j => exact ⟨_, rfl, fun _ => lampHeld_readyCommand (lampKept_noTurnTimeout j s)⟩
  | lowerLimitExpiry j => exact ⟨_, rfl, fun _ => lampHeld_readyCommand (lampKept_lowerLimitExpiry j s)⟩
  | startStep => exact ⟨_, rfl, fun _ => lampHeld_readyCommand (lampKept_startStep s)⟩
  | pealEndInstant => exact ⟨_, rfl, fun _ => lampHeld_readyCommand (lampKept_pealEndInstant s)⟩
  | stopStep => exact ⟨_, rfl, fun _ => lampHeld_readyCommand (lampKept_stopStep s)⟩
  | dialSpacingExpiry j => exact ⟨_, rfl, fun _ => lampHeld_readyCommand (lampKept_dialSpacingExpiry j s)⟩
  | dialImpulseEnd j => exact ⟨_, rfl, fun _ => lampHeld_readyCommand (lampKept_dialImpulseEnd j s)⟩
  | warmUpEnd j => exact ⟨_, rfl, fun _ => lampHeld_readyCommand (lampKept_warmUpEnd j s)⟩
  | fadeStep j => exact ⟨_, rfl, fun _ => lampHeld_readyCommand (lampKept_fadeStep j s)⟩
  | overrideExpiry j => exact ⟨_, rfl, fun _ => lampHeld_readyCommand (lampKept_overrideExpiry j s)⟩
  | sampleInstant => exact ⟨_, rfl, fun _ => lampHeld_readyCommand (lampKept_sampleInstant s)⟩
  | conversionEnd reading => exact ⟨_, rfl, fun _ => lampHeld_readyCommand (lampKept_conversionEnd reading s)⟩
  | shedTimerExpiry claimant => exact ⟨_, rfl, fun _ => lampHeld_readyCommand (lampKept_shedTimerExpiry claimant s)⟩
  | saveTableWritten good =>
    exact ⟨_, rfl, fun _ => lampHeld_readyCommand (lampKept_of_lamps (lamps_saveTableWritten good s))⟩

theorem lampKept_clockTick (s : State) : LampKept c s s.clockTick where
  now := by
    unfold State.clockTick State.now
    dsimp only
    split
    · rw [TimeBase.elapsed_advance]; exact Nat.le_add_right ..
    · rw [elapsed_drift]
  record _ _ := rfl
  lamp _ := .refl _

/-- One step keeps every lamp, or ends its cooling when its restrike time is over. -/
theorem lampHeld_step (stepped : step s = .next t) (ready : t.start.phase = .ready) : LampHeld c s t := by
  unfold step at stepped
  split at stepped
  · rename_i i rest _
    obtain ⟨u, runs, held⟩ := lampHeld_exec (c := c) i { s with pending := rest }
    rw [runs] at stepped
    cases stepped
    rcases held ready with kept | ends
    · exact .inl ((lampKept_of_lamps (s := s) (t := { s with pending := rest }) rfl).trans kept)
    · exact .inr ends
  · cases stepped
    exact .inl (lampKept_clockTick s)

theorem lit_iff {w : CircuitState} : w.lit = true ↔ w = .warming ∨ w = .on := by cases w <;> decide

/-- Settles O10: a command keeps a SWITCHED circuit's lamp and, while it is hot, its record; only the restrike timer's own
end ends its cooling, and that at the end of the restrike time. -/
theorem restrikeTimeIsKept : Obligations.RestrikeTimeIsKept := by
  unfold Obligations.RestrikeTimeIsKept
  intro s t c _ switched stepped ready
  rcases lampHeld_step (c := c) stepped ready with kept | ⟨cools, ends, timer, isOver⟩
  · constructor
    · intro lit
      have isLit := lit_iff.mpr lit
      rw [kept.record switched (.inl isLit)]
      rcases (kept.lamp switched).lit isLit with still | cooled
      · exact (lit_iff.mp still).imp_right .inl
      · exact .inr (.inr cooled)
    · intro ends cools timer
      obtain ⟨still, same⟩ := (kept.lamp switched).cooling cools
      exact .inl ⟨still, same.trans timer⟩
  · constructor
    · intro lit
      exact absurd cools (not_cooling_of_lit lit)
    · intro ends' _ timer'
      rw [timer] at timer'
      cases timer'
      exact .inr isOver

end Sys2Proof.Proofs
end

section
/-! SUPPORT. LIST and ERASE (R186, R187). -/
namespace Sys2Proof.Proofs

open Sys2Proof.Machine Sys2Proof.Claims

variable {s t : State}

/-! ## LIST -/

/-- The number and the index of LIST's first entry, and the count of entries asked for. -/
theorem fieldAt_count (table fh fl nh nl : Byte) :
    fieldAt [table, fh, fl, nh, nl] 3 2 = nh.toNat * 256 + nl.toNat := beNat_two nh nl

/-- The first used entry of a range, as the first of its used entries. -/
theorem nextUsed_eq_head {count : Nat} (s : State) (table first : Nat) (nonempty : count ≠ 0) :
    s.nextUsed table first (first + count - 1) =
      ((List.range count).filter fun k => s.usedEntry table (first + k)).head?.map (first + ·) := by
  have entries : first + count - 1 + 1 - first = count := by omega
  unfold State.nextUsed
  rw [entries, List.find?_map, List.head?_filter]
  rfl

theorem usedEntry_taken (s : State) (table i : Nat) : (taken s).usedEntry table i = s.usedEntry table i := rfl

theorem listRequest_refused {body : List Byte} {table first count : Nat} (h0 : fieldAt body 0 1 = table)
    (h1 : fieldAt body 1 2 = first) (h3 : fieldAt body 3 2 = count)
    (refused : count = 0 ∨ inTable table first = false ∨ inTable table (first + count - 1) = false) :
    listRequest body s = (s, .range, []) := by
  subst h0 h1 h3
  unfold listRequest
  refine if_pos ?_
  simpa only [Bool.or_eq_true, decide_eq_true_eq, Bool.not_eq_true', or_assoc] using refused

theorem listRequest_of_range {body : List Byte} {table first count : Nat} (h0 : fieldAt body 0 1 = table)
    (h1 : fieldAt body 1 2 = first) (h3 : fieldAt body 3 2 = count) (nonempty : count ≠ 0)
    (begins : inTable table first = true) (ends : inTable table (first + count - 1) = true) :
    listRequest body s =
      (s.withLink { s.link with
        listing := ((List.range count).filter fun k => s.usedEntry table (first + k)).head?.map fun k =>
          { table := table, next := first + k, last := first + count - 1 } }, .ok,
        beBytes 2 ((List.range count).filter fun k => s.usedEntry table (first + k)).length) := by
  subst h0 h1 h3
  unfold listRequest
  dsimp only
  rw [if_neg (by simp [nonempty, begins, ends]), nextUsed_eq_head s _ _ nonempty, Option.map_map]
  rfl

theorem exec_list {body : List Byte} {status : Status} {fields : List Byte} (hs : slotFree s) (length : body.length = 5)
    (h : listRequest body (taken s) = (t, status, fields)) :
    exec (.list body) s = .next (answered 0x07 status fields t).finish :=
  frameCommand_answered (kind := 0x07) hs rfl rfl (by rw [length]; rfl) (by decide) (by decide) h

/-! ## ERASE -/

theorem exec_erase {body : List Byte} {status : Status} (hs : slotFree s) (hn : s.store.saving = none)
    (length : body.length = 3) (h : eraseRequest body (taken s) = (t, status, [])) :
    exec (.erase body) s = .next (answered 0x06 status [] t).finish :=
  frameCommand_answered_of_notSaving (kind := 0x06) hs hn rfl (by rw [length]; rfl) (by decide) (by decide) h

theorem eraseRequest_eq (table hi lo : Byte) (s : State) :
    eraseRequest [table, hi, lo] s =
      if inTable table.toNat (hi.toNat * 256 + lo.toNat) then plain (eraseEntry table.toNat (hi.toNat * 256 + lo.toNat) s)
      else (s, .range, []) := by
  obtain ⟨number, index⟩ := fieldAt_index table hi lo []
  unfold eraseRequest
  rw [number, index]

theorem eraseRequest_named {table hi lo : Byte} {n i : Nat} (ht : table.toNat = n) (hx : hi.toNat * 256 + lo.toNat = i)
    (named : inTable n i = true) : eraseRequest [table, hi, lo] s = plain (eraseEntry n i s) := by
  subst ht hx
  rw [eraseRequest_eq, if_pos named]

theorem sceneIndex (i : Fin 16) : (0 : Byte).toNat * 256 + (byte i).toNat = i ∧ inTable 7 i = true := by
  revert i
  decide

/-- Settles O16: LIST's answer is read off its request with the used entries' filter, ERASE's off the table's own erase. -/
theorem listAndErase : Obligations.ListAndErase := by
  unfold Obligations.ListAndErase
  refine ⟨fun table fh fl nh nl s hs => ?list, ⟨fun table hi lo s hs hn outside => ?outside, fun i s hs hn => ?scene⟩,
    fun table hi lo s hs hn => ?named, fun i s => ?tables⟩
  case list =>
    intro first count used
    obtain ⟨number, index⟩ := fieldAt_index table fh fl [nh, nl]
    have many := fieldAt_count table fh fl nh nl
    exact ⟨fun refused => exec_list hs rfl (listRequest_refused number index many refused),
      fun nonempty begins ends => exec_list hs rfl (listRequest_of_range number index many nonempty begins ends)⟩
  case outside =>
    exact exec_erase hs hn rfl ((eraseRequest_eq ..).trans (if_neg (by rw [outside]; decide)))
  case scene =>
    obtain ⟨index, named⟩ := sceneIndex i
    exact exec_erase hs hn rfl (eraseRequest_named rfl index named)
  case named =>
    intro i r named
    exact exec_erase hs hn rfl (eraseRequest_named rfl rfl named)
  case tables =>
    exact ⟨rfl, rfl, rfl, rfl, rfl, rfl, rfl, rfl, rfl, rfl, rfl, rfl, rfl, rfl, rfl, rfl⟩

end Sys2Proof.Proofs
end

section
/-! SUPPORT. The rules of a circuit's operations, one per branch, and the timers of a circuit (R135-R138). -/
namespace Sys2Proof.Proofs

open Sys2Proof.Machine Sys2Proof.Claims

variable {s t : State} {c : Nat}

/-! ## Notices of a circuit (R144) -/

/-- The FLOOD notice after a circuit's fields are written carries those fields. -/
theorem floodNotice_setCircuit (s : State) (c : Nat) (w : Circuit) (old : CircuitState) (cause : FloodCause) (units : Nat) :
    (s.setCircuit c w).floodNotice c old cause units =
      (s.setCircuit c w).notify (.flood c old w.state cause w.demand w.source (w.output (s.circuitRec c).kind) units) := by
  unfold State.floodNotice
  dsimp only
  rw [State.circuit_setCircuit_self]
  rfl

theorem changeCircuit_of_same {w : Circuit} (h : (s.circuit c).state = w.state) (cause : FloodCause) (units : Nat) :
    s.changeCircuit c w cause units = s.setCircuit c w := if_pos h

theorem circuit_of_lamps (h : lamps t = lamps s) : t.circuit c = s.circuit c := by
  unfold State.circuit
  rw [show t.floods.circuits = s.floods.circuits from congrArg Prod.fst h]

/-! ## The end of warm-up and of the restrike time (R137) -/

theorem warmUpEnd_of_warming {instant : Nat} (warming : (s.circuit c).state = .warming)
    (timer : (s.circuit c).timer = some instant) : warmUpEnd c s = (s.runTo instant).warmed c := by
  unfold warmUpEnd
  rw [warming, timer]

theorem warmed_eq (warming : (s.circuit c).state = .warming) :
    s.warmed c = ((s.setCircuit c { s.circuit c with state := .on, timer := none }).notify
      (.flood c .warming .on .warmed (s.circuit c).demand (s.circuit c).source
        (({ s.circuit c with state := .on, timer := none } : Circuit).output (s.circuitRec c).kind)
        (s.held (.flood c) - ((s.circuitRec c).surge - (s.circuitRec c).rated)))).release (.flood c)
          ((s.circuitRec c).surge - (s.circuitRec c).rated) := by
  unfold State.warmed
  dsimp only
  rw [changeCircuit_of_change (by rw [warming]; exact nofun), warming]

theorem restrikeEnd_of_demand {instant : Nat} (ready : s.ready = true) (cools : (s.circuit c).state = .cooling)
    (timer : (s.circuit c).timer = some instant) (demand : 1 ≤ (s.circuit c).demand) (mains : s.mainsNormal = true) :
    restrikeEnd c s = (s.runTo instant).strike c .restrikeEnd := by
  unfold restrikeEnd
  rw [cools, timer]
  dsimp only
  rw [State.ready_runTo, ready, State.circuit_runTo, State.mainsNormal_runTo, if_neg (by decide), if_pos ⟨demand, mains⟩]

theorem restrikeEnd_of_idle {instant : Nat} (ready : s.ready = true) (cools : (s.circuit c).state = .cooling)
    (timer : (s.circuit c).timer = some instant) (idle : (s.circuit c).demand = 0 ∨ s.mainsNormal = false) :
    restrikeEnd c s = (s.runTo instant).moveCircuit c { (s.runTo instant).circuit c with state := .off, timer := none }
      .restrikeEnd := by
  have still : ¬(1 ≤ (s.circuit c).demand ∧ s.mainsNormal = true) := by
    rintro ⟨demand, mains⟩
    rcases idle with none_ | reserve
    · omega
    · rw [mains] at reserve; cases reserve
  unfold restrikeEnd
  rw [cools, timer]
  dsimp only
  rw [State.ready_runTo, ready, State.circuit_runTo, State.mainsNormal_runTo, if_neg (by decide), if_neg still]

theorem overrideExpiry_of_expiry {level instant : Nat}
    (h : (s.circuit c).override = some { level := level, expiry := some instant }) :
    overrideExpiry c s = ((s.runTo instant).setCircuit c { (s.runTo instant).circuit c with override := none }).post
      (.judgeCircuits [c] .demand) := by
  unfold overrideExpiry
  rw [h]

/-! ## A fade step (R138) -/

/-- The level one percent nearer the target. -/
def nextLevel (w : Circuit) : Nat := if w.level < w.target then w.level + 1 else w.level - 1

/-- A circuit at a level on its way to its target, its fade timer begun afresh unless it is there. -/
def steppedTo (t : State) (c level : Nat) : State :=
  t.setCircuit c { t.circuit c with
    level := level, fade := if level = (t.circuit c).target then none else some (t.now + (t.circuitRec c).stepTime) }

/-- A level is written with no fade timer, and the fade runs on from there. -/
theorem runFade_setCircuit (t : State) (c level : Nat) :
    (t.setCircuit c { t.circuit c with level := level, fade := none }).runFade c = steppedTo t c level := by
  unfold State.runFade
  dsimp only
  rw [State.circuit_setCircuit_self, State.setCircuit_setCircuit]
  rfl

theorem fadeStep_of_fade {instant : Nat} (kind : (s.circuitRec c).kind = .dimmed) (on : (s.circuit c).state = .on)
    (fade : (s.circuit c).fade = some instant) :
    fadeStep c s =
      if nextLevel (s.circuit c) = 0 ∧ (s.circuit c).target = 0 then
        ((s.runTo instant).setCircuit c { s.circuit c with level := nextLevel (s.circuit c), fade := none }).darken c .fadedOut
      else if nextLevel (s.circuit c) < (s.circuit c).level then
        (steppedTo (s.runTo instant) c (nextLevel (s.circuit c))).release (.flood c)
          (s.held (.flood c) - (s.circuitRec c).unitsAt (nextLevel (s.circuit c)))
      else steppedTo (s.runTo instant) c (nextLevel (s.circuit c)) := by
  rw [← runFade_setCircuit]
  unfold fadeStep
  rw [kind, on, fade]
  rfl

theorem fadeStep_of_rise {instant : Nat} (kind : (s.circuitRec c).kind = .dimmed) (on : (s.circuit c).state = .on)
    (fade : (s.circuit c).fade = some instant) (rises : (s.circuit c).level < (s.circuit c).target) :
    fadeStep c s = steppedTo (s.runTo instant) c ((s.circuit c).level + 1) := by
  have next : nextLevel (s.circuit c) = (s.circuit c).level + 1 := if_pos rises
  rw [fadeStep_of_fade kind on fade, next, if_neg (by omega), if_neg (by omega)]

theorem fadeStep_of_fall {instant : Nat} (kind : (s.circuitRec c).kind = .dimmed) (on : (s.circuit c).state = .on)
    (fade : (s.circuit c).fade = some instant) (falls : (s.circuit c).target < (s.circuit c).level)
    (high : (s.circuit c).level ≠ 1) :
    fadeStep c s = (steppedTo (s.runTo instant) c ((s.circuit c).level - 1)).release (.flood c)
      (s.held (.flood c) - (s.circuitRec c).unitsAt ((s.circuit c).level - 1)) := by
  have next : nextLevel (s.circuit c) = (s.circuit c).level - 1 := if_neg (by omega)
  rw [fadeStep_of_fade kind on fade, next, if_neg (by omega), if_pos (by omega)]

theorem fadeStep_of_last {instant : Nat} (kind : (s.circuitRec c).kind = .dimmed) (on : (s.circuit c).state = .on)
    (fade : (s.circuit c).fade = some instant) (dark : (s.circuit c).target = 0) (last : (s.circuit c).level = 1) :
    fadeStep c s = ((s.runTo instant).setCircuit c { s.circuit c with level := 0, fade := none }).darken c .fadedOut := by
  have next : nextLevel (s.circuit c) = 0 := by rw [nextLevel, if_neg (by omega), last]
  rw [fadeStep_of_fade kind on fade, next, if_pos ⟨rfl, dark⟩]

theorem circuit_darken (s : State) (c : Nat) (cause : FloodCause) :
    (s.darken c cause).circuit c = { s.circuit c with state := .off, level := 0, target := 0, fade := none } := by
  rw [circuit_of_lamps (lamps_darken s c cause), State.circuit_setCircuit_self]

/-- Settles O51: each timer's command is the rule of its end. -/
theorem circuitTimers : Obligations.CircuitTimers := by
  unfold Obligations.CircuitTimers
  refine ⟨fun c s instant ready => ⟨?warmUp, ?restrike, ?override⟩,
    fun c s instant ready kind on fade => ⟨?rise, ?fall, ?last⟩⟩
  case warmUp =>
    intro warming timer
    exact exec_of_ready rfl ready ((warmUpEnd_of_warming warming timer).trans (warmed_eq (s := s.runTo instant) warming))
  case restrike =>
    intro cools timer
    have running := State.running_of_ready ready
    exact ⟨fun demand mains => exec_of_running rfl running
        (restrikeEnd_of_demand ready cools timer demand mains),
      fun idle => exec_of_running rfl running
        (restrikeEnd_of_idle ready cools timer idle)⟩
  case override =>
    intro level expires
    exact exec_of_ready rfl ready (overrideExpiry_of_expiry expires)
  case rise =>
    intro rises
    exact exec_of_ready rfl ready (fadeStep_of_rise kind on fade rises)
  case fall =>
    intro falls high
    exact exec_of_ready rfl ready (fadeStep_of_fall kind on fade falls high)
  case last =>
    intro dark last
    exact ⟨_, exec_of_ready rfl ready (fadeStep_of_last kind on fade dark last), by rw [circuit_darken],
      by rw [circuit_darken]⟩

end Sys2Proof.Proofs
end

section
/-! SUPPORT. The shed timer, the shed signal at the circuits, and a DIMMED circuit's new target (R139-R141, R164). -/
namespace Sys2Proof.Proofs

open Sys2Proof.Machine Sys2Proof.Claims

variable {s t : State} {c target : Nat} {cause : FloodCause}

/-! ## A shed timer's expiry (R164) -/

/-- The waiting list with a claimant's shed timer stopped. -/
def unshedding (c : Claimant) (l : List SupplyRequest) : List SupplyRequest :=
  l.map fun q => if q.claimant = c then { q with shedAt := none } else q

theorem shedTimerExpiry_of_gone {k : Claimant} (gone : ∀ r ∈ s.supply.waiting, r.claimant ≠ k) :
    shedTimerExpiry k s = s := by
  have absent : s.supply.waiting.find? (fun r => r.claimant = k) = none := by
    simpa only [List.find?_eq_none, decide_eq_true_eq] using gone
  unfold shedTimerExpiry
  rw [absent]

section
variable {k : Claimant} {r : SupplyRequest} {instant : Nat}

theorem oversize_iff (found : s.supply.waiting.find? (fun r => r.claimant = k) = some r) :
    oversize s.tables.supply.budget s.supply.grants r = true ↔ s.tables.supply.budget < r.units + s.held k := by
  have own : r.claimant = k := by simpa only [decide_eq_true_eq] using List.find?_some found
  unfold oversize
  rw [own, decide_eq_true_iff]
  rfl

/-- What the timer's end comes to: the timer stops, and the signal is set where it is clear and the request can be met. -/
theorem shedTimerExpiry_of_timer (found : s.supply.waiting.find? (fun r => r.claimant = k) = some r)
    (timer : r.shedAt = some instant) :
    shedTimerExpiry k s =
      if s.supply.shed || oversize s.tables.supply.budget s.supply.grants r then
        (s.runTo instant).withSupply { (s.runTo instant).supply with waiting := unshedding k s.supply.waiting }
      else
        let u := (s.runTo instant).withSupply
          { (s.runTo instant).supply with waiting := unshedding k s.supply.waiting, shed := true }
        (u.notify (u.supplyNotice .shedSet none)).post .shedSet := by
  unfold shedTimerExpiry
  rw [found]
  dsimp only
  rw [timer]
  rfl

end

/-! ## Circuits one by one (R144) -/

/-- From an empty agenda the circuits act one by one, and their notices go first. -/
theorem eachCircuit_of_empty (h : s.agenda = []) (l : List Nat) (f : Nat → State → State) :
    s.eachCircuit l f = (s.each l fun c u => (f c u).takeOwnGrants c).withAgenda
      ((s.each l fun c u => (f c u).takeOwnGrants c).agenda.filter Msg.isNotice ++
        (s.each l fun c u => (f c u).takeOwnGrants c).agenda.filter fun m => !m.isNotice) := by
  have emptied : s.withAgenda [] = s := by rw [← h]; rfl
  unfold State.eachCircuit
  dsimp only
  rw [emptied, h, List.nil_append]

/-! ## A mark set and cleared (R140, R141) -/

theorem markShed_of_drop (kind : (s.circuitRec c).kind = .dimmed) (drops : (s.circuitRec c).shed < (s.circuit c).level) :
    s.markShed c = (s.setCircuit c
        { s.circuit c with shed := true, level := (s.circuitRec c).shed, fade := none }).notify
      (.flood c (s.circuit c).state (s.circuit c).state .shed (s.circuit c).demand (s.circuit c).source (s.circuitRec c).shed
        (min (s.held (.flood c)) ((s.circuitRec c).unitsAt (s.circuitRec c).shed))) := by
  unfold State.markShed
  dsimp only
  rw [decide_eq_true drops, if_pos rfl, if_pos rfl, if_pos rfl, floodNotice_setCircuit, kind]
  rfl

theorem markShed_of_low (kind : (s.circuitRec c).kind = .dimmed) (low : (s.circuit c).level ≤ (s.circuitRec c).shed) :
    s.markShed c = (s.setCircuit c { s.circuit c with shed := true }).notify
      (.flood c (s.circuit c).state (s.circuit c).state .shed (s.circuit c).demand (s.circuit c).source (s.circuit c).level
        (s.held (.flood c))) := by
  unfold State.markShed
  dsimp only
  rw [decide_eq_false (Nat.not_lt.mpr low), if_neg (by decide), if_neg (by decide), if_neg (by decide),
    floodNotice_setCircuit, kind]
  rfl

theorem unmarkShed_of_dimmed (kind : (s.circuitRec c).kind = .dimmed) :
    s.unmarkShed c = (s.setCircuit c { s.circuit c with shed := false }).notify
      (.flood c (s.circuit c).state (s.circuit c).state .restored (s.circuit c).demand (s.circuit c).source
        (s.circuit c).level (s.held (.flood c))) := by
  unfold State.unmarkShed
  rw [floodNotice_setCircuit, kind]
  rfl

theorem cap_of_drop (unmarked : (s.circuit c).shed = false) (drops : (s.circuitRec c).shed < (s.circuit c).level) :
    s.cap c cause = ((s.markShed c).release (.flood c)
      (s.held (.flood c) - (s.circuitRec c).unitsAt (s.circuitRec c).shed)).retarget c (s.circuitRec c).shed cause := by
  unfold State.cap State.dropToShed
  dsimp only
  rw [unmarked, if_neg (by decide), if_pos drops]

theorem cap_of_low (unmarked : (s.circuit c).shed = false) (low : (s.circuit c).level ≤ (s.circuitRec c).shed) :
    s.cap c cause = (s.markShed c).retarget c (s.circuitRec c).shed cause := by
  unfold State.cap
  dsimp only
  rw [unmarked, if_neg (by decide), if_neg (Nat.not_lt.mpr low)]

theorem cap_of_marked (marked : (s.circuit c).shed = true) : s.cap c cause = s.retarget c (s.circuitRec c).shed cause := by
  unfold State.cap
  dsimp only
  rw [if_pos marked]

theorem uncap_of_dimmed (kind : (s.circuitRec c).kind = .dimmed) :
    s.uncap c =
      if s.mainsNormal then (s.unmarkShed c).retarget c (s.circuit c).demand .restored else s.unmarkShed c := by
  have demand : ((s.unmarkShed c).circuit c).demand = (s.circuit c).demand := by rw [circuit_unmarkShed]
  have stillDimmed : ((s.unmarkShed c).circuitRec c).kind = .dimmed := kind
  unfold State.uncap
  dsimp only
  rw [demand, decide_eq_true stillDimmed, Bool.and_true]
  rfl

/-! ## A DIMMED circuit acts on its demand (R139, R140) -/

theorem sheds_iff (kind : (s.circuitRec c).kind = .dimmed) :
    s.sheds c = true ↔ (s.circuitRec c).sheddable = true ∧ (s.circuitRec c).shed < (s.circuit c).demand := by
  simp only [State.sheds, kind, decide_true, Bool.true_and, Bool.and_eq_true, decide_eq_true_eq]

theorem actDimmed_of_capped (seen : s.floods.shedSeen = true) (sheds : s.sheds c = true) :
    s.actDimmed c cause = s.cap c cause := by
  unfold State.actDimmed
  dsimp only
  rw [if_pos (by rw [seen, sheds]; rfl)]

theorem actDimmed_of_free (free : s.floods.shedSeen = false ∨ s.sheds c = false) :
    s.actDimmed c cause =
      (if (s.circuit c).shed then s.unmarkShed c else s).retarget c (s.circuit c).demand cause := by
  unfold State.actDimmed
  dsimp only
  rw [if_neg (by rcases free with h | h <;> rw [h] <;> simp)]

/-! ## A new target (R139) -/

theorem moveCircuit_supply (s : State) (c : Nat) (w : Circuit) (cause : FloodCause) :
    (s.moveCircuit c w cause).supply = s.supply := by
  unfold State.moveCircuit State.changeCircuit
  dsimp only
  split <;> rfl

theorem seek_moveCircuit (w : Circuit) (units : Nat) :
    (s.moveCircuit c w cause).seek c units =
      if s.requested c = some units then s.moveCircuit c w cause else (s.moveCircuit c w cause).request (.flood c) units := by
  have asks : (s.moveCircuit c w cause).requested c = s.requested c := by
    unfold State.requested
    rw [moveCircuit_supply]
  unfold State.seek
  rw [asks]

/-- The circuit that waits for the units a target asks for. -/
def aimed (w : Circuit) (target : Nat) : Circuit :=
  { w with target := target, fade := none, state := if w.state = .off then .waiting else w.state }

/-- A circuit that waits from now on says so; one that waits, warms or is ON says nothing. -/
theorem moveCircuit_aimed (kind : (s.circuitRec c).kind = .dimmed) :
    s.moveCircuit c (aimed (s.circuit c) target) cause =
      if (s.circuit c).state = .off then
        (s.setCircuit c (aimed (s.circuit c) target)).notify (.flood c .off .waiting cause (s.circuit c).demand
          (s.circuit c).source (s.circuit c).level (s.held (.flood c)))
      else s.setCircuit c (aimed (s.circuit c) target) := by
  unfold State.moveCircuit
  by_cases off : (s.circuit c).state = .off
  · have waits : (aimed (s.circuit c) target).state = .waiting := if_pos off
    rw [if_pos off, changeCircuit_of_change (by rw [off, waits]; exact nofun), off, waits, kind]
    rfl
  · have same : (aimed (s.circuit c) target).state = (s.circuit c).state := if_neg off
    rw [if_neg off, changeCircuit_of_same same.symm]

theorem retarget_of_lack (lacks : s.held (.flood c) < (s.circuitRec c).unitsAt target) :
    s.retarget c target cause = (s.moveCircuit c (aimed (s.circuit c) target) cause).seek c
      ((s.circuitRec c).unitsAt target - s.held (.flood c)) := if_pos lacks

theorem retarget_of_dark (enough : (s.circuitRec c).unitsAt target ≤ s.held (.flood c)) (zero : target = 0)
    (dark : (s.circuit c).state ≠ .on ∨ (s.circuit c).level = 0) : s.retarget c target cause = s.darken c cause :=
  (if_neg (Nat.not_lt.mpr enough)).trans (if_pos ⟨zero, dark⟩)

/-- A circuit fades toward a target it has the units for. -/
theorem retarget_of_fade (enough : (s.circuitRec c).unitsAt target ≤ s.held (.flood c))
    (lit : ¬(target = 0 ∧ ((s.circuit c).state ≠ .on ∨ (s.circuit c).level = 0))) :
    s.retarget c target cause =
      if (s.circuit c).level ≤ target then
        (((s.setCircuit c { s.circuit c with target := target }).withdraw (.flood c)).runFade c).release (.flood c)
          (s.held (.flood c) - (s.circuitRec c).unitsAt target)
      else ((s.setCircuit c { s.circuit c with target := target }).withdraw (.flood c)).runFade c :=
  (if_neg (Nat.not_lt.mpr enough)).trans (if_neg lit)

theorem darken_of_dimmed (kind : (s.circuitRec c).kind = .dimmed) :
    s.darken c cause =
      ((if (s.circuit c).state = .off then
          s.setCircuit c { s.circuit c with state := .off, level := 0, target := 0, fade := none }
        else (s.setCircuit c { s.circuit c with state := .off, level := 0, target := 0, fade := none }).notify
          (.flood c (s.circuit c).state .off cause (s.circuit c).demand (s.circuit c).source 0 0)).withdraw
            (.flood c)).releaseAll (.flood c) := by
  unfold State.darken State.giveUp
  by_cases off : (s.circuit c).state = .off
  · rw [if_pos off, changeCircuit_of_same off]
  · rw [if_neg off, changeCircuit_of_change off, kind]
    rfl

/-- Settles O55: the timer's two ends, the order of the circuits, and of one DIMMED circuit each branch of its rules. -/
theorem shedSignal : Obligations.ShedSignal := by
  unfold Obligations.ShedSignal
  refine ⟨fun k s ready => ⟨?gone, fun r instant found timer => ?timer⟩, fun s => ?signal, fun s l f empty => ?each,
    fun s c cause kind => ?dimmed⟩
  case gone =>
    intro gone
    exact exec_of_ready rfl ready (shedTimerExpiry_of_gone gone)
  case timer =>
    have expires := shedTimerExpiry_of_timer found timer
    refine ⟨fun stands => ?_, fun clear fits => ?_⟩
    · refine exec_of_ready rfl ready (expires.trans (if_pos ?_))
      rw [Bool.or_eq_true, oversize_iff found]
      exact stands
    · refine exec_of_ready rfl ready (expires.trans (if_neg ?_))
      rw [Bool.or_eq_true, oversize_iff found, clear]
      rintro (set | big)
      · cases set
      · exact absurd big (Nat.not_lt.mpr fits)
  case signal =>
    intro due
    refine ⟨?_, rfl⟩
    have marks (c : Nat) : (s.sheds c && !(s.circuit c).shed) = decide (due c) := by
      rw [Bool.eq_iff_iff]
      simp only [State.sheds, due, Bool.and_eq_true, Bool.not_eq_true', decide_eq_true_eq, and_assoc]
    unfold shedSet
    exact congrArg (fun l => State.eachCircuit _ l _) (List.filter_congr fun c _ => marks c)
  case each =>
    intro notice own t
    have ownGrants : own = Msg.grantOf := by
      funext c m
      cases m with
      | granted claimant units => cases claimant <;> rfl
      | _ => rfl
    have notices : notice = Msg.isNotice := by
      funext m
      cases m <;> rfl
    rw [eachCircuit_of_empty empty, notices]
    unfold t
    rw [ownGrants]
    rfl
  case dimmed =>
    intro r w held unitsAt dropped marked unmarked
    have cleared := unmarkShed_of_dimmed kind
    refine ⟨fun free drops => ?_, fun free low => ?_, cap_of_marked, ?_, fun seen sheddable exceeds => ?_, fun free => ?_,
      fun target => ⟨fun lacks => ?_, fun enough zero dark => ?_, fun enough lit => ?_⟩, rfl⟩
    · rw [cap_of_drop free drops, markShed_of_drop kind drops]
      rfl
    · rw [cap_of_low free low, markShed_of_low kind low]
    · rw [uncap_of_dimmed kind, cleared]
    · exact actDimmed_of_capped seen ((sheds_iff kind).mpr ⟨sheddable, exceeds⟩)
    · rw [actDimmed_of_free, cleared]
      refine free.imp_right fun spared => ?_
      rw [Bool.eq_false_iff, Ne, sheds_iff kind]
      rintro ⟨sheddable, exceeds⟩
      rcases spared with no | low
      · exact absurd (sheddable.symm.trans no) (by decide)
      · exact absurd exceeds (Nat.not_lt.mpr low)
    · have asks := (retarget_of_lack (cause := cause) lacks).trans (seek_moveCircuit ..)
      rw [moveCircuit_aimed kind] at asks
      exact ⟨fun waits => asks.trans (if_pos waits), fun asked => asks.trans (if_neg asked)⟩
    · rw [retarget_of_dark enough zero dark, darken_of_dimmed kind]
    · have fades := retarget_of_fade (cause := cause) enough lit
      exact ⟨fun rises => fades.trans (if_pos rises), fun falls => fades.trans (if_neg (Nat.not_le.mpr falls))⟩

end Sys2Proof.Proofs
end

section
/-! SUPPORT. Scenes, overrides and demand (R131, R133-R137). -/
namespace Sys2Proof.Proofs

open Sys2Proof.Machine Sys2Proof.Claims

variable {s t : State} {c : Nat} {cause : FloodCause} {status : Status}

/-! ## Scene levels written (R133) -/

/-- What is seen of an object stays as it is where the objects of the list are others. -/
theorem view_each_of_not_mem {V : Type} (view : Nat → State → V) {f : Nat → State → State}
    (apart : ∀ i j t, i ≠ j → view j (f i t) = view j t) {l : List Nat} {i : Nat} (h : i ∉ l) (s : State) :
    view i (s.each l f) = view i s := by
  induction l generalizing s with
  | nil => rfl
  | cons j l ih =>
    obtain ⟨other, rest⟩ := List.ne_and_not_mem_of_not_mem_cons h
    exact (ih rest (f j s)).trans (apart j i s other.symm)

/-- Circuits written one by one touch the table of circuits alone. -/
theorem each_setCircuit_circuits (l : List Nat) (v : Nat → State → Circuit) (s : State) :
    ∃ circuits, (s.each l fun c t => t.setCircuit c (v c t)) = s.withFloods { s.floods with circuits := circuits } :=
  each_keeps (P := fun t => ∃ circuits, t = s.withFloods { s.floods with circuits := circuits })
    (by rintro i t ⟨circuits, rfl⟩; exact ⟨_, rfl⟩) l ⟨s.floods.circuits, rfl⟩

/-- The circuits whose scene level a scene's levels change. -/
def changedBy (s : State) (levels : List (Option Nat)) : List Nat :=
  circuitNumbers.filter fun c => (levels.getD c none).any fun l => l ≠ (s.circuit c).sceneLevel

/-- The scene levels written where they change. -/
def relevelled (s : State) (levels : List (Option Nat)) : State :=
  s.each (changedBy s levels) fun c t => t.setCircuit c { t.circuit c with sceneLevel := (levels.getD c none).getD 0 }

theorem writeLevels_eq (s : State) (levels : List (Option Nat)) (last : Option Nat) :
    s.writeLevels levels last =
      ((relevelled s levels).withFloods { (relevelled s levels).floods with lastScene := last }).post
        (.judgeCircuits (changedBy s levels) .demand) := rfl

theorem circuit_relevelled (hc : c < 12) (s : State) (levels : List (Option Nat)) :
    (relevelled s levels).circuit c =
      { s.circuit c with sceneLevel := (levels.getD c none).getD (s.circuit c).sceneLevel } := by
  have apart (i j : Nat) (t : State) (w : Circuit) (other : i ≠ j) : (t.setCircuit i w).circuit j = t.circuit j :=
    (State.circuit_setCircuit ..).trans (if_neg other)
  have member : c ∈ changedBy s levels ↔ ∃ l, levels.getD c none = some l ∧ l ≠ (s.circuit c).sceneLevel := by
    simp only [changedBy, circuitNumbers, List.mem_filter, List.mem_range, hc, true_and, Option.any_eq_true,
      decide_eq_true_eq]
  by_cases changes : c ∈ changedBy s levels
  · obtain ⟨l, named, -⟩ := member.mp changes
    obtain ⟨t, seen, acts⟩ := view_each (fun c t => t.circuit c)
      (f := fun c t => t.setCircuit c { t.circuit c with sceneLevel := (levels.getD c none).getD 0 })
      (fun i j t => apart i j t _) (List.nodup_range.filter _) changes s
    refine Eq.trans acts ?_
    rw [State.circuit_setCircuit_self, seen, named]
    rfl
  · have same : (relevelled s levels).circuit c = s.circuit c :=
      view_each_of_not_mem (fun c t => t.circuit c) (fun i j t => apart i j t _) changes s
    have level : (levels.getD c none).getD (s.circuit c).sceneLevel = (s.circuit c).sceneLevel := by
      cases named : levels.getD c none with
      | none => rfl
      | some l => exact not_not.mp fun differs => changes (member.mpr ⟨l, named, differs⟩)
    rw [same, level]

/-- A state takes a scene's levels: the changed circuits wait to be judged, and nothing else has changed. -/
def TakesLevels (s t : State) (levels : List (Option Nat)) (last : Option Nat) : Prop :=
  t.floods.lastScene = last ∧ t.floods.shedSeen = s.floods.shedSeen ∧
    (∀ c < 12, t.circuit c = { s.circuit c with sceneLevel := (levels.getD c none).getD (s.circuit c).sceneLevel }) ∧
    t.agenda = s.agenda ++ [.judgeCircuits (changedBy s levels) .demand] ∧
    t.tables = s.tables ∧ t.supply = s.supply ∧ t.dials = s.dials ∧ t.time = s.time

theorem takesLevels_writeLevels (s : State) (levels : List (Option Nat)) (last : Option Nat) :
    TakesLevels s (s.writeLevels levels last) levels last := by
  obtain ⟨circuits, touched⟩ := each_setCircuit_circuits (changedBy s levels)
    (fun c t => { t.circuit c with sceneLevel := (levels.getD c none).getD 0 }) s
  have levelled : relevelled s levels = s.withFloods { s.floods with circuits := circuits } := touched
  have fields (c : Nat) (hc : c < 12) := circuit_relevelled hc s levels
  rw [writeLevels_eq]
  rw [levelled] at fields ⊢
  exact ⟨rfl, rfl, fields, rfl, rfl, rfl, rfl, rfl⟩

theorem activateScene_of_unused {i : Nat} (unused : (s.sceneRec i).used = false) : activateScene i s = (s, .noEntry) :=
  if_neg (by rw [unused]; decide)

theorem activateScene_of_used {i : Nat} (used : (s.sceneRec i).used = true) :
    activateScene i s = (s.writeLevels (s.sceneRec i).levels (some i), .ok) := if_pos used

/-! ## The requests SCENE and OVERRIDE (R133, R135, R194) -/

theorem exec_scene {i : Byte} (hs : slotFree s) (h : sceneBody [i.toNat] (taken s) = (t, status, [])) :
    exec (.scene [i]) s = .next (answered 0x30 status [] t).finish :=
  frameCommand_answered (kind := 0x30) hs rfl rfl rfl (by decide) (by decide)
    ((fields_of_unpack (unpack_oneByte i) _).trans h)

theorem sceneBody_of_scene {i : Nat} (hi : i < 16) (h : activateScene i s = (t, status)) :
    sceneBody [i] s = (t, status, []) := (if_pos hi).trans (congrArg plain h)

theorem unpack_override (named : Fin 2) (c level dh dl : Byte) :
    unpack [.bits 1, .bytes 1, .bytes 1, .bytes 2] [byte named, c, level, dh, dl] =
      some [named.val, c.toNat, level.toNat, dh.toNat * 256 + dl.toNat] := by
  rw [← beNat_one c, ← beNat_one level, ← beNat_two dh dl]
  fin_cases named <;> rfl

theorem exec_override {named : Fin 2} {c level dh dl : Byte} (hs : slotFree s)
    (h : overrideBody [named.val, c.toNat, level.toNat, dh.toNat * 256 + dl.toNat] (taken s) = (t, status, [])) :
    exec (.override [byte named, c, level, dh, dl]) s = .next (answered 0x31 status [] t).finish :=
  frameCommand_answered (kind := 0x31) hs rfl rfl rfl (by decide) (by decide)
    ((fields_of_unpack (unpack_override named c level dh dl) _).trans h)

/-- The level an OVERRIDE names: none for a RELEASE. -/
def namedLevel (named : Fin 2) (level : Nat) : Option Nat := if named = 1 then none else some level

/-- The fields of an OVERRIDE are in range. -/
def goodOverride (named : Fin 2) (c level duration : Nat) : Prop :=
  c < 12 ∧ duration ≤ 1440 ∧ if named = 1 then level = 0 else level ≤ 100

theorem readAlt_override (named : Fin 2) (level : Nat) :
    readAlt named level (level ≤ 100) =
      if (if named = 1 then level = 0 else level ≤ 100) then some (namedLevel named level) else none := by
  unfold readAlt namedLevel
  fin_cases named <;> simp

section
variable {named : Fin 2} {level duration : Nat}

theorem overrideBody_of_outside (bad : ¬goodOverride named c level duration) :
    overrideBody [named.val, c, level, duration] s = (s, .range, []) := by
  unfold overrideBody
  dsimp only
  rw [readAlt_override]
  by_cases levelGood : if named = 1 then level = 0 else level ≤ 100
  · rw [if_pos levelGood]
    refine if_neg fun inside => bad ?_
    simp only [Bool.and_eq_true, decide_eq_true_eq] at inside
    exact ⟨inside.1, inside.2, levelGood⟩
  · rw [if_neg levelGood]

theorem overrideBody_of_good (good : goodOverride named c level duration)
    (h : overrideRequest c (namedLevel named level) duration s = (t, status)) :
    overrideBody [named.val, c, level, duration] s = (t, status, []) := by
  obtain ⟨circuit, minutes, levelGood⟩ := good
  have inside : (decide (c < 12) && decide (duration ≤ 1440)) = true := by
    rw [decide_eq_true circuit, decide_eq_true minutes]; rfl
  unfold overrideBody
  dsimp only
  rw [readAlt_override, if_pos levelGood]
  exact (if_pos inside).trans (congrArg plain h)

end

theorem overrideRequest_of_unused {level : Option Nat} {duration : Nat} (unused : (s.circuitRec c).inUse = false) :
    overrideRequest c level duration s = (s, .noEntry) := if_pos (by rw [unused]; rfl)

theorem overrideRequest_of_used {level : Option Nat} {duration : Nat} (used : (s.circuitRec c).inUse = true) :
    overrideRequest c level duration s =
      ((s.setCircuit c { s.circuit c with override := level.map fun l =>
          { level := l, expiry := if duration = 0 then none else some (s.now + duration * 60000) } }).post
            (.judgeCircuits [c] .demand), .ok) := if_neg (by rw [used]; decide)

/-! ## Demand (R131) -/

theorem demandOf_of_unused (unused : (s.circuitRec c).inUse = false) : (s.demandOf c).1 = 0 := if_neg (by rw [unused]; decide)

theorem demandOf_of_access (used : (s.circuitRec c).inUse = true) (lights : (s.circuitRec c).accessLight = true)
    (active : s.power.access = .active) : s.demandOf c = (100, .access) := by
  unfold State.demandOf
  dsimp only
  rw [if_pos used, if_pos ⟨lights, active⟩]

/-- Without access lighting a circuit's demand is its own. -/
theorem not_accessLit (own : (s.circuitRec c).accessLight = false ∨ s.power.access = .clear) :
    ¬((s.circuitRec c).accessLight = true ∧ s.power.access = .active) := by
  rintro ⟨lights, active⟩
  rcases own with no | clear
  · rw [lights] at no; cases no
  · rw [active] at clear; cases clear

theorem demandOf_of_override {o : Override} (used : (s.circuitRec c).inUse = true)
    (own : (s.circuitRec c).accessLight = false ∨ s.power.access = .clear) (overridden : (s.circuit c).override = some o) :
    s.demandOf c = (o.level, .override) := by
  unfold State.demandOf
  dsimp only
  rw [if_pos used, if_neg (not_accessLit own), overridden]

theorem demandOf_of_scene (used : (s.circuitRec c).inUse = true)
    (own : (s.circuitRec c).accessLight = false ∨ s.power.access = .clear) (free : (s.circuit c).override = none) :
    s.demandOf c = ((s.circuit c).sceneLevel, .scene) := by
  unfold State.demandOf
  dsimp only
  rw [if_pos used, if_neg (not_accessLit own), free]

theorem judgeCircuits_eq (l : List Nat) (cause : FloodCause) (s : State) :
    judgeCircuits l cause s =
      if s.mainsNormal then (s.each l fun c t => t.takeDemand c).eachCircuit l fun c t => t.actCircuit c cause
      else s.each l fun c t => t.takeDemand c := by
  have mains : (s.each l fun c t => t.takeDemand c).mainsNormal = s.mainsNormal :=
    each_keeps (P := fun t => t.mainsNormal = s.mainsNormal) (f := fun c t => t.takeDemand c) (fun _ _ h => h) l rfl
  rw [← mains]
  rfl

/-! ## A SWITCHED circuit acts on its demand (R136, R137) -/

theorem actCircuit_of_dimmed (kind : (s.circuitRec c).kind = .dimmed) : s.actCircuit c cause = s.actDimmed c cause := by
  unfold State.actCircuit
  rw [kind]

theorem actCircuit_of_switched (kind : (s.circuitRec c).kind = .switched) :
    s.actCircuit c cause = (if (s.circuit c).shed then s.unmarkShed c else s).actSwitched c cause := by
  unfold State.actCircuit
  rw [kind]

theorem unmarkShed_of_switched (kind : (s.circuitRec c).kind = .switched) :
    s.unmarkShed c = (s.setCircuit c { s.circuit c with shed := false }).notify
      (.flood c (s.circuit c).state (s.circuit c).state .restored (s.circuit c).demand (s.circuit c).source
        ((s.circuit c).output .switched) (s.held (.flood c))) := by
  unfold State.unmarkShed
  rw [floodNotice_setCircuit, kind]
  rfl

theorem actSwitched_of_off (off : (s.circuit c).state = .off) (demand : 1 ≤ (s.circuit c).demand) :
    s.actSwitched c cause = s.strike c cause := by
  unfold State.actSwitched
  dsimp only
  rw [off, decide_eq_true demand]

theorem actSwitched_of_waiting (waits : (s.circuit c).state = .waiting) (demand : (s.circuit c).demand = 0) :
    s.actSwitched c cause = (s.changeCircuit c { s.circuit c with state := .off } cause 0).withdraw (.flood c) := by
  unfold State.actSwitched
  dsimp only
  rw [waits, demand]
  rfl

theorem actSwitched_of_lit (lit : (s.circuit c).state = .warming ∨ (s.circuit c).state = .on)
    (demand : (s.circuit c).demand = 0) : s.actSwitched c cause = s.cool c cause := by
  unfold State.actSwitched
  dsimp only
  rcases lit with e | e <;> rw [e, demand] <;> rfl

theorem actSwitched_of_still (still : (s.circuit c).state = .off ∧ (s.circuit c).demand = 0 ∨
    ((s.circuit c).state = .waiting ∨ (s.circuit c).state = .warming ∨ (s.circuit c).state = .on) ∧ 1 ≤ (s.circuit c).demand ∨
    (s.circuit c).state = .cooling) : s.actSwitched c cause = s := by
  unfold State.actSwitched
  dsimp only
  rcases still with ⟨off, none_⟩ | ⟨acts, demand⟩ | cools
  · rw [off, none_]; rfl
  · rw [decide_eq_true demand]
    rcases acts with e | e | e <;> rw [e]
  · rw [cools]

/-! ## The fallback scene (R134) -/

/-- What falling back comes to: nothing where no used scene is set, else its levels. -/
theorem fallBack_cases (s : State) :
    (s.tables.light.fallback = none → s.fallBack = s) ∧
      ∀ i, s.tables.light.fallback = some i →
        ((s.sceneRec i).used = false → s.fallBack = s) ∧
        ((s.sceneRec i).used = true → TakesLevels s s.fallBack (s.sceneRec i).levels (some i)) := by
  unfold State.fallBack
  refine ⟨fun unset => by rw [unset], fun i set => ?_⟩
  rw [set]
  dsimp only
  refine ⟨fun unused => by rw [activateScene_of_unused unused], fun used => ?_⟩
  rw [activateScene_of_used used]
  exact takesLevels_writeLevels ..

theorem transitionFloods_of_set {state : LightState} (set : s.time.state ≠ .unset) : transitionFloods state s = s := if_pos set

theorem transitionFloods_of_unset (unset : s.time.state = .unset) :
    transitionFloods .dark s = s.fallBack ∧ transitionFloods .light s = s.clearLevels ∧ transitionFloods .unknown s = s :=
  ⟨if_neg (not_not_intro unset), if_neg (not_not_intro unset), if_neg (not_not_intro unset)⟩

/-- Settles O50: the requests' answers, the demand by its sources, and each branch of a SWITCHED circuit's act; what scene
levels written come to is said once (`TakesLevels`). -/
theorem scenesAndDemand : Obligations.ScenesAndDemand := by
  unfold Obligations.ScenesAndDemand
  refine ⟨⟨fun i s hs => ⟨fun outside => ?sceneRange, fun inside unused => ?sceneUnused, fun inside used => ?scene⟩,
    fun named c level dh dl s hs => ?override⟩, fun s c => ?demand,
    fun s l cause => judgeCircuits_eq l cause s, fun s c cause => ?act, fun s => ?fallback⟩
  case sceneRange => exact exec_scene hs (if_neg (Nat.not_lt.mpr outside))
  case sceneUnused => exact exec_scene hs (sceneBody_of_scene inside (activateScene_of_unused (s := taken s) unused))
  case scene =>
    obtain ⟨last, -, circuits, agenda, -⟩ := takesLevels_writeLevels (taken s) (s.sceneRec i.toNat).levels (some i.toNat)
    exact ⟨_, exec_scene hs (sceneBody_of_scene inside (activateScene_of_used (s := taken s) used)), last, agenda,
      fun c hc => congrArg Circuit.sceneLevel (circuits c hc)⟩
  case override =>
    intro duration answer good
    have isGood : good ↔ goodOverride named c.toNat level.toNat duration := by
      have zero : level = 0 ↔ level.toNat = 0 := BitVec.toNat_inj.symm
      unfold good goodOverride
      split
      · rw [zero]
      · rfl
    refine ⟨fun bad => exec_override hs (overrideBody_of_outside (mt isGood.mpr bad)), fun inside unused => ?_,
      fun inside used => ?_⟩
    · exact exec_override hs (overrideBody_of_good (isGood.mp inside) (overrideRequest_of_unused (s := taken s) unused))
    · intro o
      have own : (namedLevel named level.toNat).map (fun l =>
          Override.mk l (if duration = 0 then none else some (s.now + duration * 60000))) = o := by
        unfold namedLevel o
        by_cases released : named = 1
        · rw [if_pos released, if_pos released]; rfl
        · rw [if_neg released, if_neg released]; rfl
      rw [← own]
      exact exec_override hs (overrideBody_of_good (isGood.mp inside) (overrideRequest_of_used (s := taken s) used))
  case demand =>
    exact ⟨demandOf_of_unused, fun used => ⟨demandOf_of_access used, fun own =>
      ⟨fun o => demandOf_of_override used own, demandOf_of_scene used own⟩⟩⟩
  case act =>
    intro r w moved unshed
    refine ⟨actCircuit_of_dimmed, fun kind => ?_⟩
    have moves (new : Circuit) (units : Nat) (differs : w.state ≠ new.state) (demand : new.demand = w.demand)
        (source : new.source = w.source) : s.changeCircuit c new cause units = moved new units := by
      rw [changeCircuit_of_change differs, kind, demand, source]
    refine ⟨?_, fun off demand => ?_, fun waits demand => ?_, fun lit demand => ?_, actSwitched_of_still⟩
    · rw [actCircuit_of_switched kind, unmarkShed_of_switched kind]
    · refine (actSwitched_of_off off demand).trans
        (congrArg (State.request · (.flood c) r.surge) (moves _ _ ?_ (by rfl) (by rfl)))
      rw [off]; exact nofun
    · refine (actSwitched_of_waiting waits demand).trans
        (congrArg (State.withdraw · (.flood c)) (moves _ _ ?_ (by rfl) (by rfl)))
      rw [waits]; exact nofun
    · refine (actSwitched_of_lit lit demand).trans
        (congrArg (State.releaseAll · (.flood c)) (moves _ _ ?_ (by rfl) (by rfl)))
      rcases lit with e | e <;> rw [e] <;> exact nofun
  case fallback =>
    intro takes falls cleared
    have clears : cleared s.clearLevels := takesLevels_writeLevels ..
    refine ⟨fun unset => ?_, fun state set => transitionFloods_of_set set, fun dark => ?_, fun notDark => ?_⟩
    · obtain ⟨isDark, isLight, isUnknown⟩ := transitionFloods_of_unset unset
      rw [isDark, isLight]
      exact ⟨fallBack_cases s, clears, isUnknown⟩
    · rw [unsetFloods, if_pos dark]; exact fallBack_cases s
    · rw [unsetFloods, if_neg notDark]; exact clears

end Sys2Proof.Proofs
end

section
/-! SUPPORT. The light monitor: its window, its sensor fault and its decisions (R151-R155). -/
namespace Sys2Proof.Proofs

open Sys2Proof.Machine Sys2Proof.Claims

variable {s : State} {l : Light} {r average : Nat}

/-! ## PUT of the LIGHT group (R155) -/

theorem newLightSettings_of_same {new : LightSettings} (h : s.tables.light.dusk = new.dusk ∧
    s.tables.light.dawn = new.dawn ∧ s.tables.light.confirm = new.confirm) :
    s.newLightSettings new = s.withTables { s.tables with light := new } := if_pos h

theorem newLightSettings_of_change {new : LightSettings} (h : ¬(s.tables.light.dusk = new.dusk ∧
    s.tables.light.dawn = new.dawn ∧ s.tables.light.confirm = new.confirm)) :
    s.newLightSettings new =
      (s.withTables { s.tables with light := new }).withLight { s.light with darkRun := 0, lightRun := 0 } := if_neg h

/-! ## A good reading (R152) -/

theorem decide_and_not_iff {p : Prop} [Decidable p] {b : Bool} : (decide p && !b) = true ↔ p ∧ b = false := by simp

/-- The next good reading is the sixth in a row under the sensor fault. -/
def restores (l : Light) : Bool := l.fault && decide (min 6 (l.goodRun + 1) = 6)

theorem restores_iff : restores l = true ↔ l.fault = true ∧ min 6 (l.goodRun + 1) = 6 := by simp [restores]

/-- A good reading in the window and in the runs of readings. -/
def goodRead (r : Nat) (l : Light) : Light :=
  { l with
    reading := some r, outRun := 0, goodRun := min 6 (l.goodRun + 1), window := enterWindow l.window r
    fault := l.fault && !restores l }

theorem fault_goodRead (r : Nat) (l : Light) :
    (goodRead r l).fault = if l.fault = true ∧ min 6 (l.goodRun + 1) = 6 then false else l.fault := by
  by_cases h : l.fault = true ∧ min 6 (l.goodRun + 1) = 6
  · rw [if_pos h]
    show (l.fault && !restores l) = false
    rw [restores_iff.mpr h]
    exact Bool.and_false _
  · rw [if_neg h]
    show (l.fault && !restores l) = l.fault
    rw [Bool.eq_false_iff.mpr (mt restores_iff.mp h)]
    exact Bool.and_true _

/-- What the average of the window makes of the light state and its runs (R152, R153). -/
def decided (s : State) (l : Light) : LightState × Nat × Nat := decideLight s.tables.light l (l.window.sum / 6)

/-- The light monitor as the average of its window leaves it. -/
def averaged (s : State) (l : Light) : Light :=
  { l with
    average := some (l.window.sum / 6), state := (decided s l).1, darkRun := (decided s l).2.1
    lightRun := (decided s l).2.2 }

theorem goodLight_of_partWindow (h : (enterWindow s.light.window r).length ≠ 6) :
    goodLight r s = s.withLight (goodRead r s.light) := if_pos h

/-- The average of a full window: a transition is handed on before the notice (log 16), which a change of the state and the
fault's end bring (R154). -/
theorem goodLight_of_fullWindow (h : (enterWindow s.light.window r).length = 6) :
    let l := goodRead r s.light
    let new := (decided s l).1
    let t := (s.withLight (averaged s l)).lightTransition s.light.state new
    goodLight r s =
      if s.light.state = new ∧ restores s.light = false then t
      else t.notify (.light s.light.state new
        (if restores s.light then .sensorRestored else if s.light.state = .unknown then .decided else .confirmed)
        (some (l.window.sum / 6)) l.fault) :=
  (if_neg (not_not_intro h)).trans (if_congr decide_and_not_iff rfl rfl)

/-! ## An out-of-range reading (R152) -/

theorem outLight_of_fault (h : s.light.fault = true) :
    outLight r s = s.withLight { s.light with reading := some r, goodRun := 0, window := [], average := none } := if_pos h

theorem outLight_of_few (h : s.light.fault = false) (few : s.light.outRun < 2) :
    outLight r s = s.withLight { s.light with reading := some r, goodRun := 0, outRun := s.light.outRun + 1 } :=
  (if_neg (by rw [h]; decide)).trans (if_pos (Nat.succ_lt_succ few))

theorem outLight_of_third (h : s.light.fault = false) (third : 2 ≤ s.light.outRun) :
    outLight r s = (((s.withLight { s.light with
      reading := some r, goodRun := 0, fault := true, newMark := true, window := [], average := none, state := .unknown
      darkRun := 0, lightRun := 0, outRun := 0 }).lightTransition s.light.state .unknown).notify
        (.light s.light.state .unknown .sensorFault none true)).notify (.faultLight r s.light.state) :=
  (if_neg (by rw [h]; decide)).trans (if_neg (Nat.not_lt.mpr (Nat.succ_le_succ third)))

/-! ## The light state (R153) -/

theorem decideLight_of_unknown {t : LightSettings} (h : l.state = .unknown) :
    decideLight t l average = (if average ≤ (t.dusk + t.dawn) / 2 then .dark else .light, 0, 0) := by
  unfold decideLight
  rw [h]

theorem decideLight_of_light {t : LightSettings} (h : l.state = .light) :
    decideLight t l average =
      if average ≤ t.dusk then if t.confirm ≤ l.darkRun + 1 then (.dark, 0, 0) else (.light, l.darkRun + 1, l.lightRun)
      else (.light, 0, l.lightRun) := by
  unfold decideLight
  rw [h]

theorem decideLight_of_dark {t : LightSettings} (h : l.state = .dark) :
    decideLight t l average =
      if t.dawn ≤ average then if t.confirm ≤ l.lightRun + 1 then (.light, 0, 0) else (.dark, l.darkRun, l.lightRun + 1)
      else (.dark, l.darkRun, 0) := by
  unfold decideLight
  rw [h]

/-- Settles O53: a reading by its window and its runs, an average by the state it meets, a PUT by what it changes. -/
theorem lightReadings : Obligations.LightReadings := by
  unfold Obligations.LightReadings
  refine ⟨fun new s => ⟨newLightSettings_of_same, newLightSettings_of_change⟩, fun r s => ?good, fun r s => ?out,
    fun t l average => ?state⟩
  case good =>
    intro l window run restored read
    have isRead : read = goodRead r l := by
      show { goodRead r l with fault := if restored then false else l.fault } = goodRead r l
      rw [← fault_goodRead]
    rw [isRead]
    refine ⟨goodLight_of_partWindow, fun full => ?_⟩
    intro average d t told
    have result := goodLight_of_fullWindow full
    refine ⟨fun same stands => ?_, fun restored => ?_, fun differs stands => ?_⟩
    · have stays : restores l = false := Bool.eq_false_iff.mpr (mt restores_iff.mp stands)
      exact (result.trans (if_pos ⟨same, stays⟩)).trans (if_pos same)
    · have ends : restores l = true := restores_iff.mpr restored
      rw [result, if_neg (by rw [ends]; simp), if_pos ends, fault_goodRead, if_pos restored]
      rfl
    · rw [result, if_neg (fun quiet => differs quiet.1), if_neg (mt restores_iff.mp stands), fault_goodRead, if_neg stands]
      rfl
  case out => exact ⟨outLight_of_fault, outLight_of_few, outLight_of_third⟩
  case state =>
    refine ⟨decideLight_of_unknown, fun light => ?_, fun dark => ?_⟩
    · rw [decideLight_of_light light]
      exact ⟨fun past confirmed => by rw [if_pos past, if_pos confirmed],
        fun past few => by rw [if_pos past, if_neg (Nat.not_le.mpr few)], fun above => if_neg (Nat.not_le.mpr above)⟩
    · rw [decideLight_of_dark dark]
      exact ⟨fun past confirmed => by rw [if_pos past, if_pos confirmed],
        fun past few => by rw [if_pos past, if_neg (Nat.not_le.mpr few)], fun below => if_neg (Nat.not_le.mpr below)⟩

end Sys2Proof.Proofs
end

section
/-! SUPPORT. A mains loss turns no output on, and turns off what is driven (R169). -/
namespace Sys2Proof.Proofs

open Sys2Proof.Machine Sys2Proof.Claims

variable {s t v : State} {b u d c : Nat}

/-- No time passes, and no output that is off comes on: of each kind for itself, whatever becomes of the other kinds. -/
structure DrivesNoMore (s t : State) : Prop where
  time : t.time = s.time
  hammers : ∀ b, (s.bell b).hammer.pulses = false → (t.bell b).hammer.pulses = false
  drives : ∀ u, (s.unit u).drive.impulsing = false → (t.unit u).drive.impulsing = false
  dials : ∀ d, (s.dial d).drive.impulsing = false → (t.dial d).drive.impulsing = false
  circuits : ∀ c, (s.circuit c).state.lit = false → (t.circuit c).state.lit = false

theorem DrivesNoMore.refl (s : State) : DrivesNoMore s s := ⟨rfl, fun _ h => h, fun _ h => h, fun _ h => h, fun _ h => h⟩

theorem DrivesNoMore.trans (h : DrivesNoMore s t) (k : DrivesNoMore t v) : DrivesNoMore s v where
  time := k.time.trans h.time
  hammers b off := k.hammers b (h.hammers b off)
  drives u off := k.drives u (h.drives u off)
  dials d off := k.dials d (h.dials d off)
  circuits c off := k.circuits c (h.circuits c off)

/-! ## The state's own operations -/

theorem drivesNoMore_withAgenda (h : DrivesNoMore s t) (l : List Msg) : DrivesNoMore s (t.withAgenda l) :=
  ⟨h.time, h.hammers, h.drives, h.dials, h.circuits⟩

theorem drivesNoMore_post (h : DrivesNoMore s t) (m : Msg) : DrivesNoMore s (t.post m) := drivesNoMore_withAgenda h _

theorem drivesNoMore_postAll (h : DrivesNoMore s t) (l : List Msg) : DrivesNoMore s (t.postAll l) :=
  drivesNoMore_withAgenda h _

theorem drivesNoMore_notify (h : DrivesNoMore s t) (n : NoticeBody) : DrivesNoMore s (t.notify n) :=
  drivesNoMore_post h _

theorem drivesNoMore_withChime (h : DrivesNoMore s t) (w : Chime) : DrivesNoMore s (t.withChime w) :=
  ⟨h.time, h.hammers, h.drives, h.dials, h.circuits⟩

theorem drivesNoMore_withRun (h : DrivesNoMore s t) (w : PealRun) : DrivesNoMore s (t.withRun w) :=
  ⟨h.time, h.hammers, h.drives, h.dials, h.circuits⟩

theorem drivesNoMore_withLight (h : DrivesNoMore s t) (w : Light) : DrivesNoMore s (t.withLight w) :=
  ⟨h.time, h.hammers, h.drives, h.dials, h.circuits⟩

theorem drivesNoMore_withConverter (h : DrivesNoMore s t) (w : Converter) : DrivesNoMore s (t.withConverter w) :=
  ⟨h.time, h.hammers, h.drives, h.dials, h.circuits⟩

theorem drivesNoMore_withSupply (h : DrivesNoMore s t) (w : Supply) : DrivesNoMore s (t.withSupply w) :=
  ⟨h.time, h.hammers, h.drives, h.dials, h.circuits⟩

theorem drivesNoMore_arbitrates (h : DrivesNoMore s t) (k : Arbitrates t v) : DrivesNoMore s v := by
  rw [k.eq]
  exact drivesNoMore_withAgenda (drivesNoMore_withSupply h _) _

theorem drivesNoMore_setBell (h : DrivesNoMore s t) {w : Bell}
    (off : (t.bell b).hammer.pulses = false → w.hammer.pulses = false) : DrivesNoMore s (t.setBell b w) := by
  refine ⟨h.time, fun j before => ?_, h.drives, h.dials, h.circuits⟩
  rw [State.bell_setBell]
  split
  · subst j; exact off (h.hammers b before)
  · exact h.hammers j before

theorem drivesNoMore_setUnit (h : DrivesNoMore s t) {w : SwingUnit}
    (off : (t.unit u).drive.impulsing = false → w.drive.impulsing = false) : DrivesNoMore s (t.setUnit u w) := by
  refine ⟨h.time, h.hammers, fun j before => ?_, h.dials, h.circuits⟩
  rw [State.unit_setUnit]
  split
  · subst j; exact off (h.drives u before)
  · exact h.drives j before

theorem drivesNoMore_setDial (h : DrivesNoMore s t) {w : Dial}
    (off : (t.dial d).drive.impulsing = false → w.drive.impulsing = false) : DrivesNoMore s (t.setDial d w) := by
  refine ⟨h.time, h.hammers, h.drives, fun j before => ?_, h.circuits⟩
  rw [State.dial_setDial]
  split
  · subst j; exact off (h.dials d before)
  · exact h.dials j before

theorem drivesNoMore_setCircuit (h : DrivesNoMore s t) {w : Circuit}
    (off : (t.circuit c).state.lit = false → w.state.lit = false) : DrivesNoMore s (t.setCircuit c w) := by
  refine ⟨h.time, h.hammers, h.drives, h.dials, fun j before => ?_⟩
  rw [State.circuit_setCircuit]
  split
  · subst j; exact off (h.circuits c before)
  · exact h.circuits j before

theorem drivesNoMore_each (h : DrivesNoMore s t) {f : Nat → State → State}
    (acts : ∀ i v, DrivesNoMore s v → DrivesNoMore s (f i v)) (l : List Nat) : DrivesNoMore s (t.each l f) :=
  each_keeps (P := DrivesNoMore s) acts l h

/-! ## The hammers and the player (R61, R89) -/

theorem drivesNoMore_answerRefused (h : DrivesNoMore s t) (b : Nat) (r : Refused) :
    DrivesNoMore s (t.answerRefused b r) := by
  obtain ⟨chime, e⟩ := answerRefused_eq_withChime t b r
  rw [e]
  exact drivesNoMore_withChime h _

theorem drivesNoMore_refuseHeld (h : DrivesNoMore s t) (b : Nat) (r : Refused) : DrivesNoMore s (t.refuseHeld b r) := by
  cases held : (t.bell b).held with
  | none => rw [refuseHeld_of_none held]; exact h
  | some blow =>
    rw [refuseHeld_of_held held]
    exact drivesNoMore_answerRefused (drivesNoMore_setBell h (by exact id)) b r

theorem drivesNoMore_pulseOver (h : DrivesNoMore s t) (b : Nat) : DrivesNoMore s (t.pulseOver b) := by
  have recovers : DrivesNoMore s
      ((t.setBell b { t.bell b with hammer := .recovery (t.now + (t.bellRec b).recovery) }).discardStale b) :=
    drivesNoMore_withConverter (drivesNoMore_setBell h fun _ => rfl) _
  unfold State.pulseOver
  dsimp only
  split
  · exact drivesNoMore_post (drivesNoMore_post recovers _) _
  · exact recovers

theorem drivesNoMore_lossHammer (h : DrivesNoMore s t) (b : Nat) : DrivesNoMore s (lossHammer b t) := by
  have refused := drivesNoMore_refuseHeld h b .reserve
  unfold lossHammer
  dsimp only
  split
  · exact drivesNoMore_pulseOver refused b
  · exact drivesNoMore_answerRefused (drivesNoMore_setBell refused fun _ => rfl) b _
  · exact refused

theorem drivesNoMore_lossBells (h : DrivesNoMore s t) : DrivesNoMore s (lossBells t) :=
  drivesNoMore_postAll (drivesNoMore_each h (fun b _ k => drivesNoMore_lossHammer k b) _) _

theorem drivesNoMore_abortPlaying (h : DrivesNoMore s t) (reason : EndReason) (id : Option Nat) :
    DrivesNoMore s (abortPlaying reason id t) := by
  cases playing : t.chime.playing with
  | none => rw [abortPlaying_of_idle playing]; exact h
  | some pl =>
    rw [abortPlaying_of_playing playing, endPlaying_of_playing playing]
    split
    · exact h
    · exact drivesNoMore_post (drivesNoMore_post (drivesNoMore_withChime h _) _) _

/-! ## The swing units and the run (R106, R112) -/

theorem drivesNoMore_cutDrive (h : DrivesNoMore s t) (u : Nat) : DrivesNoMore s (t.cutDrive u) := by
  have idle : DrivesNoMore s (t.setUnit u { t.unit u with drive := .idle }) := drivesNoMore_setUnit h fun _ => rfl
  cases drive : (t.unit u).drive with
  | idle => rw [cutDrive_of_idle drive]; exact h
  | waiting dir window braking =>
    rw [cutDrive_of_waiting drive]
    exact drivesNoMore_arbitrates idle (arbitrates_withdraw (.refl _) _)
  | impulse dir ends =>
    rw [cutDrive_of_impulse drive]
    exact drivesNoMore_arbitrates idle (arbitrates_releaseAll (.refl _) _)

theorem drivesNoMore_stopUnit (h : DrivesNoMore s t) (u : Nat) (kind : LowKind) (cause : UnitCause) :
    DrivesNoMore s (t.stopUnit u kind cause) := by
  cases rings : (t.unit u).rings with
  | false => rw [stopUnit_of_still rings]; exact h
  | true =>
    rw [stopUnit_of_rings rings, lowerUnit_eq]
    exact drivesNoMore_notify (drivesNoMore_setUnit (drivesNoMore_cutDrive h u) (by exact id)) _

theorem drivesNoMore_cancelStart (h : DrivesNoMore s t) (u : Nat) (reason : FailReason) :
    DrivesNoMore s (t.cancelStart u reason) := by
  rcases cancelStart_cases t u reason with same | ⟨b, bound, pending, starts⟩
  · rw [same]; exact h
  · rw [cancelStart_of_pending starts bound pending]
    exact drivesNoMore_notify (drivesNoMore_setUnit (drivesNoMore_setBell h (by exact id)) (by exact id)) _

theorem drivesNoMore_lossUnit (h : DrivesNoMore s t) (u : Nat) : DrivesNoMore s (lossUnit u t) := by
  have idle : DrivesNoMore s (t.setUnit u { t.unit u with drive := .idle }) := drivesNoMore_setUnit h fun _ => rfl
  unfold lossUnit
  dsimp only
  split
  · exact drivesNoMore_setUnit idle (by exact id)
  · exact drivesNoMore_cancelStart (drivesNoMore_stopUnit idle u _ _) u _

theorem drivesNoMore_lossSwing (h : DrivesNoMore s t) : DrivesNoMore s (lossSwing t) :=
  drivesNoMore_each h (fun u _ k => drivesNoMore_lossUnit k u) _

theorem drivesNoMore_takeStopSteps (h : DrivesNoMore s t) : DrivesNoMore s t.takeStopSteps :=
  drivesNoMore_each (drivesNoMore_withRun h _)
    (fun u _ k => drivesNoMore_cancelStart (drivesNoMore_stopUnit k u _ _) u _) _

theorem drivesNoMore_settleRun (h : DrivesNoMore s t) : DrivesNoMore s t.settleRun := by
  have moves {v : State} (k : DrivesNoMore s v) (r : PealRun) (cause : RunCause) : DrivesNoMore s (v.moveRun r cause) :=
    drivesNoMore_notify (drivesNoMore_withRun k r) _
  unfold State.settleRun State.finishRun
  split
  · split
    · exact moves h _ _
    · exact h
  · split
    · exact moves (moves h _ _) _ _
    · exact h
  · exact h

theorem drivesNoMore_lossRun (h : DrivesNoMore s t) : DrivesNoMore s (lossRun t) := by
  have stops : DrivesNoMore s (t.stopRun .reserve 0) :=
    drivesNoMore_settleRun (drivesNoMore_notify (drivesNoMore_takeStopSteps (drivesNoMore_withRun h _)) _)
  unfold lossRun State.hurryRun
  split
  · exact h
  · exact drivesNoMore_settleRun (drivesNoMore_takeStopSteps h)
  · exact stops

/-! ## The dials and the circuits (R121, R142) -/

theorem drivesNoMore_moveDial (h : DrivesNoMore s t) (d : Nat) (new : DialState) (cause : DialCause) :
    DrivesNoMore s (t.moveDial d new cause) := by
  unfold State.moveDial
  dsimp only
  split
  · exact h
  · exact drivesNoMore_notify (drivesNoMore_setDial h (by exact id)) _

theorem drivesNoMore_lossDial (h : DrivesNoMore s t) (d : Nat) : DrivesNoMore s (lossDial d t) := by
  have idle : DrivesNoMore s (t.setDial d { t.dial d with drive := .idle }) := drivesNoMore_setDial h fun _ => rfl
  unfold lossDial
  dsimp only
  split
  · exact drivesNoMore_moveDial idle d _ _
  · exact idle

theorem drivesNoMore_lossDials (h : DrivesNoMore s t) : DrivesNoMore s (lossDials t) :=
  drivesNoMore_each h (fun d _ k => drivesNoMore_lossDial k d) _

theorem drivesNoMore_unmarkShed (h : DrivesNoMore s t) (c : Nat) : DrivesNoMore s (t.unmarkShed c) :=
  drivesNoMore_notify (drivesNoMore_setCircuit h (by exact id)) _

theorem drivesNoMore_lossCircuit (h : DrivesNoMore s t) (c : Nat) : DrivesNoMore s (lossCircuit c t) := by
  have darkens {v : State} (k : DrivesNoMore s v) {w : Circuit} (dark : w.state.lit = false) (n : NoticeBody) :
      DrivesNoMore s ((v.setCircuit c w).notify n) :=
    drivesNoMore_notify (drivesNoMore_setCircuit k fun _ => dark) n
  have unmarked : DrivesNoMore s (if (t.circuit c).shed then t.unmarkShed c else t) := by
    split
    · exact drivesNoMore_unmarkShed h c
    · exact h
  unfold lossCircuit
  dsimp only
  split
  · exact darkens h rfl _
  · exact darkens h rfl _
  · exact darkens h rfl _
  · exact darkens unmarked rfl _
  · exact darkens unmarked rfl _
  · exact darkens unmarked rfl _
  · exact h

theorem drivesNoMore_lossFloods (h : DrivesNoMore s t) : DrivesNoMore s (lossFloods t) :=
  drivesNoMore_each h (fun c _ k => drivesNoMore_lossCircuit k c) _

/-! ## The arbiter, the converter and the light monitor (R150, R151, R165) -/

theorem supplyLoss_arbitrates (t : State) : Arbitrates t (supplyLoss t) := by
  unfold supplyLoss
  dsimp only
  split
  · exact arbitrates_post (arbitrates_notify (arbitrates_withSupply (.refl t) _) _) _
  · exact arbitrates_withSupply (.refl t) _

theorem supplyLoss_supply (t : State) : (supplyLoss t).supply = { grants := [], waiting := [], shed := false } := by
  unfold supplyLoss
  dsimp only
  split <;> rfl

theorem drivesNoMore_supplyLoss (h : DrivesNoMore s t) : DrivesNoMore s (supplyLoss t) :=
  drivesNoMore_arbitrates h (supplyLoss_arbitrates t)

/-! ## What each block turns off (R61, R106, R121, R142) -/

theorem pulses_cutOff (now recovery : Nat) (h : Hammer) : (cutOff now recovery h).pulses = false := by
  cases h <;> rfl

theorem pulses_lossBells (s : State) (hb : b < 16) : ((lossBells s).bell b).hammer.pulses = false := by
  rw [bell_lossBells hb]
  exact pulses_cutOff _ _ _

theorem impulsing_lossSwing (s : State) (hu : u < 6) : ((lossSwing s).unit u).drive.impulsing = false := by
  have idle : ((lossSwing s).unit u).drive = .idle := by
    by_cases lowers : (s.unit u).state = .lowering
    · rw [lossSwing_of_lowering hu lowers]
    · exact (stopped_lossSwing hu lowers).drive
  rw [idle]
  rfl

theorem impulsing_lossDials (s : State) (hd : d < 4) : ((lossDials s).dial d).drive.impulsing = false := by
  rw [dial_lossDials hd]
  rfl

theorem lit_lossCircuit (c : Nat) (t : State) : ((lossCircuit c t).circuit c).state.lit = false := by
  have dark (v : State) {w : Circuit} (off : w.state.lit = false) (n : NoticeBody) :
      (((v.setCircuit c w).notify n).circuit c).state.lit = false := by
    rw [State.circuit_notify, State.circuit_setCircuit_self]
    exact off
  unfold lossCircuit
  dsimp only
  split
  · exact dark t rfl _
  · exact dark t rfl _
  · exact dark t rfl _
  · exact dark _ rfl _
  · exact dark _ rfl _
  · exact dark _ rfl _
  · rename_i lampWarms lampOn _ _ dimmerWarms dimmerOn
    cases state : (t.circuit c).state with
    | off | waiting | cooling => rfl
    | warming =>
      cases kind : (t.circuitRec c).kind with
      | switched => exact (lampWarms kind state).elim
      | dimmed => exact (dimmerWarms kind state).elim
    | on =>
      cases kind : (t.circuitRec c).kind with
      | switched => exact (lampOn kind state).elim
      | dimmed => exact (dimmerOn kind state).elim

theorem lit_lossFloods (s : State) (hc : c < 12) : ((lossFloods s).circuit c).state.lit = false := by
  obtain ⟨t, -, -, -, acts⟩ := circuit_lossFloods hc s
  rw [acts]
  exact lit_lossCircuit c t

/-- At a mains loss each block turns its own outputs off, and the blocks after it turn none of them on. -/
theorem drivesNoMore_dark_loseMains (s : State) : DrivesNoMore s s.loseMains ∧ s.loseMains.dark := by
  let bells := lossBells s
  let swing := lossSwing (abortPlaying .reserve none bells)
  let dials := lossDials (lossRun swing)
  let floods := lossFloods dials
  have last {t : State} (h : DrivesNoMore t floods) : DrivesNoMore t s.loseMains :=
    drivesNoMore_withLight (drivesNoMore_withConverter (drivesNoMore_supplyLoss h) _) _
  have afterDials {t : State} (h : DrivesNoMore t dials) : DrivesNoMore t s.loseMains := last (drivesNoMore_lossFloods h)
  have afterSwing {t : State} (h : DrivesNoMore t swing) : DrivesNoMore t s.loseMains :=
    afterDials (drivesNoMore_lossDials (drivesNoMore_lossRun h))
  have afterBells {t : State} (h : DrivesNoMore t bells) : DrivesNoMore t s.loseMains :=
    afterSwing (drivesNoMore_lossSwing (drivesNoMore_abortPlaying h _ _))
  exact ⟨afterBells (drivesNoMore_lossBells (.refl s)),
    fun b hb => (afterBells (.refl _)).hammers b (pulses_lossBells s hb),
    fun u hu => (afterSwing (.refl _)).drives u (impulsing_lossSwing _ hu),
    fun d hd => (afterDials (.refl _)).dials d (impulsing_lossDials _ hd),
    fun c hc => (last (.refl _)).circuits c (lit_lossFloods _ hc)⟩

theorem supply_loseMains (s : State) : s.loseMains.supply = { grants := [], waiting := [], shed := false } := by
  unfold State.loseMains lightLoss converterLoss
  rw [State.withLight_supply, State.withConverter_supply, supplyLoss_supply]

end Sys2Proof.Proofs
end

section
/-! SUPPORT. The power monitor's lines and timers in READY (R168, R170, R171). -/
namespace Sys2Proof.Proofs

open Sys2Proof.Machine Sys2Proof.Claims

variable {s t : State} {mains : Mains} {settle : Option Nat} {instant : Nat}

/-! ## The mains line and its settle timer (R168) -/

theorem whenRunning_ready (h : s.ready = true) (f : State → State) : s.whenRunning f = f s :=
  if_pos (State.running_of_ready h)

/-- From NORMAL a change of the mains state is reported before the blocks take the loss (log 31). -/
theorem setMains_of_loss (h : s.ready = true) (normal : s.power.mains = .normal) :
    s.setMains mains settle = ((s.withPower { s.power with mains := mains, settle := settle }).notify
      (.mains .normal mains s.now)).loseMains := by
  unfold State.setMains
  dsimp only
  rw [h, normal]
  rfl

theorem setMains_of_return {old : Mains} (h : s.ready = true) (was : s.power.mains = old) (down : old ≠ .normal) :
    s.setMains .normal settle = ((s.withPower { s.power with mains := .normal, settle := settle }).notify
      (.mains old .normal s.now)).postAll returnMessages := by
  unfold State.setMains
  dsimp only
  rw [h, was, if_neg down]
  rfl

theorem setMains_of_down {old : Mains} (h : s.ready = true) (was : s.power.mains = old) (down : old ≠ .normal)
    (still : mains ≠ .normal) :
    s.setMains mains settle = (s.withPower { s.power with mains := mains, settle := settle }).notify
      (.mains old mains s.now) := by
  unfold State.setMains
  dsimp only
  rw [h, was, if_neg down, if_neg still]
  rfl

/-- A command of a line, its effect being known. -/
theorem exec_of_line {i : Instr} {f : State → State} (hi : exec i s = .next (f s).finish) (hf : f s = t) :
    exec i s = .next t.finish := by rw [hi, hf]

/-- A command of a timer that runs in READY, its effect being known. -/
theorem exec_of_timer {i : Instr} {f : State → State} (hi : exec i s = .next (command f s)) (hr : s.ready = true)
    (hf : f s = t) : exec i s = .next t.finish := by rw [hi, command_running (State.running_of_ready hr), hf]

theorem mainsLineAbsent_ready (h : s.ready = true) :
    mainsLineAbsent s =
      if s.power.mains = .reserve then s.withPower { s.power with linePresent := false }
      else (s.withPower { s.power with linePresent := false }).setMains .reserve none :=
  whenRunning_ready (s := s.withPower { s.power with linePresent := false }) h
    fun t => if t.power.mains = .reserve then t else t.setMains .reserve none

theorem mainsLinePresent_ready (h : s.ready = true) :
    mainsLinePresent s =
      if s.power.mains = .reserve then
        (s.withPower { s.power with linePresent := true }).setMains .returning (some (s.now + 2000))
      else s.withPower { s.power with linePresent := true } :=
  whenRunning_ready (s := s.withPower { s.power with linePresent := true }) h
    fun t => if t.power.mains = .reserve then t.setMains .returning (some (t.now + 2000)) else t

theorem mainsSettleExpiry_ready (h : s.ready = true) (due : s.power.settle = some instant) :
    mainsSettleExpiry s = (s.runTo instant).setMains .normal none := by
  unfold mainsSettleExpiry
  rw [whenRunning_ready h, due]

/-! ## The access and key switches (R170, R171) -/

theorem accessSwitchChange_ready {shows : Access} (h : s.ready = true) (differs : s.power.accessShows ≠ shows) :
    accessSwitchChange shows s = s.withPower { s.power with
      accessShows := shows, accessTimer := if shows = s.power.access then none else some (s.now + 500) } :=
  (if_neg differs).trans (whenRunning_ready (by exact h) _)

theorem keySwitchChange_ready {shows : Key} (h : s.ready = true) (differs : s.power.keyShows ≠ shows) :
    keySwitchChange shows s = s.withPower { s.power with
      keyShows := shows, keyTimer := if shows = s.power.key then none else some (s.now + 100) } :=
  (if_neg differs).trans (whenRunning_ready (by exact h) _)

theorem accessTimerExpiry_ready (h : s.ready = true) (due : s.power.accessTimer = some instant) :
    accessTimerExpiry s = (((s.runTo instant).withPower { s.power with
      access := s.power.accessShows, accessTimer := none }).notify
        (.access s.power.access s.power.accessShows (s.runTo instant).now)).postAll
          (accessMessages s.power.accessShows) := by
  unfold accessTimerExpiry
  rw [whenRunning_ready h, due]
  exact if_pos h

theorem keyTimerExpiry_ready (h : s.ready = true) (due : s.power.keyTimer = some instant) :
    keyTimerExpiry s = (s.runTo instant).withPower { s.power with key := s.power.keyShows, keyTimer := none } := by
  unfold keyTimerExpiry
  rw [whenRunning_ready h, due]
  rfl

/-- Settles O56: the mains by the state its line meets, and a switch by the level it shows. -/
theorem powerMonitor : Obligations.PowerMonitor := by
  unfold Obligations.PowerMonitor
  refine ⟨fun s hr => ⟨fun returning => ?absent, fun reserve => ⟨?stays, ?returns⟩, fun up => ?present, fun normal => ?loss⟩,
    fun s instant hr returning due => ?settles, fun shows s hr differs => ?access, fun shows s hr differs => ?key,
    fun s instant hr due => ?accessEnd, fun s instant hr due => ?keyEnd⟩
  case absent =>
    have down : s.power.mains ≠ .reserve := by rw [returning]; decide
    exact exec_of_line rfl ((mainsLineAbsent_ready hr).trans ((if_neg down).trans
      (setMains_of_down (s := s.withPower { s.power with linePresent := false }) hr returning (by decide) (by decide))))
  case stays => exact exec_of_line rfl ((mainsLineAbsent_ready hr).trans (if_pos reserve))
  case returns =>
    exact exec_of_line rfl ((mainsLinePresent_ready hr).trans ((if_pos reserve).trans
      (setMains_of_down (s := s.withPower { s.power with linePresent := true }) hr reserve (by decide) (by decide))))
  case present => exact exec_of_line rfl ((mainsLinePresent_ready hr).trans (if_neg up))
  case loss =>
    intro u t
    have up : s.power.mains ≠ .reserve := by rw [normal]; decide
    obtain ⟨drives, dark⟩ := drivesNoMore_dark_loseMains u
    have moves : Moves u t := moves_loseMains (.refl u)
    refine ⟨?_, moves.power, ?_, rfl, rfl, dark, moves.tables, drives.time⟩
    · exact exec_of_line rfl ((mainsLineAbsent_ready hr).trans ((if_neg up).trans (setMains_of_loss hr normal)))
    · exact supply_loseMains u
  case settles =>
    exact exec_of_timer rfl hr ((mainsSettleExpiry_ready hr due).trans
      (setMains_of_return (s := s.runTo instant) hr returning (by decide)))
  case access => exact exec_of_line rfl (accessSwitchChange_ready hr differs)
  case key => exact exec_of_line rfl (keySwitchChange_ready hr differs)
  case accessEnd =>
    refine exec_of_timer rfl hr ((accessTimerExpiry_ready hr due).trans ?_)
    cases s.power.accessShows <;> rfl
  case keyEnd => exact exec_of_timer rfl hr (keyTimerExpiry_ready hr due)

end Sys2Proof.Proofs
end

section
/-! SUPPORT. The units granted stay within the budget (R158, R161): the blocks' operations that only commands use. Of the
blocks' operations inside a command it is `Moves.supply`; an update that writes neither the grants nor the budget keeps it by
what it is. -/
namespace Sys2Proof.Proofs

open Sys2Proof.Machine Sys2Proof.Claims

variable {s : State}

theorem supplySound_foldl {α : Type} {f : State → α → State} (hf : ∀ t a, t.supplySound → (f t a).supplySound)
    (h : s.supplySound) (l : List α) : (l.foldl f s).supplySound := by
  induction l generalizing s with
  | nil => exact h
  | cons a l ih => exact ih (hf s a h)

theorem supplySound_each {f : Nat → State → State} (hf : ∀ i t, t.supplySound → (f i t).supplySound)
    (h : s.supplySound) (l : List Nat) : (s.each l f).supplySound :=
  each_keeps (P := State.supplySound) hf l h

/-! ## Updates of other fields -/

theorem supplySound_withTime (h : s.supplySound) (v : TimeBase) : (s.withTime v).supplySound := h
theorem supplySound_withRefs (h : s.supplySound) (v : RefMonitor) : (s.withRefs v).supplySound := h
theorem supplySound_withPower (h : s.supplySound) (v : Power) : (s.withPower v).supplySound := h
theorem supplySound_withStore (h : s.supplySound) (v : Store) : (s.withStore v).supplySound := h
theorem supplySound_withStart (h : s.supplySound) (v : Start) : (s.withStart v).supplySound := h
theorem supplySound_withLink (h : s.supplySound) (v : Link) : (s.withLink v).supplySound := h
theorem supplySound_runTo (h : s.supplySound) (instant : Nat) : (s.runTo instant).supplySound := h
theorem supplySound_runToKept (h : s.supplySound) (target : Nat) : (s.runToKept target).supplySound := h
theorem supplySound_setBell (h : s.supplySound) (b : Nat) (v : Bell) : (s.setBell b v).supplySound := h
theorem supplySound_setUnit (h : s.supplySound) (n : Nat) (v : SwingUnit) : (s.setUnit n v).supplySound := h
theorem supplySound_setDial (h : s.supplySound) (d : Nat) (v : Dial) : (s.setDial d v).supplySound := h
theorem supplySound_setCircuit (h : s.supplySound) (c : Nat) (v : Circuit) : (s.setCircuit c v).supplySound := h

theorem supplySound_withTables (h : s.supplySound) {v : Tables} (same : v.supply = s.tables.supply) :
    (s.withTables v).supplySound := by
  show s.supply.total ≤ v.supply.budget
  rw [same]
  exact h

/-! ## The time base (chapter 1) -/

theorem supplySound_retime (h : s.supplySound) (b : TimeBase) (cause : TimeCause) (always : Bool) :
    (s.retime b cause always).supplySound := by
  unfold State.retime
  dsimp only
  repeat' split
  all_goals exact h

theorem supplySound_confirmation (h : s.supplySound) (tel : Telegram) (phase : Latch) (source : PhaseSource) :
    (confirmation tel phase source s).supplySound := by
  unfold confirmation
  split
  · exact supplySound_retime h _ _ _
  · exact supplySound_retime h _ _ _

theorem supplySound_limitJudged (h : s.supplySound) : (limitJudged s).supplySound := by
  unfold limitJudged
  repeat' split
  · exact supplySound_retime h _ _ _
  · exact h
  · exact h

theorem supplySound_applyTimeSettings (h : s.supplySound) : s.applyTimeSettings.supplySound := by
  have judged := supplySound_limitJudged h
  rw [applyTimeSettings_eq]
  unfold offsetJudged
  split
  · exact judged
  · exact supplySound_retime judged _ _ _
  · exact supplySound_retime judged _ _ _

/-! ## The reference monitor (1.3-1.5) -/

theorem supplySound_failPending (h : s.supplySound) : s.failPending.supplySound := by
  unfold State.failPending
  split
  · exact h
  · exact h

theorem supplySound_takeChar (h : s.supplySound) (c : Byte) : (takeChar s c).supplySound := by
  unfold takeChar
  dsimp only
  repeat' split
  case h_2 => exact supplySound_withRefs (supplySound_failPending (supplySound_withRefs (supplySound_withRefs h _) _)) _
  all_goals exact h

theorem supplySound_decideMark (h : s.supplySound) (d : Decision) (after : Option SecEdge) :
    (decideMark d after s).supplySound := by
  unfold decideMark
  dsimp only
  repeat' split
  · exact h
  all_goals exact supplySound_confirmation (supplySound_withRefs h _) _ _ _

theorem supplySound_decideEach {after : Decision → Option SecEdge} (h : s.supplySound) (l : List Decision) :
    (l.foldl (fun t d => decideMark d (after d) t) s).supplySound :=
  supplySound_foldl (fun _ d ht => supplySound_decideMark ht d (after d)) h l

theorem supplySound_phaseOf (h : s.supplySound) (mark : Latch) (confirms : Option Telegram) :
    (s.phaseOf mark confirms).supplySound := by
  unfold State.phaseOf
  repeat' split
  · exact supplySound_decideMark h _ _
  · exact h
  · exact supplySound_confirmation h _ _ _
  · exact h

theorem supplySound_changeMode (h : s.supplySound) (new : RefMode) : (s.changeMode new).supplySound := by
  have stopped (r : RefMonitor) : (s.withRefs r).supplySound := supplySound_withRefs h r
  unfold State.changeMode
  dsimp only
  split
  · split
    · exact supplySound_retime (supplySound_withRefs (stopped _) _) _ _ _
    · exact supplySound_withRefs (stopped _) _
  · refine supplySound_foldl (fun t d ht => ?_) (stopped _) _
    split
    · exact supplySound_confirmation ht _ _ _
    · exact ht
  · exact stopped _

/-! ## The bells and the swing units (chapters 3 and 5) -/

theorem supplySound_setHammerFault (h : s.supplySound) (b : Nat) (f : HammerFault) (reading : Nat) :
    (s.setHammerFault b f reading).supplySound :=
  (moves_refuseHeld (moves_post (moves_notify (.refl _) _) _) b .fault).supply (supplySound_setBell h _ _)

theorem supplySound_coilResult (h : s.supplySound) (b reading : Nat) : (coilResult b reading s).supplySound := by
  have taken : (s.setBell b { s.bell b with reading := some reading }).supplySound := h
  unfold coilResult
  generalize s.setBell b { s.bell b with reading := some reading } = t at taken
  dsimp only
  repeat' split
  · exact taken
  · exact supplySound_setHammerFault (supplySound_setBell taken _ _) _ _ _
  · exact taken
  · exact (moves_pulseEnds (.refl _) b).supply (supplySound_setHammerFault taken _ _ _)
  · exact supplySound_setHammerFault taken _ _ _
  · exact taken

theorem supplySound_enterSettling (h : s.supplySound) (n : Nat) (cause : UnitCause) :
    (s.enterSettling n cause).supplySound :=
  (moves_unitNotice (moves_moveClaim (.refl _) _ _) _ _ _).supply
    (supplySound_setUnit ((moves_cutDrive (.refl s) n).supply h) _ _)

theorem supplySound_enterFault (h : s.supplySound) (n : Nat) (f : UnitFault) : (s.enterFault n f).supplySound :=
  (moves_unitNotice (moves_notify (moves_moveClaim (.refl _) _ _) _) _ _ _).supply
    (supplySound_setUnit ((moves_cutDrive (.refl s) n).supply h) _ _)

theorem supplySound_enterSwinging (h : s.supplySound) (n : Nat) : (s.enterSwinging n).supplySound := by
  unfold State.enterSwinging
  dsimp only
  split
  · exact (moves_cutDrive (.refl s) n).supply h
  · exact h

theorem supplySound_actOnTurn (h : s.supplySound) (n : Nat) (amplitude : Option Nat) (dir : Dir) :
    (s.actOnTurn n amplitude dir).supplySound := by
  unfold State.actOnTurn
  dsimp only
  repeat' split
  · exact h
  · exact h
  · exact (moves_askImpulse (.refl s) _ _ _ _).supply h
  · exact supplySound_enterSwinging h n
  · exact h
  · exact (moves_askImpulse (.refl s) _ _ _ _).supply h
  · exact h
  · exact h
  · exact (moves_askImpulse (.refl _) _ _ _ _).supply (supplySound_setUnit h _ _)
  · exact h
  · exact h

theorem supplySound_takeTurn (h : s.supplySound) (n : Nat) (amplitude : Option Nat) (dir : Dir) :
    (s.takeTurn n amplitude dir).supplySound := by
  unfold State.takeTurn
  dsimp only
  split
  · exact h
  · split
    · exact supplySound_enterFault (supplySound_setUnit h _ _) _ _
    · exact supplySound_actOnTurn (supplySound_setUnit h _ _) _ _ _

/-! ## The circuits and the light monitor (chapters 7 and 8) -/

theorem supplySound_changeCircuit (h : s.supplySound) (c : Nat) (w : Circuit) (cause : FloodCause) (units : Nat) :
    (s.changeCircuit c w cause units).supplySound := by
  unfold State.changeCircuit
  dsimp only
  split
  · exact h
  · exact h

theorem supplySound_lightTransition (h : s.supplySound) (old new : LightState) :
    (s.lightTransition old new).supplySound := by
  unfold State.lightTransition
  split
  · exact h
  · exact h

theorem supplySound_goodLight (h : s.supplySound) (r : Nat) : (goodLight r s).supplySound := by
  unfold goodLight
  dsimp only
  split
  · exact h
  · have told (l : Light) : ((s.withLight l).lightTransition s.light.state l.state).supplySound :=
      supplySound_lightTransition ((moves_withLight (.refl s) l).supply h) _ _
    split
    · exact told _
    · exact told _

theorem supplySound_outLight (h : s.supplySound) (r : Nat) : (outLight r s).supplySound := by
  unfold outLight
  dsimp only
  repeat' split
  · exact h
  · exact h
  · exact supplySound_lightTransition ((moves_withLight (.refl s) _).supply h) _ _

theorem supplySound_lightResult (h : s.supplySound) (r : Nat) : (lightResult r s).supplySound := by
  unfold lightResult
  split
  · exact supplySound_goodLight h r
  · exact supplySound_outLight h r

end Sys2Proof.Proofs
end

section
/-! SUPPORT. The requests and the start keep the units granted within the budget: a new budget is judged against the total
granted (R158), and LOADING opens with nothing granted (R174). -/
namespace Sys2Proof.Proofs

open Sys2Proof.Machine Sys2Proof.Claims

variable {s : State}

/-! ## PUT and ERASE (R186) -/

/-- A refusal has no effect: what is accepted decides. -/
theorem supplySound_unless {refused : Prop} [Decidable refused] {status : Status} {accepted : State × Status}
    (h : s.supplySound) (k : accepted.1.supplySound) : (if refused then (s, status) else accepted).1.supplySound := by
  split
  · exact h
  · exact k

theorem supplySound_newDialRecord (h : s.supplySound) (d : Nat) (old new : DialRec) :
    (s.newDialRecord d old new).supplySound := by
  unfold State.newDialRecord
  repeat' split
  · exact (moves_forgetDial (.refl s) _ _).supply h
  · exact (moves_repeatOrClassify (.refl s) _ _).supply h
  · exact h

theorem supplySound_reclass (h : s.supplySound) : s.reclass.supplySound := by
  unfold State.reclass
  split
  · exact (moves_setToday (.refl s) _).supply h
  · exact h

theorem supplySound_newTimeSettings (h : s.supplySound) (new : TimeSettings) : (s.newTimeSettings new).supplySound := by
  have written : (s.withTables { s.tables with time := new }).supplySound := supplySound_withTables h rfl
  refine supplySound_applyTimeSettings ?_
  split
  · exact written
  · exact supplySound_changeMode written _

theorem supplySound_newLightSettings (h : s.supplySound) (new : LightSettings) :
    (s.newLightSettings new).supplySound := by
  have written : (s.withTables { s.tables with light := new }).supplySound := supplySound_withTables h rfl
  unfold State.newLightSettings
  dsimp only
  split
  · exact written
  · exact (moves_withLight (.refl _) _).supply written

theorem supplySound_putBell (h : s.supplySound) (b : Nat) (new : BellRec) : (putBell b new s).1.supplySound :=
  supplySound_unless h <| supplySound_unless h <| supplySound_unless h <|
    (moves_post (.refl _) _).supply (supplySound_withTables h rfl)

theorem supplySound_putSwing (h : s.supplySound) (n : Nat) (new : SwingRec) : (putSwing n new s).1.supplySound :=
  supplySound_unless h <| supplySound_unless h <| supplySound_withTables h rfl

theorem supplySound_putPlan (h : s.supplySound) (p : Nat) (new : Plan) : (putPlan p new s).1.supplySound :=
  supplySound_unless h <| supplySound_withTables h rfl

theorem supplySound_putTune (h : s.supplySound) (i : Nat) (new : Tune) : (putTune i new s).1.supplySound :=
  supplySound_unless h <| supplySound_withTables h rfl

theorem supplySound_putNote (h : s.supplySound) (n : Nat) (new : Note) : (putNote n new s).1.supplySound :=
  supplySound_unless h <| supplySound_withTables h rfl

theorem supplySound_putDial (h : s.supplySound) (d : Nat) (new : DialRec) : (putDial d new s).1.supplySound := by
  have written : (s.withTables { s.tables with dial := Table.put dialRec0 s.tables.dial d new }).supplySound :=
    supplySound_withTables h rfl
  exact supplySound_unless h <| supplySound_unless h <| supplySound_newDialRecord written _ _ _

theorem supplySound_putCircuit (h : s.supplySound) (c : Nat) (new : CircuitRec) : (putCircuit c new s).1.supplySound :=
  supplySound_unless h <| supplySound_unless h <| (moves_post (.refl _) _).supply (supplySound_withTables h rfl)

theorem supplySound_putScene (h : s.supplySound) (i : Nat) (new : Scene) : (putScene i new s).1.supplySound :=
  supplySound_withTables h rfl

theorem supplySound_putEntry (h : s.supplySound) (e : Nat) (new : Entry) : (putEntry e new s).1.supplySound :=
  (moves_setGuard (.refl _) _ _).supply (supplySound_withTables h rfl)

theorem supplySound_putSpecial (h : s.supplySound) (e : Nat) (new : Special) : (putSpecial e new s).1.supplySound :=
  supplySound_unless h <| supplySound_reclass <| supplySound_withTables h rfl

theorem supplySound_putSun (h : s.supplySound) (d : Nat) (new : Sun) : (putSun d new s).1.supplySound :=
  supplySound_withTables h rfl

/-- A budget below the total granted is refused (R158); under any other the service grants within the new one. -/
theorem supplySound_putSupply (h : s.supplySound) (new : SupplySettings) : (putSupply new s).1.supplySound := by
  unfold putSupply
  refine supplySound_unless h ?_
  split
  · exact h
  · rename_i enough
    have written : (s.withTables { s.tables with supply := new }).supplySound := Nat.le_of_not_lt enough
    exact (moves_serve (.refl _)).supply written

theorem supplySound_ranged {α : Type} {write : α → State → State × Status} (h : s.supplySound)
    (k : ∀ new, (write new s).1.supplySound) (reading : Option α) : (ranged reading write s).1.supplySound := by
  unfold ranged
  split
  · exact k _
  · exact h

theorem supplySound_putGroup (h : s.supplySound) (group : Nat) (v : List Nat) : (putGroup group v s).1.supplySound := by
  unfold putGroup
  split
  · exact supplySound_ranged h (supplySound_newTimeSettings h) _
  · exact supplySound_ranged h (fun _ => supplySound_withTables h rfl) _
  · exact supplySound_ranged h (supplySound_newLightSettings h) _
  · exact supplySound_ranged h (supplySound_putSupply h) _
  · exact supplySound_ranged h (fun _ => supplySound_withTables h rfl) _
  · exact supplySound_ranged h (fun _ => supplySound_withTables h rfl) _

theorem supplySound_putValues (h : s.supplySound) (table i : Nat) (v : List Nat) :
    (putValues table i v s).1.supplySound := by
  unfold putValues
  split
  · exact supplySound_ranged h (supplySound_putBell h i) _
  · exact supplySound_ranged h (supplySound_putSwing h i) _
  · exact supplySound_ranged h (supplySound_putPlan h i) _
  · exact supplySound_ranged h (supplySound_putTune h i) _
  · exact supplySound_ranged h (supplySound_putNote h i) _
  · exact supplySound_ranged h (supplySound_putDial h i) _
  · exact supplySound_ranged h (supplySound_putCircuit h i) _
  · exact supplySound_ranged h (supplySound_putScene h i) _
  · exact supplySound_ranged h (supplySound_putEntry h i) _
  · exact supplySound_ranged h (supplySound_putSpecial h i) _
  · exact supplySound_ranged h (supplySound_putSun h i) _
  · exact supplySound_putGroup h i v

theorem supplySound_putRequest (h : s.supplySound) (body : List Byte) : (putRequest body s).1.supplySound := by
  unfold putRequest plain
  dsimp only
  repeat' split
  case h_1 => exact supplySound_putValues h _ _ _
  all_goals exact h

/-- An object not in use is erased without effect (log 41). -/
theorem supplySound_ifUsed {used : Prop} [Decidable used] {write : State × Status} (h : s.supplySound)
    (k : write.1.supplySound) : (if used then write else (s, .ok)).1.supplySound := by
  split
  · exact k
  · exact h

theorem supplySound_eraseGroup (h : s.supplySound) (group : Nat) : (eraseGroup group s).1.supplySound := by
  unfold eraseGroup
  split
  · exact supplySound_newTimeSettings h _
  · exact supplySound_withTables h rfl
  · exact supplySound_newLightSettings h _
  · exact supplySound_putSupply h _
  · exact supplySound_withTables h rfl
  · exact supplySound_withTables h rfl

theorem supplySound_eraseEntry (h : s.supplySound) (table i : Nat) : (eraseEntry table i s).1.supplySound := by
  unfold eraseEntry
  split
  · exact supplySound_ifUsed h (supplySound_putBell h i _)
  · exact supplySound_putSwing h i _
  · exact supplySound_putPlan h i _
  · exact supplySound_putTune h i _
  · exact supplySound_putNote h i _
  · exact supplySound_ifUsed h (supplySound_putDial h i _)
  · exact supplySound_ifUsed h (supplySound_putCircuit h i _)
  · exact supplySound_putScene h i _
  · exact supplySound_putEntry h i _
  · exact supplySound_putSpecial h i _
  · exact supplySound_putSun h i _
  · exact supplySound_eraseGroup h i

theorem supplySound_eraseRequest (h : s.supplySound) (body : List Byte) : (eraseRequest body s).1.supplySound := by
  unfold eraseRequest plain
  dsimp only
  split
  · exact supplySound_eraseEntry h _ _
  · exact h

/-! ## The requests of the blocks (R181) -/

theorem supplySound_clearNewMarks (h : s.supplySound) : s.clearNewMarks.supplySound := by
  have bells := supplySound_each (fun b t ht => supplySound_setBell ht b { t.bell b with newMark := false }) h bellNumbers
  have units := supplySound_each (fun n t ht => supplySound_setUnit ht n { t.unit n with newMark := false }) bells
    unitNumbers
  exact (moves_withLight (.refl _) _).supply units

theorem supplySound_clearUnitFault (h : s.supplySound) (n : Nat) : (s.clearUnitFault n).supplySound := by
  unfold State.clearUnitFault
  dsimp only
  split
  · exact supplySound_enterSettling (supplySound_setUnit h _ _) _ _
  · exact supplySound_setUnit h _ _

theorem supplySound_clearfaultRequest (h : s.supplySound) (v : List Nat) : (clearfaultRequest v s).1.supplySound := by
  unfold clearfaultRequest
  repeat' split
  · exact (moves_post (.refl _) _).supply (supplySound_setBell h _ _)
  · exact h
  · exact supplySound_clearUnitFault h _
  · exact h
  · exact (moves_withLight (.refl s) _).supply h
  · exact h

theorem supplySound_settimeRequest (h : s.supplySound) (v : List Nat) : (settimeRequest v s).1.supplySound := by
  unfold settimeRequest
  dsimp only
  repeat' split
  · exact h
  · exact h
  · exact supplySound_retime (supplySound_withRefs h _) _ _ _
  · exact h

theorem supplySound_quietRequest (h : s.supplySound) (v : List Nat) : (quietRequest v s).1.supplySound := by
  unfold quietRequest
  split
  · exact (moves_withDay (.refl s) _ id).supply h
  · exact (moves_withDay (.refl s) _ id).supply h
  · exact h

theorem supplySound_playRequest (h : s.supplySound) (kind : PerfKind) (args : PerfArgs) (due : Option Nat) :
    (playRequest kind args due s).1.supplySound := by
  unfold playRequest
  split
  · exact h
  · dsimp only
    split
    all_goals
      rename_i offered
      exact congrArg Prod.fst offered ▸ (moves_offer (.refl s) _).supply h

theorem supplySound_playBody (h : s.supplySound) (v : List Nat) : (playBody v s).1.supplySound := by
  unfold playBody
  split
  · split
    · exact supplySound_playRequest h _ _ _
    · exact h
  · exact h

theorem supplySound_cancelPerf (h : s.supplySound) (id : Nat) : (cancelPerf id s).1.supplySound := by
  unfold cancelPerf
  repeat' split
  · exact h
  · exact h
  · exact (moves_endPlaying (.refl s) _).supply h
  · exact h
  · exact (moves_drop (.refl s) _ _).supply h

theorem supplySound_cancelBody (h : s.supplySound) (v : List Nat) : (cancelBody v s).1.supplySound := by
  unfold cancelBody
  split
  · exact supplySound_cancelPerf h _
  · exact h

theorem supplySound_ringRequest (h : s.supplySound) (n minutes : Nat) : (ringRequest n minutes s).1.supplySound := by
  unfold ringRequest
  split
  · exact h
  · exact (moves_startUnit (.refl s) _ _ _ _).supply h

theorem supplySound_ringBody (h : s.supplySound) (v : List Nat) : (ringBody v s).1.supplySound := by
  unfold ringBody
  split
  · split
    · exact supplySound_ringRequest h _ _
    · exact h
  · exact h

theorem supplySound_haltRequest (h : s.supplySound) (n : Nat) : (haltRequest n s).supplySound := by
  have halted := moves_haltUnit (.refl s) n .halt .halt
  unfold haltRequest
  dsimp only
  split
  · exact (moves_withRun halted _).supply h
  · exact halted.supply h

theorem supplySound_haltBody (h : s.supplySound) (v : List Nat) : (haltBody v s).1.supplySound := by
  unfold haltBody
  repeat' split
  · exact supplySound_haltRequest h _
  · exact h
  · exact h

theorem supplySound_pealBody (h : s.supplySound) (v : List Nat) : (pealBody v s).1.supplySound := by
  unfold pealBody
  repeat' split
  · exact (moves_startPeal (.refl s) _).supply h
  · exact h
  · exact h

theorem supplySound_endPeal (h : s.supplySound) : (endPeal s).1.supplySound := by
  unfold endPeal
  split
  · exact h
  · exact h
  · exact (moves_stopRun (.refl s) _ _).supply h

theorem supplySound_dialsetRequest (h : s.supplySound) (d face : Nat) (next : Dir) :
    (dialsetRequest d face next s).1.supplySound := by
  unfold dialsetRequest
  split
  · exact h
  · dsimp only
    split
    · exact (moves_askDial (moves_moveDial (moves_withdraw (.refl _) _) _ _ _) _).supply (supplySound_setDial h _ _)
    · exact (moves_askDial (moves_moveDial (.refl _) _ _ _) _).supply (supplySound_setDial h _ _)

theorem supplySound_dialsetBody (h : s.supplySound) (v : List Nat) : (dialsetBody v s).1.supplySound := by
  unfold dialsetBody
  split
  · split
    · exact supplySound_dialsetRequest h _ _ _
    · exact h
  · exact h

theorem supplySound_dialstopRequest (h : s.supplySound) (d : Nat) (stop : Bool) :
    (dialstopRequest d stop s).1.supplySound := by
  have stopped := (moves_withdrawDial (.refl _) d).supply (supplySound_setDial h d { s.dial d with stop := true })
  have freed := supplySound_setDial h d { s.dial d with stop := false }
  unfold dialstopRequest
  dsimp only
  repeat' split
  · exact h
  · exact (moves_moveDial (.refl _) _ _ _).supply stopped
  · exact stopped
  · exact (moves_classify (.refl _) _ _).supply freed
  · exact freed

theorem supplySound_dialstopBody (h : s.supplySound) (v : List Nat) : (dialstopBody v s).1.supplySound := by
  unfold dialstopBody
  repeat' split
  · exact supplySound_dialstopRequest h _ _
  · exact h
  · exact h

theorem supplySound_sceneBody (h : s.supplySound) (v : List Nat) : (sceneBody v s).1.supplySound := by
  unfold sceneBody
  repeat' split
  · exact (moves_activateScene (.refl s) _).supply h
  · exact h
  · exact h

theorem supplySound_overrideRequest (h : s.supplySound) (c : Nat) (level : Option Nat) (duration : Nat) :
    (overrideRequest c level duration s).1.supplySound := by
  unfold overrideRequest
  split
  · exact h
  · exact (moves_post (.refl _) _).supply (supplySound_setCircuit h _ _)

theorem supplySound_overrideBody (h : s.supplySound) (v : List Nat) : (overrideBody v s).1.supplySound := by
  unfold overrideBody
  repeat' split
  · exact supplySound_overrideRequest h _ _ _
  all_goals exact h

theorem supplySound_listRequest (h : s.supplySound) (body : List Byte) : (listRequest body s).1.supplySound := by
  unfold listRequest
  dsimp only
  split
  · exact h
  · exact supplySound_withLink h _

theorem supplySound_getRequest (h : s.supplySound) (body : List Byte) : (getRequest body s).1.supplySound := by
  unfold getRequest
  dsimp only
  split <;> exact h

theorem supplySound_fields {run : List Nat → State → Answer} (h : s.supplySound) (k : ∀ v, (run v s).1.supplySound)
    (rooms : List Room) (body : List Byte) : (fields rooms body run s).1.supplySound := by
  unfold fields
  split
  · exact k _
  · exact h

theorem supplySound_runRequest (h : s.supplySound) (kind : Nat) (body : List Byte) :
    (runRequest kind body s).1.supplySound := by
  unfold runRequest
  split
  case h_2 => exact supplySound_clearNewMarks h
  case h_3 => exact supplySound_fields h (supplySound_clearfaultRequest h) _ _
  case h_4 => exact supplySound_getRequest h _
  case h_5 => exact supplySound_putRequest h _
  case h_6 => exact supplySound_eraseRequest h _
  case h_7 => exact supplySound_listRequest h _
  case h_8 => exact supplySound_withStore h _
  case h_11 => exact supplySound_fields h (supplySound_settimeRequest h) _ _
  case h_13 => exact supplySound_fields h (supplySound_quietRequest h) _ _
  case h_15 => exact supplySound_fields h (supplySound_playBody h) _ _
  case h_16 => exact supplySound_fields h (supplySound_cancelBody h) _ _
  case h_18 => exact supplySound_fields h (supplySound_ringBody h) _ _
  case h_19 => exact supplySound_fields h (supplySound_haltBody h) _ _
  case h_20 => exact supplySound_fields h (supplySound_pealBody h) _ _
  case h_21 => exact supplySound_endPeal h
  case h_22 => exact supplySound_fields h (supplySound_dialsetBody h) _ _
  case h_23 => exact supplySound_fields h (supplySound_dialstopBody h) _ _
  case h_24 => exact supplySound_fields h (supplySound_sceneBody h) _ _
  case h_25 => exact supplySound_fields h (supplySound_overrideBody h) _ _
  all_goals exact h

theorem supplySound_judgeRequest (h : s.supplySound) (kind : Byte) (body : List Byte) :
    (judgeRequest kind body s).1.supplySound := by
  unfold judgeRequest
  repeat' split
  case isFalse.isFalse.isFalse => exact supplySound_runRequest h _ _
  all_goals exact h

/-! ## The store and the start (10.3, 10.4) -/

theorem supplySound_saveTableWritten (h : s.supplySound) (readBack : Bool) :
    (saveTableWritten readBack s).supplySound := by
  unfold saveTableWritten
  split
  · exact h
  · dsimp only
    split
    · exact supplySound_withStore h _
    · exact (moves_notify (.refl _) _).supply (supplySound_withStore h _)

/-- The opening of LOADING grants nothing, whatever budget it loads. -/
theorem supplySound_openLoading (cause : StartCause) (s : State) : (openLoading cause s).supplySound :=
  openObjects_keeps (P := State.supplySound) (fun _ _ _ _ _ sound => sound) (Nat.zero_le _)

theorem supplySound_clearBells (h : s.supplySound) :
    (s.each bellNumbers fun b t => t.setBell b (clearedBell (t.bell b))).supplySound :=
  supplySound_each (fun b t ht => supplySound_setBell ht b (clearedBell (t.bell b))) h _

theorem supplySound_coldStart (h : s.supplySound) : s.coldStart.supplySound := by
  have emptied : State.supplySound { s with
      time := coldTime s.time
      day := dayProgramme0
      chime := { s.chime with quarterGuard := none }
      dials := { s.dials with dials := [] }
      floods := { s.floods with lastScene := none } } := h
  exact supplySound_each (fun c t ht => supplySound_setCircuit ht c { t.circuit c with sceneLevel := 0 })
    (supplySound_clearBells emptied) _

theorem supplySound_warmStart (h : s.supplySound) : s.warmStart.supplySound := by
  obtain ⟨day, bells, warm⟩ := warmStart_eq s
  rw [warm]
  exact h

theorem supplySound_loadingEnd (h : s.supplySound) : (loadingEnd s).supplySound := by
  have started : (if s.start.retainedGood then s.warmStart else s.coldStart).supplySound := by
    split
    · exact supplySound_warmStart h
    · exact supplySound_coldStart h
  unfold loadingEnd
  dsimp only
  split
  · exact (moves_postAll (.refl _) _).supply (supplySound_withStart started _)
  · exact h

end Sys2Proof.Proofs
end

section
/-! SUPPORT. Every command keeps the units granted within the budget (R158, R161). -/
namespace Sys2Proof.Proofs

open Sys2Proof.Machine Sys2Proof.Claims

variable {s t : State}

/-! ## Frames and bytes of the line (R180-R183) -/

theorem supplySound_takeFrame (h : s.supplySound) (kind : Byte) (body : List Byte) :
    (takeFrame kind body s).supplySound := by
  have free : s.endListing.hunting.supplySound := supplySound_withLink (supplySound_withLink h _) _
  unfold takeFrame
  dsimp only
  repeat' split
  · exact supplySound_withLink free _
  · exact supplySound_withLink free _
  · exact supplySound_withLink (supplySound_judgeRequest (supplySound_withLink free _) _ _) _

theorem supplySound_wholeFrame (h : s.supplySound) (kind : Byte) (body : List Byte) :
    (wholeFrame kind body s).supplySound :=
  supplySound_takeFrame (supplySound_withLink h _) _ _

theorem supplySound_hunt (h : s.supplySound) (b : RxByte) : (s.hunt b).supplySound := by
  unfold State.hunt
  split
  · exact supplySound_withLink h _
  · exact h

theorem supplySound_takeByte (h : s.supplySound) (v : Byte) : (s.takeByte v).supplySound := by
  unfold State.takeByte
  split
  · exact h
  · split
    · exact supplySound_withLink h _
    · exact supplySound_withLink h _
  · exact supplySound_withLink h _
  · exact supplySound_withLink h _
  · repeat' split
    · exact supplySound_takeFrame h _ _
    · exact supplySound_withLink h _
    · exact supplySound_withLink h _

theorem supplySound_receiveByte (h : s.supplySound) (b : RxByte) : (receiveByte b s).supplySound := by
  have waited : (s.withTime (s.time.advance b.gap)).supplySound := supplySound_withTime h _
  unfold receiveByte
  dsimp only
  repeat' split
  · exact supplySound_hunt waited b
  · exact supplySound_hunt (supplySound_withLink waited _) b
  · exact supplySound_withLink waited _
  · exact supplySound_takeByte waited _

theorem supplySound_transmitFrameEnd (h : s.supplySound) : (transmitFrameEnd s).supplySound := by
  unfold transmitFrameEnd
  split
  · have ended : (s.withLink { s.link with sending := none }).supplySound := supplySound_withLink h _
    unfold State.sent
    split
    · exact supplySound_withLink ended _
    · exact supplySound_openLoading _ _
    · exact supplySound_withLink ended _
    · exact supplySound_withLink ended _
    · exact ended
  · exact h

/-! ## The time base (R2-R6, R21) -/

theorem supplySound_civilMinuteBoundary (h : s.supplySound) : (civilMinuteBoundary s).supplySound := by
  unfold civilMinuteBoundary
  split
  · exact (moves_postAll (.refl _) _).supply (supplySound_withTime (supplySound_runToKept h _) _)
  · exact h

theorem supplySound_passHalfMinute {half : Nat} (h : s.supplySound) (passed : passHalfMinute s = some (t, half)) :
    t.supplySound := by
  unfold passHalfMinute at passed
  split at passed
  · cases passed
    exact supplySound_withTime (supplySound_runToKept h _) _
  · cases passed

theorem supplySound_civilHalfMinuteBoundary (h : s.supplySound) : (civilHalfMinuteBoundary s).supplySound := by
  unfold civilHalfMinuteBoundary
  split
  · rename_i t half passed
    refine Moves.supply (moves_each (moves_setTargets (.refl t) _) _ _ fun d u hu => ?_)
      (supplySound_passHalfMinute h passed)
    split
    · exact hu
    · exact moves_riseDial hu d
  · exact h

theorem supplySound_keptSecondEnd (h : s.supplySound) : (keptSecondEnd s).supplySound := by
  unfold keptSecondEnd
  repeat' split
  · exact h
  · exact supplySound_runToKept h _
  · exact supplySound_runToKept h _
  · exact h

theorem supplySound_rangeEnd (h : s.supplySound) : (rangeEnd s).supplySound := by
  unfold rangeEnd
  split
  · exact (moves_loseTime (.refl _)).supply (supplySound_runToKept h _)
  · exact h

theorem supplySound_seasonalInstant (h : s.supplySound) : (seasonalInstant s).supplySound := by
  unfold seasonalInstant
  split
  · split
    · refine supplySound_retime ?_ _ _ _
      repeat' split
      · exact h
      · exact supplySound_runToKept h _
      · exact h
    · exact h
  · exact h

theorem supplySound_lossOfLock (h : s.supplySound) : (lossOfLock s).supplySound := by
  unfold lossOfLock
  split
  · exact supplySound_retime (supplySound_runTo h _) _ _ _
  · exact h

theorem supplySound_holdoverLimit (h : s.supplySound) : (holdoverLimit s).supplySound := by
  unfold holdoverLimit
  split
  · exact (moves_freeRun (.refl _)).supply (supplySound_runToKept h _)
  · exact h

/-! ## The reference monitor (R12-R18) -/

theorem supplySound_whenReady {f : State → State} (h : s.supplySound) (k : (f s).supplySound) :
    (s.whenReady f).supplySound := by
  unfold State.whenReady
  split
  · exact k
  · exact h

theorem supplySound_whenReading {f : State → State} (h : s.supplySound) (k : (f s).supplySound) :
    (s.whenReading f).supplySound := by
  refine supplySound_whenReady h ?_
  split
  · exact h
  · exact k

theorem supplySound_telegramRecord (h : s.supplySound) (chars : List Byte) : (telegramRecord chars s).supplySound :=
  supplySound_whenReading h (supplySound_foldl (fun _ c ht => supplySound_takeChar ht c) h chars)

theorem supplySound_telegramRecordTimeout (h : s.supplySound) : (telegramRecordTimeout s).supplySound := by
  refine supplySound_whenReading h ?_
  split
  · exact supplySound_withRefs (supplySound_withRefs (supplySound_runTo h _) _) _
  · exact h

theorem supplySound_telegramSilence (h : s.supplySound) : (telegramSilence s).supplySound := by
  refine supplySound_whenReading h ?_
  split
  · exact supplySound_withRefs (supplySound_runTo h _) _
  · exact h

theorem supplySound_telegramMark (h : s.supplySound) : (telegramMark s).supplySound := by
  refine supplySound_whenReading h ?_
  dsimp only
  repeat' split
  · exact supplySound_withRefs h _
  · exact supplySound_phaseOf (supplySound_withRefs h _) _ _
  · exact supplySound_phaseOf (supplySound_withRefs h _) _ _
  · exact supplySound_phaseOf (supplySound_withRefs (supplySound_failPending h) _) _ _

theorem supplySound_telegramMarkDeadline (h : s.supplySound) : (telegramMarkDeadline s).supplySound := by
  refine supplySound_whenReading h ?_
  split
  · exact supplySound_failPending (supplySound_runTo h _)
  · exact h

theorem supplySound_secondMarkEdge (h : s.supplySound) : (secondMarkEdge s).supplySound := by
  refine supplySound_whenReady h ?_
  split
  · exact h
  · exact supplySound_decideEach (supplySound_withRefs (supplySound_withRefs h _) _) _

theorem supplySound_secondMarkTimeout (h : s.supplySound) : (secondMarkTimeout s).supplySound := by
  refine supplySound_whenReady h ?_
  split
  · exact supplySound_withRefs (supplySound_runTo h _) _
  · exact h

theorem supplySound_skewDecisionTimeout (h : s.supplySound) : (skewDecisionTimeout s).supplySound := by
  refine supplySound_whenReady h ?_
  split
  · exact supplySound_decideEach (after := fun _ => none) (supplySound_withRefs (supplySound_runTo h _) _) _
  · exact h

/-! ## The chime player (R81-R87) -/

theorem supplySound_headDue (h : s.supplySound) : (headDue s).supplySound := by
  unfold headDue
  repeat' split
  · exact h
  · exact supplySound_runTo h _
  · exact h

theorem supplySound_startDeadline (h : s.supplySound) (id : Nat) : (startDeadline id s).supplySound := by
  unfold startDeadline
  repeat' split
  · exact h
  · exact (moves_drop (.refl _) _ _).supply (supplySound_runTo h _)
  · exact h

theorem supplySound_noteDue (h : s.supplySound) : (noteDue s).supplySound := by
  unfold noteDue
  split
  · dsimp only
    split
    · exact (moves_requestNote (moves_onPlaying (.refl _) _)).supply (supplySound_runTo h _)
    · exact supplySound_runTo h _
  · exact h

theorem supplySound_noteWaitExpiry (h : s.supplySound) : (noteWaitExpiry s).supplySound := by
  unfold noteWaitExpiry
  split
  · exact (moves_post (moves_postAll (moves_setPlaying (.refl _) _) _) _).supply (supplySound_runTo h _)
  · exact h

theorem supplySound_tailEnd (h : s.supplySound) : (tailEnd s).supplySound := by
  unfold tailEnd
  split
  · exact (moves_endPlaying (.refl _) _).supply (supplySound_runTo h _)
  · exact h

/-! ## The hammers (R58, R62) -/

theorem supplySound_pulseEnd (h : s.supplySound) (b : Nat) : (pulseEnd b s).supplySound := by
  unfold pulseEnd
  split
  · exact (moves_pulseEnds (.refl _) _).supply (supplySound_runTo h _)
  · exact h

theorem supplySound_recoveryEnd (h : s.supplySound) (b : Nat) : (recoveryEnd b s).supplySound := by
  unfold recoveryEnd
  split
  · have idle (instant : Nat) (w : Bell) : ((s.runTo instant).setBell b w).supplySound :=
      supplySound_setBell (supplySound_runTo h _) _ _
    dsimp only
    repeat' split
    · exact idle _ _
    · exact (moves_answerRefused (.refl _) _ _).supply (idle _ _)
    · exact (moves_takeBlow (.refl _) _ _ _).supply (idle _ _)
  · exact h

theorem supplySound_senseInstant (h : s.supplySound) (b : Nat) : (senseInstant b s).supplySound := by
  unfold senseInstant
  split
  · exact (moves_queueConversion (.refl _) _).supply (supplySound_setBell (supplySound_runTo h _) _ _)
  · exact h

/-! ## The swing units and the run (R95-R103, R110, R111) -/

theorem supplySound_reversal (h : s.supplySound) (n : Nat) : (reversal n s).supplySound := by
  have turned : (s.setUnit n (s.unit n).reversed).supplySound := supplySound_setUnit h _ _
  unfold reversal
  dsimp only
  split
  · exact h
  · split
    · exact supplySound_takeTurn turned _ _ _
    · split
      · exact supplySound_enterSettling turned _ _
      · exact turned

theorem supplySound_indexCrossing (h : s.supplySound) (n : Nat) : (indexCrossing n s).supplySound := by
  unfold indexCrossing
  dsimp only
  repeat' split
  · exact supplySound_setUnit h _ _
  · exact supplySound_setUnit h _ _
  · exact supplySound_enterFault (supplySound_setUnit h _ _) _ _
  · exact supplySound_setUnit h _ _

theorem supplySound_raiseLimitExpiry (h : s.supplySound) (n : Nat) : (raiseLimitExpiry n s).supplySound := by
  unfold raiseLimitExpiry
  split
  · exact supplySound_enterFault (supplySound_runTo h _) _ _
  · exact h

theorem supplySound_lowerLimitExpiry (h : s.supplySound) (n : Nat) : (lowerLimitExpiry n s).supplySound := by
  unfold lowerLimitExpiry
  split
  · exact supplySound_enterFault (supplySound_runTo h _) _ _
  · exact h

theorem supplySound_noTurnTimeout (h : s.supplySound) (n : Nat) : (noTurnTimeout n s).supplySound := by
  unfold noTurnTimeout
  split
  · exact supplySound_enterSettling (supplySound_runTo h _) _ _
  · exact h

theorem supplySound_driveWindowExpiry (h : s.supplySound) (n : Nat) : (driveWindowExpiry n s).supplySound := by
  unfold driveWindowExpiry
  split
  · exact (moves_cutDrive (.refl _) _).supply (supplySound_runTo h _)
  · exact h

theorem supplySound_driveImpulseEnd (h : s.supplySound) (n : Nat) : (driveImpulseEnd n s).supplySound := by
  unfold driveImpulseEnd
  split
  · exact (moves_cutDrive (.refl _) _).supply (supplySound_runTo h _)
  · exact h

theorem supplySound_ringEnd (h : s.supplySound) (n : Nat) : (ringEnd n s).supplySound := by
  unfold ringEnd
  repeat' split
  · exact (moves_stopUnit (.refl _) _ _ _).supply (supplySound_runTo h _)
  · exact h
  · exact h

theorem supplySound_settleTimerExpiry (h : s.supplySound) (n : Nat) : (settleTimerExpiry n s).supplySound := by
  unfold settleTimerExpiry
  split
  · exact (moves_unitNotice (moves_moveClaim (.refl _) _ _) _ _ _).supply
      (supplySound_setUnit (supplySound_runTo h _) _ _)
  · exact h

theorem supplySound_startStep (h : s.supplySound) : (startStep s).supplySound := by
  unfold startStep
  split
  · exact (moves_takeStartStep (.refl _)).supply (supplySound_runTo h _)
  · exact h

theorem supplySound_pealEndInstant (h : s.supplySound) : (pealEndInstant s).supplySound := by
  unfold pealEndInstant
  split
  · exact (moves_stopRun (.refl _) _ _).supply (supplySound_runTo h _)
  · exact h

theorem supplySound_stopStep (h : s.supplySound) : (stopStep s).supplySound := by
  unfold stopStep
  split
  · exact (moves_settleRun (moves_takeStopStep (.refl _))).supply (supplySound_runTo h _)
  · exact h

/-! ## The dials and the circuits (R119, R120, R135-R138) -/

theorem supplySound_dialSpacingExpiry (h : s.supplySound) (d : Nat) : (dialSpacingExpiry d s).supplySound := by
  unfold dialSpacingExpiry
  split
  · exact (moves_askDial (.refl _) _).supply (supplySound_setDial (supplySound_runTo h _) _ _)
  · exact h

theorem supplySound_dialImpulseEnd (h : s.supplySound) (d : Nat) : (dialImpulseEnd d s).supplySound := by
  unfold dialImpulseEnd
  split
  · have ended (instant : Nat) (w : Dial) : (((s.runTo instant).releaseAll (.dial d)).setDial d w).supplySound :=
      supplySound_setDial ((moves_releaseAll (.refl _) _).supply (supplySound_runTo h _)) _ _
    dsimp only
    repeat' split
    · exact (moves_classify (.refl _) _ _).supply (ended _ _)
    · exact (moves_moveDial (.refl _) _ _ _).supply (ended _ _)
    · exact (moves_judgeDial (.refl _) _).supply (ended _ _)
  · exact h

theorem supplySound_warmUpEnd (h : s.supplySound) (c : Nat) : (warmUpEnd c s).supplySound := by
  unfold warmUpEnd
  split
  · exact (moves_release (.refl _) _ _).supply (supplySound_changeCircuit (supplySound_runTo h _) _ _ _ _)
  · exact h

theorem supplySound_restrikeEnd (h : s.supplySound) (c : Nat) : (restrikeEnd c s).supplySound := by
  unfold restrikeEnd
  split
  · have ran (instant : Nat) : (s.runTo instant).supplySound := supplySound_runTo h _
    dsimp only
    repeat' split
    · exact supplySound_setCircuit (ran _) _ _
    · exact (moves_strike (.refl _) _ _).supply (ran _)
    · exact supplySound_changeCircuit (ran _) _ _ _ _
  · exact h

theorem supplySound_fadeStep (h : s.supplySound) (c : Nat) : (fadeStep c s).supplySound := by
  unfold fadeStep
  split
  · have stepped (instant : Nat) (w : Circuit) : ((s.runTo instant).setCircuit c w).supplySound :=
      supplySound_setCircuit (supplySound_runTo h _) _ _
    rename_i instant _ _ _
    dsimp only
    generalize (if _ < ((s.runTo instant).circuit c).target then _ else _) = level
    split
    · exact (moves_darken (.refl _) _ _).supply (stepped _ _)
    · split
      · exact (moves_release (moves_runFade (.refl _) _) _ _).supply (stepped _ _)
      · exact (moves_runFade (.refl _) _).supply (stepped _ _)
  · exact h

theorem supplySound_overrideExpiry (h : s.supplySound) (c : Nat) : (overrideExpiry c s).supplySound := by
  unfold overrideExpiry
  split
  · exact (moves_post (.refl _) _).supply (supplySound_setCircuit (supplySound_runTo h _) _ _)
  · exact h

/-! ## The light monitor, the converter and the arbiter (R147, R151, R164) -/

theorem supplySound_sampleInstant (h : s.supplySound) : (sampleInstant s).supplySound := by
  unfold sampleInstant
  split
  · exact (moves_sampleNow (.refl _)).supply (supplySound_runTo h _)
  · exact h

theorem supplySound_conversionEnd (h : s.supplySound) (reading : Nat) : (conversionEnd reading s).supplySound := by
  unfold conversionEnd
  split
  · exact h
  · have ended (instant : Nat) (c : Converter) : ((s.runTo instant).withConverter c).beginConversion.supplySound :=
      (moves_beginConversion (moves_withConverter (.refl _) _)).supply (supplySound_runTo h _)
    dsimp only
    split
    · exact supplySound_coilResult (ended _ _) _ _
    · exact supplySound_lightResult (ended _ _) _

theorem supplySound_shedTimerExpiry (h : s.supplySound) (c : Claimant) : (shedTimerExpiry c s).supplySound := by
  have written (instant : Nat) (waiting : List SupplyRequest) (shed : Bool) : ((s.runTo instant).withSupply
      { s.supply with waiting := waiting, shed := shed }).supplySound := h
  unfold shedTimerExpiry
  split
  · exact h
  · split
    · exact h
    · dsimp only
      split
      · exact written _ _ _
      · exact (moves_post (moves_notify (.refl _) _) _).supply (written _ _ _)

/-! ## The power monitor (R168-R171) -/

theorem supplySound_whenRunning {f : State → State} (h : s.supplySound) (k : (f s).supplySound) :
    (s.whenRunning f).supplySound := by
  unfold State.whenRunning
  split
  · exact k
  · exact h

theorem supplySound_setMains (h : s.supplySound) (mains : Mains) (settle : Option Nat) :
    (s.setMains mains settle).supplySound := by
  have set : (s.withPower { s.power with mains := mains, settle := settle }).supplySound := supplySound_withPower h _
  have told := (moves_notify (.refl _) (.mains s.power.mains mains s.now)).supply set
  unfold State.setMains
  dsimp only
  repeat' split
  · exact set
  · exact (moves_loseMains (.refl _)).supply told
  · exact (moves_postAll (.refl _) _).supply told
  · exact told

theorem supplySound_mainsLineAbsent (h : s.supplySound) : (mainsLineAbsent s).supplySound := by
  have line : (s.withPower { s.power with linePresent := false }).supplySound := supplySound_withPower h _
  unfold mainsLineAbsent
  refine supplySound_whenRunning line ?_
  split
  · exact line
  · exact supplySound_setMains line _ _

theorem supplySound_mainsLinePresent (h : s.supplySound) : (mainsLinePresent s).supplySound := by
  have line : (s.withPower { s.power with linePresent := true }).supplySound := supplySound_withPower h _
  unfold mainsLinePresent
  refine supplySound_whenRunning line ?_
  split
  · exact supplySound_setMains line _ _
  · exact line

theorem supplySound_mainsSettleExpiry (h : s.supplySound) : (mainsSettleExpiry s).supplySound := by
  refine supplySound_whenRunning h ?_
  split
  · exact h
  · exact supplySound_setMains (supplySound_runTo h _) _ _

theorem supplySound_accessSwitchChange (h : s.supplySound) (shows : Access) :
    (accessSwitchChange shows s).supplySound := by
  have shown : (s.withPower { s.power with accessShows := shows }).supplySound := supplySound_withPower h _
  unfold accessSwitchChange
  split
  · exact h
  · exact supplySound_whenRunning shown (supplySound_withPower shown _)

theorem supplySound_accessTimerExpiry (h : s.supplySound) : (accessTimerExpiry s).supplySound := by
  refine supplySound_whenRunning h ?_
  split
  · exact h
  · have set (instant : Nat) (v : Power) : ((s.runTo instant).withPower v).supplySound :=
      supplySound_withPower (supplySound_runTo h _) _
    dsimp only
    split
    · exact (moves_postAll (moves_notify (.refl _) _) _).supply (set _ _)
    · exact set _ _

theorem supplySound_keySwitchChange (h : s.supplySound) (shows : Key) : (keySwitchChange shows s).supplySound := by
  have shown : (s.withPower { s.power with keyShows := shows }).supplySound := supplySound_withPower h _
  unfold keySwitchChange
  split
  · exact h
  · exact supplySound_whenRunning shown (supplySound_withPower shown _)

theorem supplySound_keyTimerExpiry (h : s.supplySound) : (keyTimerExpiry s).supplySound := by
  refine supplySound_whenRunning h ?_
  split
  · exact h
  · exact supplySound_withPower (supplySound_runTo h _) _

theorem supplySound_resetLineRelease (h : s.supplySound) : (resetLineRelease s).supplySound := by
  unfold resetLineRelease
  dsimp only
  repeat' split
  · exact supplySound_openLoading _ _
  · exact supplySound_withStart h _
  · exact h

theorem supplySound_powerOn (h : s.supplySound) (retained : Bool) : (powerOn retained s).supplySound := by
  unfold powerOn
  dsimp only
  repeat' split
  · exact h
  · exact supplySound_withStart h _
  · exact supplySound_openLoading _ _

/-! ## Every command -/

theorem supplySound_finish (h : s.supplySound) : s.finish.supplySound := s.finish_keeps.1 h

theorem supplySound_command {f : State → State} (h : s.supplySound) (k : (f s).supplySound) :
    (command f s).supplySound := by
  unfold command
  split
  · exact supplySound_finish k
  · exact h

theorem supplySound_readyCommand {f : State → State} (h : s.supplySound) (k : (f s).supplySound) :
    (readyCommand f s).supplySound := by
  unfold readyCommand
  split
  · exact supplySound_finish k
  · exact h

theorem supplySound_bytes (h : s.supplySound) (bytes : List RxByte) :
    (bytes.foldl (fun t b => command (receiveByte b) t) s).supplySound :=
  supplySound_foldl (fun _ b ht => supplySound_command ht (supplySound_receiveByte ht b)) h bytes

/-- Every command has a next state in which the units granted stay within the budget. -/
theorem supplySound_exec (i : Instr) (h : s.supplySound) : ∃ t, exec i s = .next t ∧ t.supplySound := by
  have always {f : State → State} (k : (f s).supplySound) := supplySound_command h k
  have inReady {f : State → State} (k : (f s).supplySound) := supplySound_readyCommand h k
  cases i with
  | status | faults | clearfault | get | put | erase | list | save | restart | rate | settime | timeinfo | quiet
  | dayinfo | play | cancel | queue | ring | halt | peal | endpeal | dialset | dialstop | scene | override
  | floodinfo | lightinfo | supplyinfo | unknownKindFrame => exact ⟨_, rfl, always (supplySound_wholeFrame h _ _)⟩
  | frameDiscarded bytes => exact ⟨_, rfl, supplySound_bytes h bytes⟩
  | transmitFrameEnd => exact ⟨_, rfl, always (supplySound_transmitFrameEnd h)⟩
  | civilMinuteBoundary => exact ⟨_, rfl, inReady (supplySound_civilMinuteBoundary h)⟩
  | civilHalfMinuteBoundary => exact ⟨_, rfl, inReady (supplySound_civilHalfMinuteBoundary h)⟩
  | keptSecondEnd => exact ⟨_, rfl, inReady (supplySound_keptSecondEnd h)⟩
  | rangeEnd => exact ⟨_, rfl, inReady (supplySound_rangeEnd h)⟩
  | seasonalInstant => exact ⟨_, rfl, inReady (supplySound_seasonalInstant h)⟩
  | lossOfLock => exact ⟨_, rfl, inReady (supplySound_lossOfLock h)⟩
  | holdoverLimit => exact ⟨_, rfl, inReady (supplySound_holdoverLimit h)⟩
  | telegramRecord chars => exact ⟨_, rfl, inReady (supplySound_telegramRecord h chars)⟩
  | telegramRecordTimeout => exact ⟨_, rfl, inReady (supplySound_telegramRecordTimeout h)⟩
  | telegramMark => exact ⟨_, rfl, inReady (supplySound_telegramMark h)⟩
  | telegramMarkDeadline => exact ⟨_, rfl, inReady (supplySound_telegramMarkDeadline h)⟩
  | telegramSilence => exact ⟨_, rfl, inReady (supplySound_telegramSilence h)⟩
  | secondMarkEdge => exact ⟨_, rfl, inReady (supplySound_secondMarkEdge h)⟩
  | secondMarkTimeout => exact ⟨_, rfl, inReady (supplySound_secondMarkTimeout h)⟩
  | skewDecisionTimeout => exact ⟨_, rfl, inReady (supplySound_skewDecisionTimeout h)⟩
  | headDue => exact ⟨_, rfl, inReady (supplySound_headDue h)⟩
  | startDeadline id => exact ⟨_, rfl, inReady (supplySound_startDeadline h id)⟩
  | noteDue => exact ⟨_, rfl, inReady (supplySound_noteDue h)⟩
  | noteWaitExpiry => exact ⟨_, rfl, inReady (supplySound_noteWaitExpiry h)⟩
  | tailEnd => exact ⟨_, rfl, inReady (supplySound_tailEnd h)⟩
  | pulseEnd b => exact ⟨_, rfl, inReady (supplySound_pulseEnd h b)⟩
  | recoveryEnd b => exact ⟨_, rfl, inReady (supplySound_recoveryEnd h b)⟩
  | senseInstant b => exact ⟨_, rfl, inReady (supplySound_senseInstant h b)⟩
  | reversal n => exact ⟨_, rfl, always (supplySound_reversal h n)⟩
  | indexCrossing n => exact ⟨_, rfl, always (supplySound_indexCrossing h n)⟩
  | raiseLimitExpiry n => exact ⟨_, rfl, inReady (supplySound_raiseLimitExpiry h n)⟩
  | driveWindowExpiry n => exact ⟨_, rfl, inReady (supplySound_driveWindowExpiry h n)⟩
  | driveImpulseEnd n => exact ⟨_, rfl, inReady (supplySound_driveImpulseEnd h n)⟩
  | ringEnd n => exact ⟨_, rfl, inReady (supplySound_ringEnd h n)⟩
  | noTurnTimeout n => exact ⟨_, rfl, inReady (supplySound_noTurnTimeout h n)⟩
  | lowerLimitExpiry n => exact ⟨_, rfl, inReady (supplySound_lowerLimitExpiry h n)⟩
  | settleTimerExpiry n => exact ⟨_, rfl, always (supplySound_settleTimerExpiry h n)⟩
  | startStep => exact ⟨_, rfl, inReady (supplySound_startStep h)⟩
  | pealEndInstant => exact ⟨_, rfl, inReady (supplySound_pealEndInstant h)⟩
  | stopStep => exact ⟨_, rfl, inReady (supplySound_stopStep h)⟩
  | dialSpacingExpiry d => exact ⟨_, rfl, inReady (supplySound_dialSpacingExpiry h d)⟩
  | dialImpulseEnd d => exact ⟨_, rfl, inReady (supplySound_dialImpulseEnd h d)⟩
  | warmUpEnd c => exact ⟨_, rfl, inReady (supplySound_warmUpEnd h c)⟩
  | restrikeEnd c => exact ⟨_, rfl, always (supplySound_restrikeEnd h c)⟩
  | fadeStep c => exact ⟨_, rfl, inReady (supplySound_fadeStep h c)⟩
  | overrideExpiry c => exact ⟨_, rfl, inReady (supplySound_overrideExpiry h c)⟩
  | sampleInstant => exact ⟨_, rfl, inReady (supplySound_sampleInstant h)⟩
  | conversionEnd reading => exact ⟨_, rfl, inReady (supplySound_conversionEnd h reading)⟩
  | shedTimerExpiry c => exact ⟨_, rfl, inReady (supplySound_shedTimerExpiry h c)⟩
  | mainsLineAbsent => exact ⟨_, rfl, supplySound_finish (supplySound_mainsLineAbsent h)⟩
  | mainsLinePresent => exact ⟨_, rfl, supplySound_finish (supplySound_mainsLinePresent h)⟩
  | mainsSettleExpiry => exact ⟨_, rfl, always (supplySound_mainsSettleExpiry h)⟩
  | accessSwitchChange shows => exact ⟨_, rfl, supplySound_finish (supplySound_accessSwitchChange h shows)⟩
  | accessTimerExpiry => exact ⟨_, rfl, always (supplySound_accessTimerExpiry h)⟩
  | keySwitchChange shows => exact ⟨_, rfl, supplySound_finish (supplySound_keySwitchChange h shows)⟩
  | keyTimerExpiry => exact ⟨_, rfl, always (supplySound_keyTimerExpiry h)⟩
  | saveTableWritten readBack => exact ⟨_, rfl, inReady (supplySound_saveTableWritten h readBack)⟩
  | resetLineHeld | supplyFailure => exact ⟨_, rfl, supplySound_withStart h _⟩
  | resetLineRelease => exact ⟨_, rfl, supplySound_resetLineRelease h⟩
  | powerOn retained => exact ⟨_, rfl, supplySound_powerOn h retained⟩
  | loadingEnd => exact ⟨_, rfl, always (supplySound_loadingEnd h)⟩
  | encoderEdge n dir => exact ⟨_, rfl, always (supplySound_setUnit h _ _)⟩

/-- Settles O5: the messages of a command grant within the budget (`Moves.supply`), and of the commands' own effects only a
PUT of the budget and the opening of LOADING write the budget. -/
theorem grantsStayWithinBudget : Obligations.GrantsStayWithinBudget := by
  unfold Obligations.GrantsStayWithinBudget
  intro s t sound stepped
  unfold step at stepped
  split at stepped
  · rename_i i rest _
    obtain ⟨u, runs, kept⟩ := supplySound_exec (s := { s with pending := rest }) i sound
    rw [runs] at stepped
    cases stepped
    exact kept
  · cases stepped
    exact supplySound_withTime sound _

end Sys2Proof.Proofs
end

section
/-! SUPPORT. The supply arbiter's operations, each by its branches: the walk of the waiting list, the service, the judging of
the shed signal, withdrawals and requests (R159-R164). -/
namespace Sys2Proof.Proofs

open Sys2Proof.Machine Sys2Proof.Claims

variable {s : State} {c : Claimant} {r q : SupplyRequest} {budget units : Nat}

/-! ## The classes the shed signal is for (R164) -/

theorem presses_eq_rank (c : Claimant) : decide ((supplyClass c).rank ≤ 1) = presses c := by
  cases c with
  | hammer | dial | swing | flood => rfl

theorem pressing_eq_presses (r : SupplyRequest) : r.pressing = presses r.claimant := presses_eq_rank r.claimant

theorem any_pressing_iff {l : List SupplyRequest} :
    l.any SupplyRequest.pressing = true ↔ ∃ r ∈ l, presses r.claimant = true := by
  simp only [List.any_eq_true, pressing_eq_presses]

/-! ## The walk (R161) -/

section
variable {g : Table Nat}

theorem serviceWalk_of_oversize (big : budget < r.units + Table.get 0 g r.claimant.number) (l : List SupplyRequest) :
    serviceWalk budget (r :: l) g =
      { serviceWalk budget l g with waiting := r :: (serviceWalk budget l g).waiting } :=
  if_pos (decide_eq_true big)

theorem oversize_of_le (small : r.units + Table.get 0 g r.claimant.number ≤ budget) : ¬oversize budget g r = true := by
  simpa [oversize] using small

theorem serviceWalk_of_fit (small : r.units + Table.get 0 g r.claimant.number ≤ budget)
    (fits : r.units + Table.sum g ≤ budget) (l : List SupplyRequest) :
    let g' := Table.put 0 g r.claimant.number (Table.get 0 g r.claimant.number + r.units)
    serviceWalk budget (r :: l) g =
      { serviceWalk budget l g' with granted := r :: (serviceWalk budget l g').granted } :=
  (if_neg (oversize_of_le small)).trans (if_pos fits)

theorem serviceWalk_of_stop (small : r.units + Table.get 0 g r.claimant.number ≤ budget)
    (lacks : budget < r.units + Table.sum g) (l : List SupplyRequest) :
    serviceWalk budget (r :: l) g = ⟨r :: l, [], g⟩ :=
  (if_neg (oversize_of_le small)).trans (if_neg (Nat.not_le.mpr lacks))

/-- The walk adds nothing to the list. -/
theorem mem_of_mem_serviceWalk {l : List SupplyRequest} (h : q ∈ (serviceWalk budget l g).waiting) : q ∈ l := by
  induction l generalizing g with
  | nil => exact h
  | cons r l ih =>
    unfold serviceWalk at h
    split at h
    · rcases List.mem_cons.mp h with rfl | later
      · exact List.mem_cons_self
      · exact List.mem_cons_of_mem r (ih later)
    · split at h
      · exact List.mem_cons_of_mem r (ih h)
      · exact h

end

/-! ## Joining the list (R160) -/

theorem mem_joinList {l : List SupplyRequest} : q ∈ joinList r l ↔ q = r ∨ q ∈ l := by
  induction l with
  | nil => exact List.mem_cons
  | cons p l ih =>
    unfold joinList
    split
    · exact List.mem_cons
    · rw [List.mem_cons, List.mem_cons, ih, or_left_comm]

/-- In a list in the order of the classes a request joins at the tail of its class. -/
theorem joinList_of_ordered {l : List SupplyRequest}
    (ordered : l.Pairwise fun a b => (supplyClass a.claimant).rank ≤ (supplyClass b.claimant).rank) :
    ∃ before after, l = before ++ after ∧ joinList r l = before ++ r :: after ∧
      (∀ q ∈ before, (supplyClass q.claimant).rank ≤ (supplyClass r.claimant).rank) ∧
      ∀ q ∈ after, (supplyClass r.claimant).rank < (supplyClass q.claimant).rank := by
  induction l with
  | nil => exact ⟨[], [], rfl, rfl, nofun, nofun⟩
  | cons p l ih =>
    obtain ⟨first, rest⟩ := List.pairwise_cons.mp ordered
    unfold joinList
    split
    · rename_i higher
      refine ⟨[], p :: l, rfl, rfl, nofun, fun q hq => ?_⟩
      rcases List.mem_cons.mp hq with rfl | later
      · exact higher
      · exact higher.trans_le (first q later)
    · rename_i lower
      obtain ⟨before, after, split, joins, low, high⟩ := ih rest
      refine ⟨p :: before, after, by rw [split]; rfl, by rw [joins]; rfl, fun q hq => ?_, high⟩
      rcases List.mem_cons.mp hq with rfl | earlier
      · exact Nat.le_of_not_lt lower
      · exact low q earlier

/-! ## The shed signal judged (R164) -/

/-- A HAMMER or DIAL request that can be met waits. -/
def Pressed (s : State) : Prop :=
  ∃ r ∈ s.supply.waiting, presses r.claimant = true ∧ r.units + s.held r.claimant ≤ s.tables.supply.budget

theorem pressed_iff :
    (s.supply.waiting.any fun r => r.pressing && !oversize s.tables.supply.budget s.supply.grants r) = true ↔
      Pressed s := by
  simp only [List.any_eq_true, Bool.and_eq_true, pressing_eq_presses, oversize, Bool.not_eq_true', decide_eq_false_iff_not,
    Nat.not_lt]
  rfl

theorem shedCheck_of_still (h : s.supply.shed = false ∨ Pressed s) : s.shedCheck = s := by
  refine if_neg ?_
  rcases h with clear | pressed
  · simp [clear]
  · rw [pressed_iff.mpr pressed]
    simp

theorem shedCheck_of_clear (set : s.supply.shed = true) (free : ¬Pressed s) :
    s.shedCheck = (supplyTells .shedClear none (s.withSupply { s.supply with shed := false })).post .shedClear := by
  refine if_pos ?_
  rw [set, Bool.eq_false_iff.mpr (mt pressed_iff.mp free)]
  rfl

theorem waiting_shedCheck (s : State) : s.shedCheck.supply.waiting = s.supply.waiting := by
  unfold State.shedCheck
  dsimp only
  split <;> rfl

/-! ## The service (R161) -/

/-- The walk of the waiting list in a state. -/
def walk (s : State) : Service := serviceWalk s.tables.supply.budget s.supply.waiting s.supply.grants

/-- The walk's grants taken and told. -/
def served (s : State) : State :=
  (s.withSupply { s.supply with waiting := (walk s).waiting, grants := (walk s).grants }).postAll
    ((walk s).granted.map fun r => .granted r.claimant r.units)

theorem serve_of_pressing (h : ∃ r ∈ (walk s).granted, presses r.claimant = true) : s.serve = (served s).shedCheck :=
  if_pos (any_pressing_iff.mpr h)

theorem serve_of_noPressing (h : ∀ r ∈ (walk s).granted, presses r.claimant = false) : s.serve = served s := by
  refine if_neg (mt any_pressing_iff.mp ?_)
  rintro ⟨r, granted, press⟩
  rw [h r granted] at press
  cases press

/-- The service adds nothing to the list. -/
theorem mem_of_mem_serve (h : q ∈ s.serve.supply.waiting) : q ∈ s.supply.waiting := by
  refine mem_of_mem_serviceWalk (budget := s.tables.supply.budget) (g := s.supply.grants) ?_
  unfold State.serve at h
  dsimp only at h
  split at h
  · rwa [waiting_shedCheck] at h
  · exact h

/-! ## Releases and withdrawals (R162, R163) -/

theorem release_zero (s : State) (c : Claimant) : s.release c 0 = s := if_pos rfl

theorem release_of_units (nonzero : units ≠ 0) :
    s.release c units =
      (s.withSupply { s.supply with grants := Table.put 0 s.supply.grants c.number (s.held c - units) }).serve :=
  if_neg nonzero

/-- The claimants' requests taken off the list together. -/
def leave (l : List Claimant) (s : State) : State :=
  s.withSupply { s.supply with waiting := s.supply.waiting.filter fun r => r.claimant ∉ l }

theorem anyWaiting_iff {l : List Claimant} : l.any s.isWaiting = true ↔ ∃ r ∈ s.supply.waiting, r.claimant ∈ l := by
  simp only [List.any_eq_true, State.isWaiting, decide_eq_true_eq]
  constructor
  · rintro ⟨c, named, r, waits, rfl⟩
    exact ⟨r, waits, named⟩
  · rintro ⟨r, waits, named⟩
    exact ⟨r.claimant, named, r, waits, rfl⟩

theorem withdrawAll_of_absent {l : List Claimant} (absent : ∀ r ∈ s.supply.waiting, r.claimant ∉ l) :
    s.withdrawAll l = s := by
  refine if_neg (mt anyWaiting_iff.mp ?_)
  rintro ⟨r, waits, named⟩
  exact absent r waits named

theorem withdrawAll_of_waiting {l : List Claimant} (waits : ∃ r ∈ s.supply.waiting, r.claimant ∈ l) :
    s.withdrawAll l = (if ∃ c ∈ l, presses c = true then (leave l s).shedCheck else leave l s).serve := by
  have left : (s.withSupply { s.supply with waiting := s.supply.waiting.filter fun r => !l.contains r.claimant }) =
      leave l s := by
    simp [leave]
  have judged : (l.any fun c => decide ((supplyClass c).rank ≤ 1)) = true ↔ ∃ c ∈ l, presses c = true := by
    simp only [presses_eq_rank, List.any_eq_true]
  refine (if_pos (anyWaiting_iff.mpr waits)).trans (congrArg State.serve ?_)
  dsimp only
  rw [left]
  exact if_congr judged rfl rfl

theorem withdraw_of_absent (absent : ∀ r ∈ s.supply.waiting, r.claimant ≠ c) : s.withdraw c = s :=
  withdrawAll_of_absent fun r waits => by rw [List.mem_singleton]; exact absent r waits

theorem not_waiting_of_withdraw (h : r ∈ (s.withdraw c).supply.waiting) : r.claimant ≠ c := by
  by_cases waits : ∃ r ∈ s.supply.waiting, r.claimant ∈ [c]
  · have stays : r ∈ (leave [c] s).supply.waiting := by
      unfold State.withdraw at h
      rw [withdrawAll_of_waiting waits] at h
      have kept := mem_of_mem_serve h
      split at kept
      · rwa [waiting_shedCheck] at kept
      · exact kept
    simpa [leave] using (List.mem_filter.mp stays).2
  · push Not at waits
    unfold State.withdraw at h
    rw [withdrawAll_of_absent waits] at h
    simpa using waits r h

/-! ## Requests (R160) -/

/-- The request a claimant makes in a state. -/
def requestOf (s : State) (c : Claimant) (units : Nat) : SupplyRequest :=
  { claimant := c, units := units, joined := s.now
    shedAt := if presses c then some (s.now + s.tables.supply.delay) else none }

/-- The claimant's earlier request withdrawn, and the new one on the list. -/
def joined (s : State) (c : Claimant) (units : Nat) : State :=
  (s.withdraw c).withSupply
    { (s.withdraw c).supply with waiting := joinList (requestOf s c units) (s.withdraw c).supply.waiting }

theorem requestOf_withdraw (s : State) (c : Claimant) (units : Nat) :
    requestOf (s.withdraw c) c units = requestOf s c units := by
  unfold requestOf State.now
  rw [State.withdraw_time, State.withdraw_tables]

theorem request_eq (s : State) (c : Claimant) (units : Nat) :
    s.request c units = (if s.tables.supply.budget < units + (s.withdraw c).held c then
      supplyTells .oversize (some (c, units)) (joined s c units) else joined s c units).serve := by
  have made : (SupplyRequest.mk c units (s.withdraw c).now
      (if (supplyClass c).rank ≤ 1 then some ((s.withdraw c).now + (s.withdraw c).tables.supply.delay) else none)) =
      requestOf s c units := by
    rw [← requestOf_withdraw, requestOf, ← presses_eq_rank]
    simp only [decide_eq_true_eq]
  unfold State.request
  dsimp only
  rw [made]
  refine congrArg State.serve (if_congr ?_ rfl rfl)
  rw [State.withSupply_tables, State.withdraw_tables]
  exact decide_eq_true_iff

theorem request_of_fit (small : units + (s.withdraw c).held c ≤ s.tables.supply.budget) :
    s.request c units = (joined s c units).serve := by
  rw [request_eq, if_neg (Nat.not_lt.mpr small)]

theorem request_of_oversize (big : s.tables.supply.budget < units + (s.withdraw c).held c) :
    s.request c units = (supplyTells .oversize (some (c, units)) (joined s c units)).serve := by
  rw [request_eq, if_pos big]

/-- A request is the claimant's only one. -/
theorem eq_requestOf_of_mem (h : q ∈ (s.request c units).supply.waiting) (own : q.claimant = c) :
    q = requestOf s c units := by
  have listed : q ∈ joinList (requestOf s c units) (s.withdraw c).supply.waiting := by
    rw [request_eq] at h
    have kept := mem_of_mem_serve h
    split at kept
    · exact kept
    · exact kept
  exact (mem_joinList.mp listed).resolve_right fun earlier => not_waiting_of_withdraw earlier own

/-- Settles O54: each operation of the arbiter by its branches, and what is on the list after a withdrawal and after a
request. -/
theorem supplyService : Obligations.SupplyService := by
  unfold Obligations.SupplyService
  refine ⟨fun budget r l g => ⟨?passed, ?granted, ?stopped⟩, fun r l => joinList_of_ordered, fun s c units => ?releases,
    fun s => ⟨?told, ?untold, ?still, ?clears⟩, fun s l c => ⟨rfl, ?absent, ?leaves⟩, fun s c units => ⟨?fits, ?big, ?only⟩⟩
  case passed => exact fun big => serviceWalk_of_oversize big l
  case granted => exact fun small fits => serviceWalk_of_fit small fits l
  case stopped => exact fun small lacks => serviceWalk_of_stop small lacks l
  case releases =>
    exact ⟨release_zero s c, release_of_units, withdraw_of_absent, fun r waits => not_waiting_of_withdraw waits⟩
  case told => exact serve_of_pressing
  case untold => exact serve_of_noPressing
  case still => exact shedCheck_of_still
  case clears => exact shedCheck_of_clear
  case absent => exact withdrawAll_of_absent
  case leaves => exact withdrawAll_of_waiting
  case fits => exact request_of_fit
  case big => exact request_of_oversize
  case only => exact fun q waits own => eq_requestOf_of_mem waits own

end Sys2Proof.Proofs
end

section
/-! SUPPORT. What is off stays off: of each update and each of the blocks' operations, what it does to the drivers, the mains
state and the start phase (R168, R174). -/
namespace Sys2Proof.Proofs

open Sys2Proof.Machine Sys2Proof.Claims

variable {s t u : State} {b n d c : Nat}

/-- What the invariant of the drivers reads of a state: the objects' drivers, the mains state and the start phase. -/
def driverFields (s : State) : Table Bell × Table SwingUnit × Table Dial × Table Circuit × Mains × StartPhase :=
  (s.bells, s.units, s.dials.dials, s.floods.circuits, s.power.mains, s.start.phase)

/-- The mains state and the phase stand, and a part with every driver off has every driver off after it. -/
structure KeepsDark (s t : State) : Prop where
  mains : t.power.mains = s.power.mains
  phase : t.start.phase = s.start.phase
  dark : s.dark → t.dark

/-- The same while mains is not NORMAL: of the blocks' operations, some of which drive while it is. -/
structure KeepsDarkUnpowered (s t : State) : Prop where
  mains : t.power.mains = s.power.mains
  phase : t.start.phase = s.start.phase
  dark : s.mainsNormal = false → s.dark → t.dark

theorem mainsNormal_of_mains (h : t.power.mains = s.power.mains) : t.mainsNormal = s.mainsNormal := by
  unfold State.mainsNormal
  rw [h]

theorem KeepsDark.refl (s : State) : KeepsDark s s := ⟨rfl, rfl, id⟩

theorem KeepsDark.trans (h : KeepsDark s t) (k : KeepsDark t u) : KeepsDark s u :=
  ⟨k.mains.trans h.mains, k.phase.trans h.phase, k.dark ∘ h.dark⟩

theorem KeepsDark.same (h : KeepsDark s t) (e : driverFields u = driverFields t) : KeepsDark s u := by
  simp only [driverFields, Prod.mk.injEq] at e
  obtain ⟨bells, units, dials, circuits, mains, phase⟩ := e
  refine h.trans ⟨mains, phase, fun dark => ?_⟩
  unfold State.dark State.bell State.unit State.dial State.circuit at dark ⊢
  rwa [bells, units, dials, circuits]

theorem KeepsDark.of_fields (e : driverFields t = driverFields s) : KeepsDark s t := (KeepsDark.refl s).same e

theorem KeepsDark.unpowered (h : KeepsDark s t) : KeepsDarkUnpowered s t := ⟨h.mains, h.phase, fun _ => h.dark⟩

/-- What an operation moves and does not drive. -/
theorem KeepsDark.of_drivesNoMore (m : Moves s t) (k : DrivesNoMore s t) : KeepsDark s t :=
  ⟨by rw [m.power], by rw [m.start], fun ⟨hammers, drives, dials, circuits⟩ =>
    ⟨fun b hb => k.hammers b (hammers b hb), fun n hn => k.drives n (drives n hn),
      fun d hd => k.dials d (dials d hd), fun c hc => k.circuits c (circuits c hc)⟩⟩

theorem KeepsDarkUnpowered.refl (s : State) : KeepsDarkUnpowered s s := (KeepsDark.refl s).unpowered

theorem KeepsDarkUnpowered.trans (h : KeepsDarkUnpowered s t) (k : KeepsDarkUnpowered t u) : KeepsDarkUnpowered s u where
  mains := k.mains.trans h.mains
  phase := k.phase.trans h.phase
  dark down dark := k.dark ((mainsNormal_of_mains h.mains).trans down) (h.dark down dark)

theorem KeepsDarkUnpowered.of_moves (m : Moves s t) : KeepsDarkUnpowered s t :=
  ⟨by rw [m.power], by rw [m.start], m.dark⟩

/-- What the blocks' operations do after an update that drives nothing. -/
theorem KeepsDark.moves (h : KeepsDark s t) (m : Moves t u) : KeepsDarkUnpowered s u := h.unpowered.trans (.of_moves m)

theorem KeepsDarkUnpowered.of_fields (e : driverFields t = driverFields s) : KeepsDarkUnpowered s t :=
  (KeepsDark.of_fields e).unpowered

/-! ## The invariant -/

theorem darkWithoutMains_of_dark (h : s.dark) : s.darkWithoutMains := fun _ => h

theorem KeepsDark.darkWithoutMains (k : KeepsDark s t) (h : s.darkWithoutMains) : t.darkWithoutMains := fun off =>
  k.dark (h (off.imp (mainsNormal_of_mains k.mains).symm.trans k.phase.symm.trans))

/-- Past LOADING the mains state alone is looked at. -/
theorem KeepsDarkUnpowered.darkWithoutMains (k : KeepsDarkUnpowered s t) (past : s.start.phase ≠ .loading)
    (h : s.darkWithoutMains) : t.darkWithoutMains := by
  rintro (down | loading)
  · have was : s.mainsNormal = false := (mainsNormal_of_mains k.mains).symm.trans down
    exact k.dark was (h (.inl was))
  · exact absurd (k.phase.symm.trans loading) past

theorem not_ready_of_loading (h : s.start.phase = .loading) : s.ready = false := by
  unfold State.ready
  rw [h]
  exact Bool.and_false _

theorem phase_of_ready (h : s.ready = true) : s.start.phase ≠ .loading := fun loading => by
  rw [not_ready_of_loading loading] at h
  cases h

/-- In LOADING no message is handled. -/
theorem finish_of_loading (h : s.start.phase = .loading) : s.finish = (s.withAgenda []).pump := by
  unfold State.finish
  rw [not_ready_of_loading h]
  rfl

/-- The messages of a command drive nothing where mains is not NORMAL, and in LOADING none is handled. -/
theorem darkWithoutMains_finish (h : t.darkWithoutMains) : t.finish.darkWithoutMains := by
  by_cases loading : t.start.phase = .loading
  · rw [finish_of_loading loading, State.pump_eq]
    exact h
  · obtain ⟨v, m, -, e⟩ := t.finish_eq
    have k : KeepsDarkUnpowered t t.finish := by
      rw [e, v.pump_eq]
      exact (KeepsDarkUnpowered.of_moves m).trans (.of_fields rfl)
    exact k.darkWithoutMains loading h

theorem darkWithoutMains_command {f : State → State} (h : s.darkWithoutMains)
    (k : s.running = true → (f s).darkWithoutMains) : (command f s).darkWithoutMains := by
  unfold command
  split
  · rename_i running; exact darkWithoutMains_finish (k running)
  · exact h

theorem darkWithoutMains_readyCommand {f : State → State} (h : s.darkWithoutMains) (k : KeepsDarkUnpowered s (f s)) :
    (readyCommand f s).darkWithoutMains := by
  unfold readyCommand
  split
  · rename_i ready
    exact darkWithoutMains_finish (k.darkWithoutMains (phase_of_ready ready) h)
  · exact h

/-! ## Updates -/

theorem driverFields_runTo (s : State) (instant : Nat) : driverFields (s.runTo instant) = driverFields s := rfl

theorem driverFields_withRefs (s : State) (v : RefMonitor) : driverFields (s.withRefs v) = driverFields s := rfl

theorem keepsDark_runTo (s : State) (instant : Nat) : KeepsDark s (s.runTo instant) := .of_fields (driverFields_runTo s _)

theorem driverFields_of_arbitrates (k : Arbitrates s t) : driverFields t = driverFields s := by rw [k.eq]; rfl

theorem KeepsDark.post (h : KeepsDark s t) (m : Msg) : KeepsDark s (t.post m) := h.same rfl

theorem KeepsDark.notify (h : KeepsDark s t) (m : NoticeBody) : KeepsDark s (t.notify m) := h.same rfl

theorem KeepsDark.withLight (h : KeepsDark s t) (l : Light) : KeepsDark s (t.withLight l) := h.same rfl

theorem KeepsDark.unitNotice (h : KeepsDark s t) (n : Nat) (old : UnitState) (cause : UnitCause) :
    KeepsDark s (t.unitNotice n old cause) := h.same rfl

theorem KeepsDark.setBell (h : KeepsDark s t) {w : Bell}
    (off : (t.bell b).hammer.pulses = false → w.hammer.pulses = false) : KeepsDark s (t.setBell b w) := by
  refine h.trans ⟨rfl, rfl, fun ⟨hammers, rest⟩ => ⟨fun i hi => ?_, rest⟩⟩
  rw [State.bell_setBell]
  split
  · subst i; exact off (hammers b hi)
  · exact hammers i hi

theorem KeepsDark.setUnit (h : KeepsDark s t) {w : SwingUnit}
    (off : (t.unit n).drive.impulsing = false → w.drive.impulsing = false) : KeepsDark s (t.setUnit n w) := by
  refine h.trans ⟨rfl, rfl, fun ⟨hammers, drives, rest⟩ => ⟨hammers, fun i hi => ?_, rest⟩⟩
  rw [State.unit_setUnit]
  split
  · subst i; exact off (drives n hi)
  · exact drives i hi

theorem KeepsDark.setDial (h : KeepsDark s t) {w : Dial}
    (off : (t.dial d).drive.impulsing = false → w.drive.impulsing = false) : KeepsDark s (t.setDial d w) := by
  refine h.trans ⟨rfl, rfl, fun ⟨hammers, drives, dials, circuits⟩ => ⟨hammers, drives, fun i hi => ?_, circuits⟩⟩
  rw [State.dial_setDial]
  split
  · subst i; exact off (dials d hi)
  · exact dials i hi

theorem KeepsDark.setCircuit (h : KeepsDark s t) {w : Circuit}
    (off : (t.circuit c).state.lit = false → w.state.lit = false) : KeepsDark s (t.setCircuit c w) := by
  refine h.trans ⟨rfl, rfl, fun ⟨hammers, drives, dials, circuits⟩ => ⟨hammers, drives, dials, fun i hi => ?_⟩⟩
  rw [State.circuit_setCircuit]
  split
  · subst i; exact off (circuits c hi)
  · exact circuits i hi

theorem KeepsDark.changeCircuit (h : KeepsDark s t) {w : Circuit} (cause : FloodCause) (units : Nat)
    (off : (t.circuit c).state.lit = false → w.state.lit = false) : KeepsDark s (t.changeCircuit c w cause units) := by
  unfold State.changeCircuit
  dsimp only
  split
  · exact h.setCircuit off
  · exact (h.setCircuit off).same rfl

theorem KeepsDark.each (h : KeepsDark s t) {f : Nat → State → State} (hf : ∀ i v, KeepsDark v (f i v)) (l : List Nat) :
    KeepsDark s (t.each l f) :=
  each_keeps (P := KeepsDark s) (fun i v k => k.trans (hf i v)) l h

theorem driverFields_foldl {α : Type} {f : State → α → State} (hf : ∀ v a, driverFields (f v a) = driverFields v)
    (s : State) (l : List α) : driverFields (l.foldl f s) = driverFields s := by
  induction l generalizing s with
  | nil => rfl
  | cons a l ih => exact (ih _).trans (hf s a)

/-! ## The time base and the reference monitor (chapter 1) -/

theorem driverFields_retime (s : State) (v : TimeBase) (cause : TimeCause) (always : Bool) :
    driverFields (s.retime v cause always) = driverFields s := by
  unfold State.retime
  dsimp only
  repeat' split
  all_goals rfl

theorem driverFields_confirmation (tel : Telegram) (phase : Latch) (source : PhaseSource) (s : State) :
    driverFields (confirmation tel phase source s) = driverFields s := by
  unfold confirmation
  split <;> exact driverFields_retime s _ _ _

theorem driverFields_applyTimeSettings (s : State) : driverFields s.applyTimeSettings = driverFields s := by
  have judged : driverFields (limitJudged s) = driverFields s := by
    unfold limitJudged
    repeat' split
    · exact driverFields_retime s _ _ _
    all_goals rfl
  rw [applyTimeSettings_eq]
  unfold offsetJudged
  split
  · exact judged
  · exact (driverFields_retime _ _ _ _).trans judged
  · exact (driverFields_retime _ _ _ _).trans judged

theorem driverFields_failPending (s : State) : driverFields s.failPending = driverFields s := by
  unfold State.failPending
  split <;> rfl

theorem driverFields_takeChar (s : State) (v : Byte) : driverFields (takeChar s v) = driverFields s := by
  unfold takeChar
  dsimp only
  repeat' split
  case h_2 => exact driverFields_failPending _
  all_goals rfl

theorem driverFields_decideMark (e : Decision) (after : Option SecEdge) (s : State) :
    driverFields (decideMark e after s) = driverFields s := by
  unfold decideMark
  dsimp only
  repeat' split
  · rfl
  all_goals exact driverFields_confirmation _ _ _ _

theorem driverFields_phaseOf (s : State) (mark : Latch) (confirms : Option Telegram) :
    driverFields (s.phaseOf mark confirms) = driverFields s := by
  unfold State.phaseOf
  repeat' split
  · exact driverFields_decideMark _ _ s
  · rfl
  · exact driverFields_confirmation _ _ _ s
  · rfl

theorem driverFields_changeMode (s : State) (new : RefMode) : driverFields (s.changeMode new) = driverFields s := by
  unfold State.changeMode
  dsimp only
  split
  · split
    · exact driverFields_retime _ _ _ _
    · rfl
  · refine driverFields_foldl (fun v e => ?_) _ _
    split
    · exact driverFields_confirmation _ _ _ v
    · rfl
  · rfl

theorem driverFields_newTimeSettings (s : State) (new : TimeSettings) :
    driverFields (s.newTimeSettings new) = driverFields s := by
  unfold State.newTimeSettings
  rw [driverFields_applyTimeSettings]
  split
  · rfl
  · exact driverFields_changeMode _ _

/-! ## The light monitor (chapter 8) -/

theorem driverFields_lightTransition (s : State) (old new : LightState) :
    driverFields (s.lightTransition old new) = driverFields s := by
  unfold State.lightTransition
  split <;> rfl

theorem driverFields_lightResult (r : Nat) (s : State) : driverFields (lightResult r s) = driverFields s := by
  unfold lightResult goodLight outLight
  dsimp only
  repeat' split
  case isTrue.isTrue | isFalse.isTrue | isFalse.isFalse.isTrue => rfl
  all_goals exact driverFields_lightTransition _ _ _

theorem driverFields_newLightSettings (s : State) (new : LightSettings) :
    driverFields (s.newLightSettings new) = driverFields s := by
  unfold State.newLightSettings
  dsimp only
  split <;> rfl

/-! ## The bells (chapter 3) -/

theorem KeepsDark.refuseHeld (h : KeepsDark s t) (b : Nat) (r : Refused) : KeepsDark s (t.refuseHeld b r) :=
  h.trans (.of_drivesNoMore (moves_refuseHeld (.refl t) b r) (drivesNoMore_refuseHeld (.refl t) b r))

theorem KeepsDark.setHammerFault (h : KeepsDark s t) (b : Nat) (f : HammerFault) (reading : Nat) :
    KeepsDark s (t.setHammerFault b f reading) := by
  have marked : KeepsDark s (t.setBell b { t.bell b with fault := f, newMark := true }) := h.setBell (by exact id)
  exact ((marked.notify _).post _).refuseHeld b .fault

theorem keepsDarkUnpowered_coilResult (b reading : Nat) (s : State) : KeepsDarkUnpowered s (coilResult b reading s) := by
  have read : KeepsDark s (s.setBell b { s.bell b with reading := some reading }) := (KeepsDark.refl s).setBell (by exact id)
  unfold coilResult
  generalize s.setBell b { s.bell b with reading := some reading } = t at read
  have counts (opens : Nat) : KeepsDark s (t.setBell b { t.bell b with opens := opens }) := read.setBell (by exact id)
  dsimp only
  repeat' split
  · exact read.unpowered
  · exact ((counts _).setHammerFault _ _ _).unpowered
  · exact (counts _).unpowered
  · exact (read.setHammerFault _ _ _).moves (moves_pulseEnds (.refl _) b)
  · exact (read.setHammerFault _ _ _).unpowered
  · exact (counts _).unpowered

/-! ## The swing units (chapter 5) -/

theorem KeepsDark.cutDrive (h : KeepsDark s t) (n : Nat) : KeepsDark s (t.cutDrive n) :=
  h.trans (.of_drivesNoMore (moves_cutDrive (.refl t) n) (drivesNoMore_cutDrive (.refl t) n))

theorem KeepsDark.moveClaim (h : KeepsDark s t) (n : Nat) (claim : Claim) : KeepsDark s (t.moveClaim n claim) := by
  unfold State.moveClaim
  split
  · exact (h.setBell (by exact id)).post _
  · exact h

/-- A drive impulse asked for waits for its units (R101). -/
theorem KeepsDark.askImpulse (h : KeepsDark s t) (n : Nat) (dir : Dir) (kick braking : Bool) :
    KeepsDark s (t.askImpulse n dir kick braking) := by
  unfold State.askImpulse
  dsimp only
  split
  · exact (h.setUnit (n := n) fun _ => rfl).same (driverFields_of_arbitrates (arbitrates_request (.refl _) _ _))
  · exact h

theorem KeepsDark.enterSettling (h : KeepsDark s t) (n : Nat) (cause : UnitCause) :
    KeepsDark s (t.enterSettling n cause) := by
  unfold State.enterSettling
  dsimp only
  exact (((h.cutDrive n).setUnit (by exact id)).moveClaim n _).unitNotice _ _ _

theorem KeepsDark.enterFault (h : KeepsDark s t) (n : Nat) (f : UnitFault) : KeepsDark s (t.enterFault n f) := by
  unfold State.enterFault
  dsimp only
  exact ((((h.cutDrive n).setUnit (by exact id)).moveClaim n _).notify _).unitNotice _ _ _

theorem KeepsDark.enterSwinging (h : KeepsDark s t) (n : Nat) : KeepsDark s (t.enterSwinging n) := by
  unfold State.enterSwinging
  dsimp only
  split
  · exact ((h.cutDrive n).setUnit (by exact id)).unitNotice _ _ _
  · exact (h.setUnit (by exact id)).unitNotice _ _ _

theorem KeepsDark.actOnTurn (h : KeepsDark s t) (n : Nat) (amplitude : Option Nat) (dir : Dir) :
    KeepsDark s (t.actOnTurn n amplitude dir) := by
  unfold State.actOnTurn
  dsimp only
  repeat' split
  · exact h
  · exact h
  · exact h.askImpulse _ _ _ _
  · exact h.enterSwinging n
  · exact h
  · exact h.askImpulse _ _ _ _
  · exact h
  · exact h
  · exact (h.setUnit (by exact id)).askImpulse _ _ _ _
  · exact h.setUnit (by exact id)
  · exact h.setUnit (by exact id)

theorem KeepsDark.takeTurn (h : KeepsDark s t) (n : Nat) (amplitude : Option Nat) (dir : Dir) :
    KeepsDark s (t.takeTurn n amplitude dir) := by
  unfold State.takeTurn
  dsimp only
  split
  · exact h.setUnit (by exact id)
  · split
    · exact (h.setUnit (by exact id)).enterFault _ _
    · exact (h.setUnit (by exact id)).actOnTurn _ _ _

end Sys2Proof.Proofs
end

section
/-! SUPPORT. The requests drive nothing while mains is not NORMAL (R168). -/
namespace Sys2Proof.Proofs

open Sys2Proof.Machine Sys2Proof.Claims

variable {s t : State}

/-! ## PUT and ERASE (R186) -/

theorem keepsDarkUnpowered_newDialRecord (s : State) (d : Nat) (old new : DialRec) :
    KeepsDarkUnpowered s (s.newDialRecord d old new) := by
  unfold State.newDialRecord
  repeat' split
  · exact .of_moves (moves_forgetDial (.refl s) _ _)
  · exact .of_moves (moves_repeatOrClassify (.refl s) _ _)
  · exact .refl s

theorem keepsDarkUnpowered_putDial (d : Nat) (new : DialRec) (s : State) : KeepsDarkUnpowered s (putDial d new s).1 := by
  have written : KeepsDarkUnpowered s (s.withTables { s.tables with dial := Table.put dialRec0 s.tables.dial d new }) :=
    .of_fields rfl
  unfold putDial
  repeat' split
  · exact .refl s
  · exact .refl s
  · exact written.trans (keepsDarkUnpowered_newDialRecord _ _ _ _)

/-- A record that no driver hangs on is written, or refused without effect. -/
theorem driverFields_putRecord (s : State) (i : Nat) :
    (∀ new, driverFields (putBell i new s).1 = driverFields s) ∧ (∀ new, driverFields (putSwing i new s).1 = driverFields s) ∧
    (∀ new, driverFields (putPlan i new s).1 = driverFields s) ∧ (∀ new, driverFields (putTune i new s).1 = driverFields s) ∧
    (∀ new, driverFields (putNote i new s).1 = driverFields s) ∧
    (∀ new, driverFields (putCircuit i new s).1 = driverFields s) := by
  unfold putBell putSwing putPlan putTune putNote putCircuit
  refine ⟨fun new => ?_, fun new => ?_, fun new => ?_, fun new => ?_, fun new => ?_, fun new => ?_⟩
  all_goals
    repeat' split
    all_goals rfl

theorem driverFields_putSpecial (e : Nat) (new : Special) (s : State) :
    driverFields (putSpecial e new s).1 = driverFields s := by
  unfold putSpecial State.reclass
  repeat' split
  all_goals rfl

theorem driverFields_putSupply (new : SupplySettings) (s : State) : driverFields (putSupply new s).1 = driverFields s := by
  unfold putSupply
  repeat' split
  · rfl
  · rfl
  · exact (driverFields_of_arbitrates (arbitrates_serve (.refl _))).trans rfl

theorem keepsDarkUnpowered_ranged {α : Type} {write : α → State → State × Status}
    (h : ∀ new, KeepsDarkUnpowered s (write new s).1) (reading : Option α) :
    KeepsDarkUnpowered s (ranged reading write s).1 := by
  unfold ranged
  split
  · exact h _
  · exact .refl s

theorem keepsDarkUnpowered_putGroup (group : Nat) (v : List Nat) (s : State) :
    KeepsDarkUnpowered s (putGroup group v s).1 := by
  unfold putGroup
  split
  · exact keepsDarkUnpowered_ranged (fun new => .of_fields (driverFields_newTimeSettings s new)) _
  · exact keepsDarkUnpowered_ranged (fun _ => .of_fields rfl) _
  · exact keepsDarkUnpowered_ranged (fun new => .of_fields (driverFields_newLightSettings s new)) _
  · exact keepsDarkUnpowered_ranged (fun new => .of_fields (driverFields_putSupply new s)) _
  · exact keepsDarkUnpowered_ranged (fun _ => .of_fields rfl) _
  · exact keepsDarkUnpowered_ranged (fun _ => .of_fields rfl) _

theorem keepsDarkUnpowered_putValues (table i : Nat) (v : List Nat) (s : State) :
    KeepsDarkUnpowered s (putValues table i v s).1 := by
  obtain ⟨bell, swing, plan, tune, note, circuit⟩ := driverFields_putRecord s i
  unfold putValues
  split
  · exact keepsDarkUnpowered_ranged (fun new => .of_fields (bell new)) _
  · exact keepsDarkUnpowered_ranged (fun new => .of_fields (swing new)) _
  · exact keepsDarkUnpowered_ranged (fun new => .of_fields (plan new)) _
  · exact keepsDarkUnpowered_ranged (fun new => .of_fields (tune new)) _
  · exact keepsDarkUnpowered_ranged (fun new => .of_fields (note new)) _
  · exact keepsDarkUnpowered_ranged (fun new => keepsDarkUnpowered_putDial i new s) _
  · exact keepsDarkUnpowered_ranged (fun new => .of_fields (circuit new)) _
  · exact keepsDarkUnpowered_ranged (fun _ => .of_fields rfl) _
  · exact keepsDarkUnpowered_ranged (fun _ => .of_fields rfl) _
  · exact keepsDarkUnpowered_ranged (fun new => .of_fields (driverFields_putSpecial i new s)) _
  · exact keepsDarkUnpowered_ranged (fun _ => .of_fields rfl) _
  · exact keepsDarkUnpowered_putGroup i v s

theorem keepsDarkUnpowered_putRequest (body : List Byte) (s : State) : KeepsDarkUnpowered s (putRequest body s).1 := by
  unfold putRequest plain
  dsimp only
  repeat' split
  case h_1 => exact keepsDarkUnpowered_putValues _ _ _ s
  all_goals exact .refl s

/-- An object not in use is erased without effect (log 41). -/
theorem keepsDarkUnpowered_ifUsed {used : Prop} [Decidable used] {write : State × Status}
    (h : KeepsDarkUnpowered s write.1) : KeepsDarkUnpowered s (if used then write else (s, .ok)).1 := by
  split
  · exact h
  · exact .refl s

theorem keepsDarkUnpowered_eraseGroup (group : Nat) (s : State) : KeepsDarkUnpowered s (eraseGroup group s).1 := by
  unfold eraseGroup
  split
  · exact .of_fields (driverFields_newTimeSettings s _)
  · exact .of_fields rfl
  · exact .of_fields (driverFields_newLightSettings s _)
  · exact .of_fields (driverFields_putSupply _ s)
  · exact .of_fields rfl
  · exact .of_fields rfl

theorem keepsDarkUnpowered_eraseEntry (table i : Nat) (s : State) : KeepsDarkUnpowered s (eraseEntry table i s).1 := by
  obtain ⟨bell, swing, plan, tune, note, circuit⟩ := driverFields_putRecord s i
  unfold eraseEntry
  split
  · exact keepsDarkUnpowered_ifUsed (.of_fields (bell _))
  · exact .of_fields (swing _)
  · exact .of_fields (plan _)
  · exact .of_fields (tune _)
  · exact .of_fields (note _)
  · exact keepsDarkUnpowered_ifUsed (keepsDarkUnpowered_putDial i _ s)
  · exact keepsDarkUnpowered_ifUsed (.of_fields (circuit _))
  · exact .of_fields rfl
  · exact .of_fields rfl
  · exact .of_fields (driverFields_putSpecial i _ s)
  · exact .of_fields rfl
  · exact keepsDarkUnpowered_eraseGroup i s

theorem keepsDarkUnpowered_eraseRequest (body : List Byte) (s : State) :
    KeepsDarkUnpowered s (eraseRequest body s).1 := by
  unfold eraseRequest plain
  dsimp only
  split
  · exact keepsDarkUnpowered_eraseEntry _ _ s
  · exact .refl s

/-! ## The requests of the blocks (R181) -/

theorem keepsDark_clearNewMarks (s : State) : KeepsDark s s.clearNewMarks := by
  have bells := (KeepsDark.refl s).each
    (fun b v => (KeepsDark.refl v).setBell (b := b) (w := { v.bell b with newMark := false }) id) bellNumbers
  have units := bells.each
    (fun n v => (KeepsDark.refl v).setUnit (n := n) (w := { v.unit n with newMark := false }) id) unitNumbers
  exact units.withLight _

theorem keepsDark_clearUnitFault (s : State) (n : Nat) : KeepsDark s (s.clearUnitFault n) := by
  unfold State.clearUnitFault
  dsimp only
  split
  · exact ((KeepsDark.refl s).setUnit (by exact id)).enterSettling _ _
  · exact (KeepsDark.refl s).setUnit (by exact id)

theorem keepsDark_clearfaultRequest (v : List Nat) (s : State) : KeepsDark s (clearfaultRequest v s).1 := by
  unfold clearfaultRequest State.clearBellFault
  repeat' split
  · exact ((KeepsDark.refl s).setBell (by exact id)).post _
  · exact .refl s
  · exact keepsDark_clearUnitFault s _
  · exact .refl s
  · exact .of_fields rfl
  · exact .refl s

theorem driverFields_settimeRequest (v : List Nat) (s : State) : driverFields (settimeRequest v s).1 = driverFields s := by
  unfold settimeRequest
  dsimp only
  repeat' split
  case isFalse.isFalse => exact driverFields_retime _ _ _ _
  all_goals rfl

theorem driverFields_quietRequest (v : List Nat) (s : State) : driverFields (quietRequest v s).1 = driverFields s := by
  unfold quietRequest
  split <;> rfl

theorem driverFields_offer (s : State) (p : Perf) : driverFields (s.offer p).1 = driverFields s := by
  unfold State.offer
  split <;> rfl

theorem driverFields_playBody (v : List Nat) (s : State) : driverFields (playBody v s).1 = driverFields s := by
  have plays (kind : PerfKind) (args : PerfArgs) (due : Option Nat) :
      driverFields (playRequest kind args due s).1 = driverFields s := by
    unfold playRequest
    split
    · rfl
    · dsimp only
      split
      all_goals
        rename_i offered
        exact congrArg Prod.fst offered ▸ driverFields_offer s _
  unfold playBody
  repeat' split
  · exact plays _ _ _
  all_goals rfl

theorem keepsDarkUnpowered_cancelBody (v : List Nat) (s : State) : KeepsDarkUnpowered s (cancelBody v s).1 := by
  unfold cancelBody cancelPerf plain
  repeat' split
  · exact .refl s
  · exact .refl s
  · exact .of_moves (moves_endPlaying (.refl s) _)
  · exact .refl s
  · exact .of_moves (moves_drop (.refl s) _ _)
  · exact .refl s

theorem keepsDarkUnpowered_ringBody (v : List Nat) (s : State) : KeepsDarkUnpowered s (ringBody v s).1 := by
  have rings (n minutes : Nat) : KeepsDarkUnpowered s (ringRequest n minutes s).1 := by
    unfold ringRequest
    split
    · exact .refl s
    · exact .of_moves (moves_startUnit (.refl s) _ _ _ _)
  unfold ringBody
  repeat' split
  · exact rings _ _
  all_goals exact .refl s

theorem keepsDarkUnpowered_haltBody (v : List Nat) (s : State) : KeepsDarkUnpowered s (haltBody v s).1 := by
  have halts (n : Nat) : KeepsDarkUnpowered s (haltRequest n s) := by
    have halted := moves_haltUnit (.refl s) n .halt .halt
    unfold haltRequest
    dsimp only
    split
    · exact .of_moves (moves_withRun halted _)
    · exact .of_moves halted
  unfold haltBody
  repeat' split
  · exact halts _
  all_goals exact .refl s

theorem keepsDarkUnpowered_pealBody (v : List Nat) (s : State) : KeepsDarkUnpowered s (pealBody v s).1 := by
  unfold pealBody
  repeat' split
  · exact .of_moves (moves_startPeal (.refl s) _)
  all_goals exact .refl s

theorem keepsDarkUnpowered_endPeal (s : State) : KeepsDarkUnpowered s (endPeal s).1 := by
  unfold endPeal
  split
  · exact .refl s
  · exact .refl s
  · exact .of_moves (moves_stopRun (.refl s) _ _)

theorem keepsDarkUnpowered_dialsetRequest (d face : Nat) (next : Dir) (s : State) :
    KeepsDarkUnpowered s (dialsetRequest d face next s).1 := by
  have set (w : Dial) (idle : w.drive = .idle) : KeepsDark s (s.setDial d w) :=
    (KeepsDark.refl s).setDial fun _ => by rw [idle]; rfl
  unfold dialsetRequest
  split
  · exact .refl s
  · dsimp only
    split
    · exact (set _ rfl).moves (moves_askDial (moves_moveDial (moves_withdraw (.refl _) _) _ _ _) _)
    · exact (set _ rfl).moves (moves_askDial (moves_moveDial (.refl _) _ _ _) _)

theorem keepsDarkUnpowered_dialsetBody (v : List Nat) (s : State) : KeepsDarkUnpowered s (dialsetBody v s).1 := by
  unfold dialsetBody
  split
  · split
    · exact keepsDarkUnpowered_dialsetRequest _ _ _ s
    · exact .refl s
  · exact .refl s

theorem keepsDarkUnpowered_dialstopRequest (d : Nat) (stop : Bool) (s : State) :
    KeepsDarkUnpowered s (dialstopRequest d stop s).1 := by
  have marked (stop : Bool) : KeepsDark s (s.setDial d { s.dial d with stop := stop }) :=
    (KeepsDark.refl s).setDial (by exact id)
  unfold dialstopRequest
  dsimp only
  repeat' split
  · exact .refl s
  · exact (marked true).moves (moves_moveDial (moves_withdrawDial (.refl _) d) _ _ _)
  · exact (marked true).moves (moves_withdrawDial (.refl _) d)
  · exact (marked false).moves (moves_classify (.refl _) _ _)
  · exact (marked false).unpowered

theorem keepsDarkUnpowered_dialstopBody (v : List Nat) (s : State) : KeepsDarkUnpowered s (dialstopBody v s).1 := by
  unfold dialstopBody
  repeat' split
  · exact keepsDarkUnpowered_dialstopRequest _ _ s
  all_goals exact .refl s

theorem keepsDarkUnpowered_sceneBody (v : List Nat) (s : State) : KeepsDarkUnpowered s (sceneBody v s).1 := by
  unfold sceneBody
  repeat' split
  · exact .of_moves (moves_activateScene (.refl s) _)
  all_goals exact .refl s

theorem keepsDark_overrideBody (v : List Nat) (s : State) : KeepsDark s (overrideBody v s).1 := by
  have overrides (c : Nat) (level : Option Nat) (duration : Nat) :
      KeepsDark s (overrideRequest c level duration s).1 := by
    unfold overrideRequest
    split
    · exact .refl s
    · exact ((KeepsDark.refl s).setCircuit (by exact id)).post _
  unfold overrideBody
  repeat' split
  · exact overrides _ _ _
  all_goals exact .refl s

theorem driverFields_listRequest (body : List Byte) (s : State) : driverFields (listRequest body s).1 = driverFields s := by
  unfold listRequest
  dsimp only
  split <;> rfl

theorem driverFields_getRequest (body : List Byte) (s : State) : driverFields (getRequest body s).1 = driverFields s := by
  unfold getRequest
  dsimp only
  split <;> rfl

theorem keepsDarkUnpowered_fields {run : List Nat → State → Answer} (h : ∀ v, KeepsDarkUnpowered s (run v s).1)
    (rooms : List Room) (body : List Byte) : KeepsDarkUnpowered s (fields rooms body run s).1 := by
  unfold fields
  split
  · exact h _
  · exact .refl s

theorem keepsDarkUnpowered_runRequest (kind : Nat) (body : List Byte) (s : State) :
    KeepsDarkUnpowered s (runRequest kind body s).1 := by
  unfold runRequest
  split
  case h_2 => exact (keepsDark_clearNewMarks s).unpowered
  case h_3 => exact keepsDarkUnpowered_fields (fun v => (keepsDark_clearfaultRequest v s).unpowered) _ _
  case h_4 => exact .of_fields (driverFields_getRequest _ s)
  case h_5 => exact keepsDarkUnpowered_putRequest _ s
  case h_6 => exact keepsDarkUnpowered_eraseRequest _ s
  case h_7 => exact .of_fields (driverFields_listRequest _ s)
  case h_8 => exact .of_fields rfl
  case h_11 => exact keepsDarkUnpowered_fields (fun v => .of_fields (driverFields_settimeRequest v s)) _ _
  case h_13 => exact keepsDarkUnpowered_fields (fun v => .of_fields (driverFields_quietRequest v s)) _ _
  case h_15 => exact keepsDarkUnpowered_fields (fun v => .of_fields (driverFields_playBody v s)) _ _
  case h_16 => exact keepsDarkUnpowered_fields (keepsDarkUnpowered_cancelBody · s) _ _
  case h_18 => exact keepsDarkUnpowered_fields (keepsDarkUnpowered_ringBody · s) _ _
  case h_19 => exact keepsDarkUnpowered_fields (keepsDarkUnpowered_haltBody · s) _ _
  case h_20 => exact keepsDarkUnpowered_fields (keepsDarkUnpowered_pealBody · s) _ _
  case h_21 => exact keepsDarkUnpowered_endPeal s
  case h_22 => exact keepsDarkUnpowered_fields (keepsDarkUnpowered_dialsetBody · s) _ _
  case h_23 => exact keepsDarkUnpowered_fields (keepsDarkUnpowered_dialstopBody · s) _ _
  case h_24 => exact keepsDarkUnpowered_fields (keepsDarkUnpowered_sceneBody · s) _ _
  case h_25 => exact keepsDarkUnpowered_fields (fun v => (keepsDark_overrideBody v s).unpowered) _ _
  all_goals exact .refl s

theorem keepsDarkUnpowered_judgeRequest (kind : Byte) (body : List Byte) (s : State) :
    KeepsDarkUnpowered s (judgeRequest kind body s).1 := by
  unfold judgeRequest
  repeat' split
  case isFalse.isFalse.isFalse => exact keepsDarkUnpowered_runRequest _ _ s
  all_goals exact .refl s

end Sys2Proof.Proofs
end

section
/-! SUPPORT. The commands drive nothing while mains is not NORMAL or in LOADING (R168, R174). -/
namespace Sys2Proof.Proofs

open Sys2Proof.Machine Sys2Proof.Claims

variable {s t : State}

/-! ## Frames and bytes of the line (R180-R183) -/

/-- A frame executed, and its reply owed. -/
theorem keepsDarkUnpowered_executed (kind : Byte) (body : List Byte) (o : Owed)
    (e : driverFields t = driverFields s) : KeepsDarkUnpowered s ((judgeRequest kind body t).1.owe o) :=
  ((KeepsDarkUnpowered.of_fields e).trans (keepsDarkUnpowered_judgeRequest kind body t)).trans (.of_fields rfl)

theorem keepsDarkUnpowered_takeFrame (kind : Byte) (body : List Byte) (s : State) :
    KeepsDarkUnpowered s (takeFrame kind body s) := by
  unfold takeFrame
  dsimp only
  repeat' split
  · exact .of_fields rfl
  · exact .of_fields rfl
  · exact keepsDarkUnpowered_executed kind body _ rfl

theorem takeFrame_of_loading (h : s.start.phase = .loading) (kind : Byte) (body : List Byte) :
    takeFrame kind body s =
      s.endListing.hunting.owe { frame := replyFrame kind .starting [], slot := false, after := .nothing } := by
  unfold takeFrame
  exact if_pos h

/-- In LOADING a frame is answered alone; past it, it is a request. -/
theorem darkWithoutMains_takeFrame (h : s.darkWithoutMains) (kind : Byte) (body : List Byte) :
    (takeFrame kind body s).darkWithoutMains := by
  by_cases loading : s.start.phase = .loading
  · have answered : KeepsDark s (takeFrame kind body s) := by
      rw [takeFrame_of_loading loading]
      exact .of_fields rfl
    exact answered.darkWithoutMains h
  · exact (keepsDarkUnpowered_takeFrame kind body s).darkWithoutMains loading h

theorem darkWithoutMains_wholeFrame (h : s.darkWithoutMains) (kind : Byte) (body : List Byte) :
    (wholeFrame kind body s).darkWithoutMains := by
  have heard : (s.withLink (s.link.heard s.now)).darkWithoutMains := (KeepsDark.of_fields (s := s) rfl).darkWithoutMains h
  exact darkWithoutMains_takeFrame heard kind body

theorem driverFields_hunt (s : State) (b : RxByte) : driverFields (s.hunt b) = driverFields s := by
  unfold State.hunt
  split <;> rfl

theorem darkWithoutMains_takeByte (h : s.darkWithoutMains) (v : Byte) : (s.takeByte v).darkWithoutMains := by
  have linked (l : Link) : (s.withLink l).darkWithoutMains := (KeepsDark.of_fields (s := s) rfl).darkWithoutMains h
  unfold State.takeByte
  split
  · exact h
  · split
    · exact linked _
    · exact linked _
  · exact linked _
  · exact linked _
  · repeat' split
    · exact darkWithoutMains_takeFrame h _ _
    · exact linked _
    · exact linked _

theorem darkWithoutMains_receiveByte (h : s.darkWithoutMains) (b : RxByte) : (receiveByte b s).darkWithoutMains := by
  have waited : KeepsDark s (s.withTime (s.time.advance b.gap)) := .of_fields rfl
  have gapped : KeepsDark s ((s.withTime (s.time.advance b.gap)).discard .gap) := .of_fields rfl
  unfold receiveByte
  dsimp only
  repeat' split
  · exact (waited.same (driverFields_hunt _ b)).darkWithoutMains h
  · exact (gapped.same (driverFields_hunt _ b)).darkWithoutMains h
  · exact (waited.same rfl).darkWithoutMains h
  · exact darkWithoutMains_takeByte (waited.darkWithoutMains h) _

theorem darkWithoutMains_bytes (h : s.darkWithoutMains) (bytes : List RxByte) :
    (bytes.foldl (fun t b => command (receiveByte b) t) s).darkWithoutMains := by
  induction bytes generalizing s with
  | nil => exact h
  | cons b bytes ih => exact ih (darkWithoutMains_command h fun _ => darkWithoutMains_receiveByte h b)

theorem darkWithoutMains_openLoading (cause : StartCause) (s : State) : (openLoading cause s).darkWithoutMains :=
  darkWithoutMains_of_dark (dark_openObjects _)

theorem darkWithoutMains_transmitFrameEnd (h : s.darkWithoutMains) : (transmitFrameEnd s).darkWithoutMains := by
  have linked (l : Link) : (s.withLink l).darkWithoutMains := (KeepsDark.of_fields (s := s) rfl).darkWithoutMains h
  unfold transmitFrameEnd State.sent
  split
  · split
    · exact linked _
    · exact darkWithoutMains_openLoading _ _
    · exact linked _
    · exact linked _
    · exact linked _
  · exact h

/-! ## The time base (R2-R6, R21) -/

theorem driverFields_civilMinuteBoundary (s : State) : driverFields (civilMinuteBoundary s) = driverFields s := by
  unfold civilMinuteBoundary
  split <;> rfl

theorem keepsDarkUnpowered_civilHalfMinuteBoundary (s : State) :
    KeepsDarkUnpowered s (civilHalfMinuteBoundary s) := by
  unfold civilHalfMinuteBoundary
  split
  · rename_i t half passed
    have ran : KeepsDark s t := by
      unfold passHalfMinute at passed
      split at passed
      · cases passed; exact .of_fields rfl
      · cases passed
    refine ran.moves (moves_each (moves_setTargets (.refl t) _) _ _ fun d u hu => ?_)
    split
    · exact hu
    · exact moves_riseDial hu d
  · exact .refl s

theorem driverFields_keptSecondEnd (s : State) : driverFields (keptSecondEnd s) = driverFields s := by
  unfold keptSecondEnd
  split
  · split <;> rfl
  · rfl

theorem driverFields_rangeEnd (s : State) : driverFields (rangeEnd s) = driverFields s := by
  unfold rangeEnd
  split <;> rfl

theorem driverFields_seasonalInstant (s : State) : driverFields (seasonalInstant s) = driverFields s := by
  unfold seasonalInstant
  split
  · split
    · dsimp only
      rw [driverFields_retime]
      repeat' split
      all_goals rfl
    · rfl
  · rfl

theorem driverFields_lossOfLock (s : State) : driverFields (lossOfLock s) = driverFields s := by
  unfold lossOfLock
  split
  · exact (driverFields_retime _ _ _ _).trans (driverFields_runTo s _)
  · rfl

theorem driverFields_holdoverLimit (s : State) : driverFields (holdoverLimit s) = driverFields s := by
  unfold holdoverLimit
  split
  · exact driverFields_retime _ _ _ _
  · rfl

/-! ## The reference monitor (R12-R18) -/

theorem driverFields_whenReady {f : State → State} (h : driverFields (f s) = driverFields s) :
    driverFields (s.whenReady f) = driverFields s := by
  unfold State.whenReady
  split
  · exact h
  · rfl

theorem driverFields_whenReading {f : State → State} (h : driverFields (f s) = driverFields s) :
    driverFields (s.whenReading f) = driverFields s := by
  refine driverFields_whenReady ?_
  split
  · rfl
  · exact h

theorem driverFields_telegramRecord (chars : List Byte) (s : State) :
    driverFields (telegramRecord chars s) = driverFields s :=
  driverFields_whenReading (driverFields_foldl driverFields_takeChar s chars)

theorem driverFields_telegramRecordTimeout (s : State) : driverFields (telegramRecordTimeout s) = driverFields s := by
  refine driverFields_whenReading ?_
  split <;> rfl

theorem driverFields_telegramSilence (s : State) : driverFields (telegramSilence s) = driverFields s := by
  refine driverFields_whenReading ?_
  split
  · exact (driverFields_withRefs _ _).trans (driverFields_runTo s _)
  · rfl

theorem driverFields_telegramMark (s : State) : driverFields (telegramMark s) = driverFields s := by
  refine driverFields_whenReading ?_
  dsimp only
  split
  · rfl
  · split
    · exact driverFields_phaseOf _ _ _
    · exact (driverFields_phaseOf _ _ _).trans (driverFields_failPending s)

theorem driverFields_telegramMarkDeadline (s : State) : driverFields (telegramMarkDeadline s) = driverFields s := by
  refine driverFields_whenReading ?_
  split
  · exact driverFields_failPending _
  · rfl

theorem driverFields_secondMarkEdge (s : State) : driverFields (secondMarkEdge s) = driverFields s := by
  refine driverFields_whenReady ?_
  split
  · rfl
  · exact driverFields_foldl (fun v e => driverFields_decideMark e _ v) _ _

theorem driverFields_secondMarkTimeout (s : State) : driverFields (secondMarkTimeout s) = driverFields s := by
  refine driverFields_whenReady ?_
  split <;> rfl

theorem driverFields_skewDecisionTimeout (s : State) : driverFields (skewDecisionTimeout s) = driverFields s := by
  refine driverFields_whenReady ?_
  split
  · exact driverFields_foldl (fun v e => driverFields_decideMark e _ v) _ _
  · rfl

/-! ## The chime player (R81-R87) -/

theorem driverFields_headDue (s : State) : driverFields (headDue s) = driverFields s := by
  unfold headDue
  repeat' split
  all_goals rfl

theorem driverFields_startDeadline (id : Nat) (s : State) : driverFields (startDeadline id s) = driverFields s := by
  unfold startDeadline
  repeat' split
  all_goals rfl

theorem keepsDarkUnpowered_noteDue (s : State) : KeepsDarkUnpowered s (noteDue s) := by
  unfold noteDue
  split
  · dsimp only
    split
    · exact (keepsDark_runTo s _).moves (moves_requestNote (moves_onPlaying (.refl _) _))
    · exact (keepsDark_runTo s _).unpowered
  · exact .refl s

theorem driverFields_noteWaitExpiry (s : State) : driverFields (noteWaitExpiry s) = driverFields s := by
  unfold noteWaitExpiry
  split <;> rfl

theorem keepsDarkUnpowered_tailEnd (s : State) : KeepsDarkUnpowered s (tailEnd s) := by
  unfold tailEnd
  split
  · exact (keepsDark_runTo s _).moves (moves_endPlaying (.refl _) _)
  · exact .refl s

/-! ## The hammers (R58, R62) -/

theorem keepsDarkUnpowered_pulseEnd (b : Nat) (s : State) : KeepsDarkUnpowered s (pulseEnd b s) := by
  unfold pulseEnd
  split
  · exact (keepsDark_runTo s _).moves (moves_pulseEnds (.refl _) _)
  · exact .refl s

theorem keepsDarkUnpowered_recoveryEnd (b : Nat) (s : State) : KeepsDarkUnpowered s (recoveryEnd b s) := by
  unfold recoveryEnd
  split
  · have idle (instant : Nat) (w : Bell) (off : w.hammer = .idle) : KeepsDark s ((s.runTo instant).setBell b w) :=
      (keepsDark_runTo s instant).setBell fun _ => by rw [off]; rfl
    dsimp only
    repeat' split
    · exact (idle _ _ rfl).unpowered
    · exact (idle _ _ rfl).moves (moves_answerRefused (.refl _) _ _)
    · exact (idle _ _ rfl).moves (moves_takeBlow (.refl _) _ _ _)
  · exact .refl s

theorem keepsDarkUnpowered_senseInstant (b : Nat) (s : State) : KeepsDarkUnpowered s (senseInstant b s) := by
  unfold senseInstant
  split
  · rename_i ends instant pulse
    have sensed : KeepsDark s
        ((s.runTo instant).setBell b { (s.runTo instant).bell b with hammer := .pulse ends none }) :=
      (keepsDark_runTo s instant).setBell fun off => by
        rw [State.bell_runTo, pulse] at off
        cases off
    exact sensed.moves (moves_queueConversion (.refl _) _)
  · exact .refl s

/-! ## The swing units and the run (R95-R103, R110, R111) -/

theorem keepsDark_reversal (n : Nat) (s : State) : KeepsDark s (reversal n s) := by
  have turned : KeepsDark s (s.setUnit n (s.unit n).reversed) := (KeepsDark.refl s).setUnit (by exact id)
  unfold reversal
  dsimp only
  split
  · exact .refl s
  · split
    · exact turned.takeTurn _ _ _
    · split
      · exact turned.enterSettling _ _
      · exact turned

theorem keepsDark_indexCrossing (n : Nat) (s : State) : KeepsDark s (indexCrossing n s) := by
  unfold indexCrossing
  dsimp only
  repeat' split
  · exact (KeepsDark.refl s).setUnit (by exact id)
  · exact (KeepsDark.refl s).setUnit (by exact id)
  · exact ((KeepsDark.refl s).setUnit (by exact id)).enterFault _ _
  · exact (KeepsDark.refl s).setUnit (by exact id)

theorem keepsDark_encoderEdge (n : Nat) (dir : Dir) (s : State) : KeepsDark s (encoderEdge n dir s) :=
  (KeepsDark.refl s).setUnit (by exact id)

theorem keepsDark_raiseLimitExpiry (n : Nat) (s : State) : KeepsDark s (raiseLimitExpiry n s) := by
  unfold raiseLimitExpiry
  split
  · exact (keepsDark_runTo s _).enterFault _ _
  · exact .refl s

theorem keepsDark_lowerLimitExpiry (n : Nat) (s : State) : KeepsDark s (lowerLimitExpiry n s) := by
  unfold lowerLimitExpiry
  split
  · exact (keepsDark_runTo s _).enterFault _ _
  · exact .refl s

theorem keepsDark_noTurnTimeout (n : Nat) (s : State) : KeepsDark s (noTurnTimeout n s) := by
  unfold noTurnTimeout
  split
  · exact (keepsDark_runTo s _).enterSettling _ _
  · exact .refl s

theorem keepsDark_driveWindowExpiry (n : Nat) (s : State) : KeepsDark s (driveWindowExpiry n s) := by
  unfold driveWindowExpiry
  split
  · exact (keepsDark_runTo s _).cutDrive _
  · exact .refl s

theorem keepsDark_driveImpulseEnd (n : Nat) (s : State) : KeepsDark s (driveImpulseEnd n s) := by
  unfold driveImpulseEnd
  split
  · exact (keepsDark_runTo s _).cutDrive _
  · exact .refl s

theorem keepsDarkUnpowered_ringEnd (n : Nat) (s : State) : KeepsDarkUnpowered s (ringEnd n s) := by
  unfold ringEnd
  repeat' split
  · exact (keepsDark_runTo s _).moves (moves_stopUnit (.refl _) _ _ _)
  · exact .refl s
  · exact .refl s

theorem keepsDark_settleTimerExpiry (n : Nat) (s : State) : KeepsDark s (settleTimerExpiry n s) := by
  have settled (t : State) (w : SwingUnit) (same : w.drive = (t.unit n).drive) : KeepsDark t (t.setUnit n w) :=
    (KeepsDark.refl t).setUnit fun off => by rw [same]; exact off
  unfold settleTimerExpiry
  split
  · refine ((KeepsDark.trans (keepsDark_runTo s _) (settled _ _ ?_)).moveClaim n _).unitNotice _ _ _
    dsimp only
    split <;> rfl
  · exact .refl s

theorem keepsDarkUnpowered_startStep (s : State) : KeepsDarkUnpowered s (startStep s) := by
  unfold startStep
  split
  · exact (keepsDark_runTo s _).moves (moves_takeStartStep (.refl _))
  · exact .refl s

theorem keepsDarkUnpowered_pealEndInstant (s : State) : KeepsDarkUnpowered s (pealEndInstant s) := by
  unfold pealEndInstant
  split
  · exact (keepsDark_runTo s _).moves (moves_stopRun (.refl _) _ _)
  · exact .refl s

theorem keepsDarkUnpowered_stopStep (s : State) : KeepsDarkUnpowered s (stopStep s) := by
  unfold stopStep
  split
  · exact (keepsDark_runTo s _).moves (moves_settleRun (moves_takeStopStep (.refl _)))
  · exact .refl s

/-! ## The dials and the circuits (R119, R120, R135-R138) -/

theorem keepsDarkUnpowered_dialSpacingExpiry (d : Nat) (s : State) : KeepsDarkUnpowered s (dialSpacingExpiry d s) := by
  unfold dialSpacingExpiry
  split
  · exact ((keepsDark_runTo s _).setDial (by exact id)).moves (moves_askDial (.refl _) _)
  · exact .refl s

theorem keepsDarkUnpowered_dialImpulseEnd (d : Nat) (s : State) : KeepsDarkUnpowered s (dialImpulseEnd d s) := by
  unfold dialImpulseEnd
  split
  · have ended (instant : Nat) (w : Dial) (idle : w.drive = .idle) :
        KeepsDark s (((s.runTo instant).releaseAll (.dial d)).setDial d w) :=
      ((keepsDark_runTo s instant).same (driverFields_of_arbitrates (arbitrates_releaseAll (.refl _) _))).setDial
        fun _ => by rw [idle]; rfl
    dsimp only
    repeat' split
    · exact (ended _ _ rfl).moves (moves_classify (.refl _) _ _)
    · exact (ended _ _ rfl).moves (moves_moveDial (.refl _) _ _ _)
    · exact (ended _ _ rfl).moves (moves_judgeDial (.refl _) _)
  · exact .refl s

/-- A lamp that has warmed up was lit before. -/
theorem keepsDarkUnpowered_warmUpEnd (c : Nat) (s : State) : KeepsDarkUnpowered s (warmUpEnd c s) := by
  unfold warmUpEnd State.warmed
  split
  · rename_i instant warming _
    have lit : ((s.runTo instant).circuit c).state.lit ≠ false := by
      rw [State.circuit_runTo, warming]
      decide
    exact ((keepsDark_runTo s instant).changeCircuit _ _ fun off => absurd off lit).moves (moves_release (.refl _) _ _)
  · exact .refl s

theorem keepsDark_restrikeEnd (c : Nat) (s : State) : KeepsDark s (restrikeEnd c s) := by
  unfold restrikeEnd State.strike State.moveCircuit
  split
  · dsimp only
    repeat' split
    · exact (keepsDark_runTo s _).setCircuit fun _ => rfl
    · exact ((keepsDark_runTo s _).changeCircuit _ _ fun _ => rfl).same
        (driverFields_of_arbitrates (arbitrates_request (.refl _) _ _))
    · exact (keepsDark_runTo s _).changeCircuit _ _ fun _ => rfl
  · exact .refl s

theorem keepsDarkUnpowered_fadeStep (c : Nat) (s : State) : KeepsDarkUnpowered s (fadeStep c s) := by
  unfold fadeStep
  split
  · rename_i instant _ _ _
    have stepped (level : Nat) : KeepsDark s ((s.runTo instant).setCircuit c
        { (s.runTo instant).circuit c with level := level, fade := none }) :=
      (keepsDark_runTo s instant).setCircuit (by exact id)
    dsimp only
    generalize (if _ < ((s.runTo instant).circuit c).target then _ else _) = level
    split
    · exact (stepped _).moves (moves_darken (.refl _) _ _)
    · split
      · exact (stepped _).moves (moves_release (moves_runFade (.refl _) _) _ _)
      · exact (stepped _).moves (moves_runFade (.refl _) _)
  · exact .refl s

theorem keepsDark_overrideExpiry (c : Nat) (s : State) : KeepsDark s (overrideExpiry c s) := by
  unfold overrideExpiry
  split
  · exact ((keepsDark_runTo s _).setCircuit (by exact id)).post _
  · exact .refl s

/-! ## The light monitor, the converter, the arbiter and the store (R147, R151, R164, R173) -/

theorem keepsDarkUnpowered_sampleInstant (s : State) : KeepsDarkUnpowered s (sampleInstant s) := by
  unfold sampleInstant
  split
  · exact (keepsDark_runTo s _).moves (moves_sampleNow (.refl _))
  · exact .refl s

theorem keepsDarkUnpowered_conversionEnd (reading : Nat) (s : State) :
    KeepsDarkUnpowered s (conversionEnd reading s) := by
  unfold conversionEnd
  split
  · exact .refl s
  · have ended (instant : Nat) (v : Converter) :
        KeepsDarkUnpowered s (((s.runTo instant).withConverter v).beginConversion) :=
      (keepsDark_runTo s instant).moves (moves_beginConversion (moves_withConverter (.refl _) _))
    dsimp only
    split
    · exact (ended _ _).trans (keepsDarkUnpowered_coilResult _ _ _)
    · exact (ended _ _).trans (.of_fields (driverFields_lightResult _ _))

theorem driverFields_shedTimerExpiry (c : Claimant) (s : State) : driverFields (shedTimerExpiry c s) = driverFields s := by
  unfold shedTimerExpiry
  dsimp only
  repeat' split
  all_goals rfl

theorem driverFields_saveTableWritten (readBack : Bool) (s : State) :
    driverFields (saveTableWritten readBack s) = driverFields s := by
  unfold saveTableWritten
  dsimp only
  repeat' split
  all_goals rfl

/-! ## The power monitor (R168-R171) -/

theorem dark_of_not_ready (h : s.darkWithoutMains) (running : s.running = true) (waits : s.ready = false) : s.dark := by
  refine h (.inr ?_)
  cases phase : s.start.phase with
  | loading => rfl
  | ready => simp [State.ready, running, phase] at waits

/-- Every driver was off unless mains was NORMAL in READY; at that loss the blocks turn theirs off. -/
theorem darkWithoutMains_setMains (h : s.darkWithoutMains) (running : s.running = true) (mains : Mains)
    (settle : Option Nat) : (s.setMains mains settle).darkWithoutMains := by
  have changed (dark : s.dark) (l : List Msg) :
      ((s.withPower { s.power with mains := mains, settle := settle }).withAgenda l).darkWithoutMains :=
    darkWithoutMains_of_dark dark
  unfold State.setMains
  dsimp only
  split
  · rename_i waits
    exact changed (dark_of_not_ready h running (by simpa using waits)) s.agenda
  · split
    · exact darkWithoutMains_of_dark (drivesNoMore_dark_loseMains _).2
    · rename_i down
      have dark : s.dark := h (.inl (decide_eq_false down))
      split
      · exact changed dark _
      · exact changed dark _

theorem darkWithoutMains_whenRunning {f : State → State} (h : s.darkWithoutMains)
    (k : s.running = true → (f s).darkWithoutMains) : (s.whenRunning f).darkWithoutMains := by
  unfold State.whenRunning
  split
  · rename_i running; exact k running
  · exact h

theorem darkWithoutMains_mainsLineAbsent (h : s.darkWithoutMains) : (mainsLineAbsent s).darkWithoutMains := by
  have line : (s.withPower { s.power with linePresent := false }).darkWithoutMains :=
    (KeepsDark.of_fields (s := s) rfl).darkWithoutMains h
  unfold mainsLineAbsent
  refine darkWithoutMains_whenRunning line fun running => ?_
  split
  · exact line
  · exact darkWithoutMains_setMains line running _ _

theorem darkWithoutMains_mainsLinePresent (h : s.darkWithoutMains) : (mainsLinePresent s).darkWithoutMains := by
  have line : (s.withPower { s.power with linePresent := true }).darkWithoutMains :=
    (KeepsDark.of_fields (s := s) rfl).darkWithoutMains h
  unfold mainsLinePresent
  refine darkWithoutMains_whenRunning line fun running => ?_
  split
  · exact darkWithoutMains_setMains line running _ _
  · exact line

theorem darkWithoutMains_mainsSettleExpiry (h : s.darkWithoutMains) : (mainsSettleExpiry s).darkWithoutMains := by
  refine darkWithoutMains_whenRunning h fun running => ?_
  split
  · exact h
  · exact darkWithoutMains_setMains ((keepsDark_runTo s _).darkWithoutMains h) running _ _

theorem driverFields_accessSwitchChange (shows : Access) (s : State) :
    driverFields (accessSwitchChange shows s) = driverFields s := by
  unfold accessSwitchChange State.whenRunning
  dsimp only
  repeat' split
  all_goals rfl

theorem driverFields_accessTimerExpiry (s : State) : driverFields (accessTimerExpiry s) = driverFields s := by
  unfold accessTimerExpiry State.whenRunning
  dsimp only
  repeat' split
  all_goals rfl

theorem driverFields_keySwitchChange (shows : Key) (s : State) :
    driverFields (keySwitchChange shows s) = driverFields s := by
  unfold keySwitchChange State.whenRunning
  dsimp only
  repeat' split
  all_goals rfl

theorem driverFields_keyTimerExpiry (s : State) : driverFields (keyTimerExpiry s) = driverFields s := by
  unfold keyTimerExpiry State.whenRunning
  dsimp only
  repeat' split
  all_goals rfl

/-! ## The start (R174, R175) -/

theorem darkWithoutMains_resetLineRelease (h : s.darkWithoutMains) : (resetLineRelease s).darkWithoutMains := by
  unfold resetLineRelease
  dsimp only
  repeat' split
  · exact darkWithoutMains_openLoading _ _
  · exact (KeepsDark.of_fields (s := s) rfl).darkWithoutMains h
  · exact h

theorem darkWithoutMains_powerOn (h : s.darkWithoutMains) (retained : Bool) : (powerOn retained s).darkWithoutMains := by
  unfold powerOn
  dsimp only
  repeat' split
  · exact h
  · exact (KeepsDark.of_fields (s := s) rfl).darkWithoutMains h
  · exact darkWithoutMains_openLoading _ _

theorem keepsDark_clearBells (h : KeepsDark s t) :
    KeepsDark s (t.each bellNumbers fun b v => v.setBell b (clearedBell (v.bell b))) :=
  h.each (fun b v => (KeepsDark.refl v).setBell (b := b) (w := clearedBell (v.bell b)) id) _

theorem keepsDark_coldStart (s : State) : KeepsDark s s.coldStart := by
  have emptied : KeepsDark s (forgotten s) :=
    ⟨rfl, rfl, fun ⟨hammers, drives, _, circuits⟩ => ⟨hammers, drives, fun _ _ => rfl, circuits⟩⟩
  exact (keepsDark_clearBells emptied).each
    (fun c v => (KeepsDark.refl v).setCircuit (c := c) (w := { v.circuit c with sceneLevel := 0 }) id) _

theorem keepsDark_warmStart (s : State) : KeepsDark s s.warmStart := by
  unfold State.warmStart
  dsimp only
  repeat' split
  · exact keepsDark_clearBells (.of_fields rfl)
  · exact keepsDark_clearBells (.refl s)
  · exact .of_fields rfl
  · exact .refl s

/-- READY begins with every driver as LOADING left it: off. -/
theorem darkWithoutMains_loadingEnd (h : s.darkWithoutMains) : (loadingEnd s).darkWithoutMains := by
  by_cases loading : s.start.phase = .loading
  · have dark : (judged s).dark := by
      unfold judged
      split
      · exact (keepsDark_warmStart s).dark (h (.inr loading))
      · exact (keepsDark_coldStart s).dark (h (.inr loading))
    rw [loadingEnd_of_loading loading]
    exact darkWithoutMains_of_dark dark
  · unfold loadingEnd
    rw [if_neg loading]
    exact h

/-! ## Every command -/

/-- Every command has a next state that drives nothing without mains or in LOADING. -/
theorem darkWithoutMains_exec (i : Instr) (h : s.darkWithoutMains) :
    ∃ t, exec i s = .next t ∧ t.darkWithoutMains := by
  have always {f : State → State} (k : s.running = true → (f s).darkWithoutMains) := darkWithoutMains_command h k
  have keeps {f : State → State} (k : KeepsDark s (f s)) := always fun _ => k.darkWithoutMains h
  have inReady {f : State → State} (k : KeepsDarkUnpowered s (f s)) := darkWithoutMains_readyCommand h k
  have stands {f : State → State} (e : driverFields (f s) = driverFields s) := inReady (.of_fields e)
  have line {f : State → State} (e : driverFields (f s) = driverFields s) : (f s).finish.darkWithoutMains :=
    darkWithoutMains_finish ((KeepsDark.of_fields e).darkWithoutMains h)
  cases i with
  | status | faults | clearfault | get | put | erase | list | save | restart | rate | settime | timeinfo | quiet
  | dayinfo | play | cancel | queue | ring | halt | peal | endpeal | dialset | dialstop | scene | override
  | floodinfo | lightinfo | supplyinfo | unknownKindFrame =>
    exact ⟨_, rfl, always fun _ => darkWithoutMains_wholeFrame h _ _⟩
  | frameDiscarded bytes => exact ⟨_, rfl, darkWithoutMains_bytes h bytes⟩
  | transmitFrameEnd => exact ⟨_, rfl, always fun _ => darkWithoutMains_transmitFrameEnd h⟩
  | civilMinuteBoundary => exact ⟨_, rfl, stands (driverFields_civilMinuteBoundary s)⟩
  | civilHalfMinuteBoundary => exact ⟨_, rfl, inReady (keepsDarkUnpowered_civilHalfMinuteBoundary s)⟩
  | keptSecondEnd => exact ⟨_, rfl, stands (driverFields_keptSecondEnd s)⟩
  | rangeEnd => exact ⟨_, rfl, stands (driverFields_rangeEnd s)⟩
  | seasonalInstant => exact ⟨_, rfl, stands (driverFields_seasonalInstant s)⟩
  | lossOfLock => exact ⟨_, rfl, stands (driverFields_lossOfLock s)⟩
  | holdoverLimit => exact ⟨_, rfl, stands (driverFields_holdoverLimit s)⟩
  | telegramRecord chars => exact ⟨_, rfl, stands (driverFields_telegramRecord chars s)⟩
  | telegramRecordTimeout => exact ⟨_, rfl, stands (driverFields_telegramRecordTimeout s)⟩
  | telegramMark => exact ⟨_, rfl, stands (driverFields_telegramMark s)⟩
  | telegramMarkDeadline => exact ⟨_, rfl, stands (driverFields_telegramMarkDeadline s)⟩
  | telegramSilence => exact ⟨_, rfl, stands (driverFields_telegramSilence s)⟩
  | secondMarkEdge => exact ⟨_, rfl, stands (driverFields_secondMarkEdge s)⟩
  | secondMarkTimeout => exact ⟨_, rfl, stands (driverFields_secondMarkTimeout s)⟩
  | skewDecisionTimeout => exact ⟨_, rfl, stands (driverFields_skewDecisionTimeout s)⟩
  | headDue => exact ⟨_, rfl, stands (driverFields_headDue s)⟩
  | startDeadline id => exact ⟨_, rfl, stands (driverFields_startDeadline id s)⟩
  | noteDue => exact ⟨_, rfl, inReady (keepsDarkUnpowered_noteDue s)⟩
  | noteWaitExpiry => exact ⟨_, rfl, stands (driverFields_noteWaitExpiry s)⟩
  | tailEnd => exact ⟨_, rfl, inReady (keepsDarkUnpowered_tailEnd s)⟩
  | pulseEnd b => exact ⟨_, rfl, inReady (keepsDarkUnpowered_pulseEnd b s)⟩
  | recoveryEnd b => exact ⟨_, rfl, inReady (keepsDarkUnpowered_recoveryEnd b s)⟩
  | senseInstant b => exact ⟨_, rfl, inReady (keepsDarkUnpowered_senseInstant b s)⟩
  | reversal n => exact ⟨_, rfl, keeps (keepsDark_reversal n s)⟩
  | indexCrossing n => exact ⟨_, rfl, keeps (keepsDark_indexCrossing n s)⟩
  | raiseLimitExpiry n => exact ⟨_, rfl, inReady (keepsDark_raiseLimitExpiry n s).unpowered⟩
  | driveWindowExpiry n => exact ⟨_, rfl, inReady (keepsDark_driveWindowExpiry n s).unpowered⟩
  | driveImpulseEnd n => exact ⟨_, rfl, inReady (keepsDark_driveImpulseEnd n s).unpowered⟩
  | ringEnd n => exact ⟨_, rfl, inReady (keepsDarkUnpowered_ringEnd n s)⟩
  | noTurnTimeout n => exact ⟨_, rfl, inReady (keepsDark_noTurnTimeout n s).unpowered⟩
  | lowerLimitExpiry n => exact ⟨_, rfl, inReady (keepsDark_lowerLimitExpiry n s).unpowered⟩
  | settleTimerExpiry n => exact ⟨_, rfl, keeps (keepsDark_settleTimerExpiry n s)⟩
  | startStep => exact ⟨_, rfl, inReady (keepsDarkUnpowered_startStep s)⟩
  | pealEndInstant => exact ⟨_, rfl, inReady (keepsDarkUnpowered_pealEndInstant s)⟩
  | stopStep => exact ⟨_, rfl, inReady (keepsDarkUnpowered_stopStep s)⟩
  | dialSpacingExpiry d => exact ⟨_, rfl, inReady (keepsDarkUnpowered_dialSpacingExpiry d s)⟩
  | dialImpulseEnd d => exact ⟨_, rfl, inReady (keepsDarkUnpowered_dialImpulseEnd d s)⟩
  | warmUpEnd c => exact ⟨_, rfl, inReady (keepsDarkUnpowered_warmUpEnd c s)⟩
  | restrikeEnd c => exact ⟨_, rfl, keeps (keepsDark_restrikeEnd c s)⟩
  | fadeStep c => exact ⟨_, rfl, inReady (keepsDarkUnpowered_fadeStep c s)⟩
  | overrideExpiry c => exact ⟨_, rfl, inReady (keepsDark_overrideExpiry c s).unpowered⟩
  | sampleInstant => exact ⟨_, rfl, inReady (keepsDarkUnpowered_sampleInstant s)⟩
  | conversionEnd reading => exact ⟨_, rfl, inReady (keepsDarkUnpowered_conversionEnd reading s)⟩
  | shedTimerExpiry c => exact ⟨_, rfl, stands (driverFields_shedTimerExpiry c s)⟩
  | mainsLineAbsent => exact ⟨_, rfl, darkWithoutMains_finish (darkWithoutMains_mainsLineAbsent h)⟩
  | mainsLinePresent => exact ⟨_, rfl, darkWithoutMains_finish (darkWithoutMains_mainsLinePresent h)⟩
  | mainsSettleExpiry => exact ⟨_, rfl, always fun _ => darkWithoutMains_mainsSettleExpiry h⟩
  | accessSwitchChange shows => exact ⟨_, rfl, line (driverFields_accessSwitchChange shows s)⟩
  | accessTimerExpiry => exact ⟨_, rfl, keeps (.of_fields (driverFields_accessTimerExpiry s))⟩
  | keySwitchChange shows => exact ⟨_, rfl, line (driverFields_keySwitchChange shows s)⟩
  | keyTimerExpiry => exact ⟨_, rfl, keeps (.of_fields (driverFields_keyTimerExpiry s))⟩
  | saveTableWritten readBack => exact ⟨_, rfl, stands (driverFields_saveTableWritten readBack s)⟩
  | resetLineHeld | supplyFailure => exact ⟨_, rfl, (KeepsDark.of_fields (s := s) rfl).darkWithoutMains h⟩
  | resetLineRelease => exact ⟨_, rfl, darkWithoutMains_resetLineRelease h⟩
  | powerOn retained => exact ⟨_, rfl, darkWithoutMains_powerOn h retained⟩
  | loadingEnd => exact ⟨_, rfl, always fun _ => darkWithoutMains_loadingEnd h⟩
  | encoderEdge n dir => exact ⟨_, rfl, keeps (keepsDark_encoderEdge n dir s)⟩

theorem darkWithoutMains_step (h : s.darkWithoutMains) (stepped : step s = .next t) : t.darkWithoutMains := by
  unfold step at stepped
  split at stepped
  · rename_i i rest _
    have taken : State.darkWithoutMains { s with pending := rest } := h
    obtain ⟨u, runs, dark⟩ := darkWithoutMains_exec i taken
    rw [runs] at stepped
    cases stepped
    exact dark
  · cases stepped
    exact h

/-! ## The output lines (R168, R174) -/

/-- An output is off where its object's driver is off, and while the part does not run. -/
theorem outputs_off (h : s.dark ∨ s.running = false) :
    (∀ b < 16, s.hammerOutput b = false) ∧ (∀ n < 6, s.swingOutput n = none) ∧ (∀ d < 4, s.dialOutput d = none) ∧
      ∀ c < 12, s.circuitOutput c = 0 := by
  unfold State.hammerOutput State.swingOutput State.dialOutput State.circuitOutput
  rcases h with ⟨hammers, drives, dials, circuits⟩ | stopped
  · refine ⟨fun b hb => ?_, fun n hn => ?_, fun d hd => ?_, fun c hc => ?_⟩
    · rw [hammers b hb, Bool.and_false]
    · split
      · rfl
      · split
        · rename_i impulse
          have off := drives n hn
          rw [impulse] at off
          cases off
        · rfl
    · rw [dials d hd, Bool.and_false]
      rfl
    · rw [circuits c hc, Bool.and_false]
      rfl
  · rw [stopped]
    exact ⟨fun _ _ => rfl, fun _ _ => rfl, fun _ _ => rfl, fun _ _ => rfl⟩

/-- Settles O6: of a command's own effect, each block's operations turn no driver on while mains is not NORMAL, and in LOADING
no grant is told; the output lines show the drivers. -/
theorem nothingDrivenWithoutMains : Obligations.NothingDrivenWithoutMains := by
  unfold Obligations.NothingDrivenWithoutMains
  exact ⟨fun s t dark stepped => darkWithoutMains_step dark stepped,
    fun s dark off => outputs_off (off.imp (fun down => dark (.inl down)) id)⟩

end Sys2Proof.Proofs
end

section
/-! SUPPORT. The state right after reset (log 6, R174). -/
namespace Sys2Proof.Proofs

open Sys2Proof.Machine Sys2Proof.Claims

theorem dark_reset : State.reset.dark := ⟨fun _ _ => rfl, fun _ _ => rfl, fun _ _ => rfl, fun _ _ => rfl⟩

theorem sound_reset : sound State.reset :=
  ⟨Nat.zero_le _, darkWithoutMains_of_dark dark_reset, ⟨Nat.zero_le _, Nat.zero_le _⟩, ⟨rfl, rfl, rfl, rfl, rfl, rfl⟩,
    ⟨canonical_tables0, canonical_tables0⟩, rfl⟩

/-- Settles O8: every queue and table of the start values is empty, and every object has its default. -/
theorem reset : Obligations.Reset := by
  unfold Obligations.Reset
  refine ⟨sound_reset, rfl, rfl, rfl, rfl, rfl, rfl, rfl, rfl, rfl, rfl, rfl, rfl, rfl, rfl, rfl, rfl, rfl, rfl,
    fun b _ => ?bell, fun u _ => ?unit, fun d _ => ?dial, fun c _ => ?circuit⟩
  case bell => exact ⟨rfl, rfl⟩
  case unit => exact ⟨rfl, rfl⟩
  case dial => rfl
  case circuit => rfl

end Sys2Proof.Proofs
end

section
/-! SUPPORT. Which commands have an effect: none but those of the lines while the part does not run, and in LOADING those it
takes there (R174, log 33). -/
namespace Sys2Proof.Proofs

open Sys2Proof.Machine Sys2Proof.Claims

variable {s : State}

theorem not_ready_of_not_running (h : s.running = false) : s.ready = false := by
  unfold State.ready
  rw [h]
  rfl

/-- A command the part does not take in LOADING has its effect in READY alone. -/
theorem exec_of_not_taken {i : Instr} (h : takenInLoading i = false) :
    ∃ f, ∀ s, exec i s = .next (readyCommand f s) := by
  cases i with
  | status | faults | clearfault | get | put | erase | list | save | restart | rate | settime | timeinfo | quiet
  | dayinfo | play | cancel | queue | ring | halt | peal | endpeal | dialset | dialstop | scene | override
  | floodinfo | lightinfo | supplyinfo | unknownKindFrame => cases h
  | frameDiscarded | transmitFrameEnd | reversal | indexCrossing | encoderEdge | settleTimerExpiry | restrikeEnd
  | mainsSettleExpiry | accessTimerExpiry | keyTimerExpiry | loadingEnd => cases h
  | mainsLineAbsent | mainsLinePresent | accessSwitchChange | keySwitchChange | resetLineHeld | resetLineRelease
  | supplyFailure | powerOn => cases h
  | _ => exact ⟨_, fun _ => rfl⟩

theorem bytes_not_running (h : s.running = false) (bytes : List RxByte) :
    bytes.foldl (fun t b => command (receiveByte b) t) s = s := by
  induction bytes with
  | nil => rfl
  | cons b bytes ih =>
    rw [List.foldl_cons, command_not h]
    exact ih

theorem exec_not_running {i : Instr} (h : s.running = false) (inside : outside i = false) : exec i s = .next s := by
  cases taken : takenInLoading i with
  | false =>
    obtain ⟨f, runs⟩ := exec_of_not_taken taken
    rw [runs, readyCommand_not (not_ready_of_not_running h)]
  | true =>
    have still (f : State → State) : Host.Outcome.next (command f s) = (.next s : Host.Outcome State Fault Refusal) :=
      congrArg _ (command_not h f)
    cases i with
    | mainsLineAbsent | mainsLinePresent | accessSwitchChange | keySwitchChange | resetLineHeld | resetLineRelease
    | supplyFailure | powerOn => cases inside
    | frameDiscarded bytes => exact congrArg Host.Outcome.next (bytes_not_running h bytes)
    | status | faults | clearfault | get | put | erase | list | save | restart | rate | settime | timeinfo | quiet
    | dayinfo | play | cancel | queue | ring | halt | peal | endpeal | dialset | dialstop | scene | override
    | floodinfo | lightinfo | supplyinfo | unknownKindFrame => exact still (wholeFrame _ _)
    | transmitFrameEnd | reversal | indexCrossing | encoderEdge | settleTimerExpiry | restrikeEnd | mainsSettleExpiry
    | accessTimerExpiry | keyTimerExpiry | loadingEnd => exact still _
    | _ => cases taken

/-- Settles O59: a command inside the part asks whether the part runs, and one not taken in LOADING whether it is READY. -/
theorem partDoesNotRun : Obligations.PartDoesNotRun := by
  unfold Obligations.PartDoesNotRun
  refine ⟨fun s => ⟨rfl, rfl, ?held, ?failed⟩, fun i s stopped inside => exec_not_running stopped inside,
    fun i s _ loading notTaken => ?loading⟩
  case held => exact Bool.and_false _
  case failed => exact Bool.false_and _
  case loading =>
    obtain ⟨f, runs⟩ := exec_of_not_taken notTaken
    rw [runs, readyCommand_not (not_ready_of_loading loading)]

end Sys2Proof.Proofs
end

section
/-! SUPPORT. Frames answered without being executed (R173, R180-R182). -/
namespace Sys2Proof.Proofs

open Sys2Proof.Machine Sys2Proof.Claims

variable {s t : State} {kind : Byte} {body : List Byte} {status : Status}

/-! ## A frame and its reply -/

theorem exec_of_frame {i : Instr} (h : frameOf i = some (kind, body)) (s : State) : exec i s = frameCommand kind body s := by
  cases i with
  | status | faults | clearfault | get | put | erase | list | save | restart | rate | settime | timeinfo | quiet
  | dayinfo | play | cancel | queue | ring | halt | peal | endpeal | dialset | dialstop | scene | override
  | floodinfo | lightinfo | supplyinfo | unknownKindFrame => cases h; rfl
  | _ => cases h

/-- A reply of the status alone is the one `turnedAway` owes. -/
theorem owe_replyFrame (kind : Byte) (status : Status) (slot : Bool) (t : State) :
    t.owe { frame := replyFrame kind status [], slot := slot, after := .nothing } = turnedAway kind status slot t := by
  unfold turnedAway replyFrame
  by_cases own : 1 ≤ kind.toNat ∧ kind.toNat ≤ 0x3F
  · rw [if_pos own, if_pos (by simpa using own)]
    rfl
  · rw [if_neg own, if_neg (by simpa using own)]
    rfl

theorem frameCommand_running (h : s.running = true) :
    frameCommand kind body s = .next (takeFrame kind body (s.withLink (s.link.heard s.now))).finish := by
  unfold frameCommand
  rw [command_running h]
  rfl

/-! ## In LOADING, and with the slot BUSY -/

theorem frameCommand_loading (running : s.running = true) (loading : s.start.phase = .loading) :
    frameCommand kind body s = .next ((turnedAway kind .starting false (arrived s)).withAgenda []).pump := by
  have answered : takeFrame kind body (s.withLink (s.link.heard s.now)) = turnedAway kind .starting false (arrived s) :=
    (takeFrame_of_loading (s := s.withLink (s.link.heard s.now)) loading kind body).trans
      (owe_replyFrame kind .starting false (arrived s))
  have still : (turnedAway kind .starting false (arrived s)).start.phase = .loading := by
    rw [← owe_replyFrame]
    exact loading
  rw [frameCommand_running running, answered, finish_of_loading still]

theorem takeFrame_of_busy (past : s.start.phase ≠ .loading) (busy : s.link.slotBusy = true) :
    takeFrame kind body s =
      s.endListing.hunting.owe { frame := replyFrame kind .busy [], slot := false, after := .nothing } := by
  unfold takeFrame
  exact (if_neg past).trans (if_pos busy)

theorem frameCommand_slotBusy (ready : s.ready = true) (busy : s.link.slotBusy = true) :
    frameCommand kind body s = .next (turnedAway kind .busy false (arrived s)).finish := by
  have answered : takeFrame kind body (s.withLink (s.link.heard s.now)) = turnedAway kind .busy false (arrived s) :=
    (takeFrame_of_busy (s := s.withLink (s.link.heard s.now)) (phase_of_ready ready) busy).trans
      (owe_replyFrame kind .busy false (arrived s))
  rw [frameCommand_running (State.running_of_ready ready), answered]

/-! ## The link's own refusals -/

/-- A frame judged in the slot, with what its answer brings about. -/
theorem frameCommand_judged {fields : List Byte} {after : After} (hs : slotFree s)
    (judged : judgeRequest kind body (taken s) = (t, status, fields))
    (follows : followUp kind body status s.link.rate = after) :
    frameCommand kind body s =
      .next (t.owe { frame := replyFrame kind status fields, slot := true, after := after }).finish := by
  obtain ⟨ready, free⟩ := hs
  rw [frameCommand_inSlot ready free, inSlot_eq_taken, judged, follows]

/-- A frame refused is answered with the status alone, and nothing follows its reply. -/
theorem frameCommand_refused (hs : slotFree s) (refused : status ≠ .ok)
    (judged : judgeRequest kind body (taken s) = (taken s, status, [])) :
    frameCommand kind body s = .next (turnedAway kind status true (taken s)).finish := by
  rw [frameCommand_judged hs judged (if_pos refused), owe_replyFrame]

theorem judgeRequest_of_unknown (h : assignedKind kind = false) : judgeRequest kind body s = (s, .unknownKind, []) := by
  unfold judgeRequest
  rw [h]
  rfl

theorem judgeRequest_of_saving (known : assignedKind kind = true) (writes : writesStore kind.toNat = true)
    (saving : s.store.saving.isSome = true) : judgeRequest kind body s = (s, .busy, []) := by
  unfold judgeRequest
  rw [known, writes, saving]
  rfl

theorem judgeRequest_of_length {n : Nat} (known : assignedKind kind = true) (idle : s.store.saving = none)
    (required : requiredLength kind.toNat = some n) (differs : body.length ≠ n) :
    judgeRequest kind body s = (s, .badLength, []) := by
  unfold judgeRequest
  rw [known, idle, required]
  simp [Ne.symm differs]

/-- The kinds refused during a save: PUT, ERASE, SAVE and RESTART. -/
theorem writesStore_of_kind (h : kind = 0x05 ∨ kind = 0x06 ∨ kind = 0x08 ∨ kind = 0x09) :
    assignedKind kind = true ∧ writesStore kind.toNat = true := by
  rcases h with rfl | rfl | rfl | rfl <;> exact ⟨rfl, rfl⟩

/-- Settles O12: what each frame meets first, in the order of R182: the phase, the slot, and the link's own checks. -/
theorem framesNotExecuted : Obligations.FramesNotExecuted := by
  unfold Obligations.FramesNotExecuted
  refine ⟨fun i kind body s frame running loading => ?loading, fun i kind body s frame ready busy => ?slot,
    fun kind body s hs unknown => ?kind, fun i kind body s frame hs writes saving => ?saving,
    fun i kind body n s frame hs known idle required differs => ?length⟩
  case loading => exact (exec_of_frame frame s).trans (frameCommand_loading running loading)
  case slot => exact (exec_of_frame frame s).trans (frameCommand_slotBusy ready busy)
  case kind => exact frameCommand_refused hs (by decide) (judgeRequest_of_unknown unknown)
  case saving =>
    obtain ⟨known, writes⟩ := writesStore_of_kind writes
    exact (exec_of_frame frame s).trans
      (frameCommand_refused hs (by decide) (judgeRequest_of_saving known writes saving))
  case length =>
    exact (exec_of_frame frame s).trans
      (frameCommand_refused hs (by decide) (judgeRequest_of_length known idle required differs))

end Sys2Proof.Proofs
end

section
/-! SUPPORT. SAVE, RESTART and RATE (R172, R173, R175, R177, R178). -/
namespace Sys2Proof.Proofs

open Sys2Proof.Machine Sys2Proof.Claims

variable {s : State}

/-! ## SAVE (R173) -/

/-- The end of a table's write with another table to come: its contents and check stand as the read-back decides. -/
theorem saveTableWritten_of_next {w next : TableId} {rest failed : List TableId} (readBack : Bool)
    (h : s.store.saving = some { writing := w, rest := next :: rest, failed := failed }) :
    saveTableWritten readBack s = s.withStore
      { (if readBack then s.store.complete s.tables w else s.store).spoil next with
        saving := some { writing := next, rest := rest, failed := if readBack then failed else failed ++ [w] } } := by
  unfold saveTableWritten
  rw [h]

/-- The end of the last table's write: the store is IDLE, and the tables that failed are told. -/
theorem saveTableWritten_of_last {w : TableId} {failed : List TableId} (readBack : Bool)
    (h : s.store.saving = some { writing := w, rest := [], failed := failed }) :
    saveTableWritten readBack s = (s.withStore
      { (if readBack then s.store.complete s.tables w else s.store) with saving := none }).notify
        (.saved (if readBack then failed else failed ++ [w])) := by
  unfold saveTableWritten
  rw [h]

/-- Settles O19: SAVE begins the first table, and the end of a write goes by the read-back and by what is left to write. -/
theorem saveWritesEveryTable : Obligations.SaveWritesEveryTable := by
  unfold Obligations.SaveWritesEveryTable
  refine ⟨fun s hs idle => ?begins, fun s w failed next rest ready saving => ⟨?good, ?bad⟩,
    fun s w failed ready saving => ⟨?lastGood, ?lastBad⟩⟩
  case begins =>
    exact frameCommand_answered_of_notSaving (kind := 0x08) hs idle rfl rfl (by decide) (by decide) rfl
  case good => exact exec_of_ready rfl ready (saveTableWritten_of_next true saving)
  case bad => exact exec_of_ready rfl ready (saveTableWritten_of_next false saving)
  case lastGood => exact exec_of_ready rfl ready (saveTableWritten_of_last true saving)
  case lastBad => exact exec_of_ready rfl ready (saveTableWritten_of_last false saving)

/-! ## The end of the slot's reply (R177, R178) -/

theorem transmitFrameEnd_of_sending {f : List Byte} {k : Sent} (h : s.link.sending = some (f, k)) :
    transmitFrameEnd s = (s.withLink { s.link with sending := none }).sent k := by
  unfold transmitFrameEnd
  rw [h]

theorem sent_restart (s : State) : s.sent (.reply true .restart) = openLoading .restart s := by
  unfold State.sent
  rfl

theorem withAgenda_of_settled (h : s.settled) : s.withAgenda [] = s := by
  unfold State.settled at h
  rw [← h]
  rfl

/-- The end of RESTART's reply opens LOADING; with no message handed on, only the transmitter acts after it. -/
theorem exec_transmitFrameEnd_restart {f : List Byte} (running : s.running = true)
    (h : s.link.sending = some (f, .reply true .restart)) :
    ∃ t link, exec .transmitFrameEnd s = .next (t.withLink link) ∧
      Opened .restart (s.withLink { s.link with sending := none }) t t ∧ t.start.retainedGood = s.start.retainedGood := by
  have opens : transmitFrameEnd s = openLoading .restart (s.withLink { s.link with sending := none }) :=
    (transmitFrameEnd_of_sending h).trans (sent_restart _)
  have opened := openLoading_opened .restart (s := s.withLink { s.link with sending := none }) running
  have retained := retainedGood_openLoading .restart (s.withLink { s.link with sending := none })
  have settled := settled_openLoading .restart (s.withLink { s.link with sending := none })
  generalize openLoading .restart (s.withLink { s.link with sending := none }) = t at opens opened retained settled
  refine ⟨t, t.pump.link, (exec_of_running rfl running opens).trans (congrArg Host.Outcome.next ?_), opened, retained⟩
  rw [finish_of_loading opened.1, withAgenda_of_settled settled]
  exact t.pump_eq

/-! ## RATE (R178) -/

theorem readRate_byte (r : Fin 3) :
    readRate (beNat [byte r]) = some [Rate.r19200, .r57600, .r115200][r] := by
  revert r
  decide

theorem readRate_of_large {v : Byte} (h : 3 ≤ v.toNat) : readRate (beNat [v]) = none := by
  rw [beNat_one]
  exact List.getElem?_eq_none h

theorem judgeRequest_rate (body : List Byte) (one : body.length = 1) (s : State) :
    judgeRequest 0x0A body s = (s, if (readRate (beNat body)).isSome then .ok else .range, []) :=
  judgeRequest_run (kind := 0x0A) rfl rfl (by rw [one]; rfl)

theorem exec_rate_named {v : Byte} {r : Rate} (hs : slotFree s) (named : readRate (beNat [v]) = some r) :
    exec (.rate [v]) s = .next (owing (byte 0x8A) [byte Status.ok.ctorIdx] true
      (if r = s.link.rate then .nothing else .rate r) (taken s)).finish := by
  have judged : judgeRequest 0x0A [v] (taken s) = (taken s, .ok, []) := by
    rw [judgeRequest_rate [v] rfl, named]
    rfl
  have follows : followUp 0x0A [v] .ok s.link.rate = if r = s.link.rate then .nothing else .rate r := by
    unfold followUp
    rw [named]
    rfl
  exact frameCommand_judged hs judged follows

theorem exec_rate_unnamed {v : Byte} (hs : slotFree s) (unnamed : readRate (beNat [v]) = none) :
    exec (.rate [v]) s = .next (answered 0x0A .range [] (taken s)).finish := by
  have judged : judgeRequest 0x0A [v] (taken s) = (taken s, .range, []) := by
    rw [judgeRequest_rate [v] rfl, unnamed]
    rfl
  exact frameCommand_refused hs (by decide) judged

/-! ## RESTART (R177) -/

theorem exec_restart (hs : slotFree s) (idle : s.store.saving = none) :
    exec (.restart []) s = .next (owing (byte 0x89) [byte Status.ok.ctorIdx] true .restart (taken s)).finish := by
  have judged : judgeRequest 0x09 [] (taken s) = (taken s, .ok, []) := by
    refine judgeRequest_run (kind := 0x09) rfl ?_ rfl
    rw [show (taken s).store.saving = none from idle]
    rfl
  exact frameCommand_judged hs judged rfl

/-- Settles O20: both requests are answered in the slot first, and the end of that reply does what was left to follow it. -/
theorem restartAndRate : Obligations.RestartAndRate := by
  unfold Obligations.RestartAndRate
  refine ⟨⟨fun s hs idle => ⟨exec_restart hs idle, rfl⟩, fun s f running sending => ?restarts⟩,
    fun r s hs => exec_rate_named hs (readRate_byte r), fun v s hs large => exec_rate_unnamed hs (readRate_of_large large),
    fun s f r running sending => ?rates⟩
  case restarts =>
    obtain ⟨t, link, ends, opened, retained⟩ := exec_transmitFrameEnd_restart running sending
    obtain ⟨phase, cause, -, -, elapsed, -, -, -, tables, -⟩ := opened
    exact ⟨_, ends, phase, cause, retained, tables, elapsed⟩
  case rates => exact exec_of_running rfl running (transmitFrameEnd_of_sending sending)

end Sys2Proof.Proofs
end

section
/-! SUPPORT. GET (R185). -/
namespace Sys2Proof.Proofs

open Sys2Proof.Machine Sys2Proof.Claims

theorem byte_toNat (b : Byte) : byte b.toNat = b := by simp [byte]

theorem beBytes_two_of_bytes (hi lo : Byte) : beBytes 2 (hi.toNat * 256 + lo.toNat) = [hi, lo] := by
  have low : lo.toNat < 256 := lo.isLt
  have high : (hi.toNat * 256 + lo.toNat) / 256 = hi.toNat := by omega
  have wrapped : byte (hi.toNat * 256 + lo.toNat) = lo :=
    BitVec.eq_of_toNat_eq ((BitVec.toNat_ofNat ..).trans (by omega))
  simp only [beBytes, pow_one, pow_zero, Nat.div_one, high, wrapped, byte_toNat]

theorem getRequest_eq (table hi lo : Byte) (s : State) :
    getRequest [table, hi, lo] s =
      if inTable table.toNat (hi.toNat * 256 + lo.toNat) then
        (s, .ok, table :: hi :: lo :: recordBytes s table.toNat (hi.toNat * 256 + lo.toNat))
      else (s, .range, []) := by
  obtain ⟨number, index⟩ := fieldAt_index table hi lo []
  unfold getRequest
  dsimp only
  rw [number, index, beBytes_two_of_bytes, byte_toNat]
  rfl

/-- Settles O15: the address of the request is the table and index the reply carries back. -/
theorem getReadsTheRecord : Obligations.GetReadsTheRecord := by
  unfold Obligations.GetReadsTheRecord
  intro table hi lo s hs
  have answers {status : Status} {fields : List Byte}
      (h : getRequest [table, hi, lo] (taken s) = (taken s, status, fields)) :
      exec (.get [table, hi, lo]) s = .next (answered 0x04 status fields (taken s)).finish :=
    frameCommand_answered (kind := 0x04) hs rfl rfl rfl (by decide) (by decide) h
  refine ⟨fun named => answers ?_, fun outside => answers ?_⟩
  · rw [getRequest_eq, named]
    rfl
  · rw [getRequest_eq, outside]
    rfl

end Sys2Proof.Proofs
end

section
/-! SUPPORT. What is left when the messages of a command have been handled (R183, R189, log 3). -/
namespace Sys2Proof.Proofs

open Sys2Proof.Machine Sys2Proof.Claims

variable {s t : State}

/-! ## What finish leaves alone -/

theorem takeNotice_eq (s : State) (n : NoticeBody) : s.takeNotice n = s.withLink (s.takeNotice n).link := by
  unfold State.takeNotice
  split
  · rfl
  · split <;> rfl

theorem finishRun_withLink_eq_none (v : Link) (h : s.finishRun = none) : (s.withLink v).finishRun = none := by
  have done : (s.withLink v).membersDone = s.membersDone := rfl
  unfold State.finishRun at h ⊢
  rw [State.withLink_run, done]
  cases state : s.run.state <;> simp_all

theorem standing_eq_none_iff : s.standing = none ↔ s.finishRun = none ∧ s.dueHead = none := by
  unfold State.standing
  cases s.finishRun <;> simp

theorem atRest_takeNotice (n : NoticeBody) (h : atRest t) : atRest (t.takeNotice n) := by
  obtain ⟨settled, still⟩ := h
  obtain ⟨done, undue⟩ := standing_eq_none_iff.mp still
  rw [takeNotice_eq]
  exact ⟨settled, standing_eq_none_iff.mpr ⟨finishRun_withLink_eq_none _ done, undue⟩⟩

theorem drain_notify (n : NoticeBody) (fuel : Nat) (settled : t.agenda = []) :
    (t.notify n).drain (fuel + 1) = (t.takeNotice n).drain fuel := by
  have first : (t.notify n).handleFirst (.notice n) [] = t.takeNotice n := by
    have back : (t.notify n).withAgenda [] = t := by rw [← settled]; rfl
    have still : (t.takeNotice n).agenda = [] := by rw [takeNotice_eq]; exact settled
    unfold State.handleFirst
    rw [back]
    show (t.takeNotice n).withAgenda ((t.takeNotice n).agenda ++ []) = _
    rw [List.append_nil]
    rfl
  have one : (t.notify n).agenda = [.notice n] := by
    rw [State.notify_agenda, settled]
    rfl
  rw [State.drain, one]
  exact congrArg (State.drain fuel) first

theorem ready_takeNotice (n : NoticeBody) : (t.takeNotice n).ready = t.ready := by
  rw [takeNotice_eq]
  rfl

theorem finish_notify (ready : t.ready = true) (h : atRest t) (n : NoticeBody) :
    (t.notify n).finish = (t.takeNotice n).pump := by
  obtain ⟨settled, still⟩ := atRest_takeNotice n h
  rw [← State.finish_atRest ((ready_takeNotice n).trans ready) settled still]
  unfold State.finish
  rw [ready_takeNotice, ready, show (t.notify n).ready = true from ready,
    show Config.agendaFuel = Config.agendaFuel - 1 + 1 from rfl, drain_notify n _ h.1,
    State.drain_atRest settled still, State.drain_atRest settled still]
  rfl

/-- Settles O4: what the messages leave is what `Moves` leaves, and the transmitter after them moves the link alone. -/
theorem messagesOfACommand : Obligations.MessagesOfACommand := by
  unfold Obligations.MessagesOfACommand
  refine ⟨fun s => ?_, fun t ready h => ?_, fun t n ready h => finish_notify ready h n⟩
  · obtain ⟨t, m, settled, finish⟩ := s.finish_eq
    obtain ⟨rate, receiver, slotBusy, lastError, -, errorCount, -⟩ := t.pump_link
    rw [finish, rate, receiver, slotBusy, lastError, errorCount, t.pump_eq, m.link]
    exact ⟨m.tables, m.refs, m.power, m.store, m.start, m.pending, m.elapsed, settled, rfl, rfl, rfl, rfl, rfl⟩
  · obtain ⟨settled, still⟩ := h
    exact State.finish_atRest ready settled still

end Sys2Proof.Proofs
end

section
/-! SUPPORT. The transmitter (R179, R183). -/
namespace Sys2Proof.Proofs

open Sys2Proof.Machine Sys2Proof.Claims

variable {s : State}

theorem pump_of_sending (h : s.link.sending.isSome = true) : s.pump = s := by
  obtain ⟨f, sending⟩ := Option.isSome_iff_exists.mp h
  unfold State.pump
  rw [sending]
  exact ite_self s

theorem pump_of_owed {o : Owed} {rest : List Owed} (running : s.running = true) (idle : s.link.sending = none)
    (owed : s.link.owed = o :: rest) :
    s.pump = (s.withLink { s.link with owed := rest }).send o.frame (.reply o.slot o.after) := by
  unfold State.pump
  rw [running, idle, owed]
  rfl

theorem pump_of_listing {l : Listing} (running : s.running = true) (idle : s.link.sending = none)
    (owed : s.link.owed = []) (listing : s.link.listing = some l) : s.pump = s.sendListing l := by
  unfold State.pump
  rw [running, idle, owed, listing]
  rfl

theorem pump_of_notice {n : Notice} {rest : List Notice} (running : s.running = true) (idle : s.link.sending = none)
    (owed : s.link.owed = []) (listing : s.link.listing = none) (notices : s.link.notices = n :: rest) :
    s.pump = (s.withLink { s.link with notices := rest }).send (noticeFrame n) .notice := by
  unfold State.pump
  rw [running, idle, owed, listing, notices]
  rfl

theorem pump_of_nothing (idle : s.link.sending = none) (owed : s.link.owed = []) (listing : s.link.listing = none)
    (notices : s.link.notices = []) : s.pump = s := by
  unfold State.pump
  rw [idle, owed, listing, notices]
  exact ite_self s

/-- The bytes of a frame, its check written out. -/
theorem wire_eq (f : Frame) :
    f.wire =
      let check := crc (byte (f.body.length + 1) :: f.kind :: f.body)
      [0xC3, byte (f.body.length + 1), f.kind] ++ f.body ++ [byte (check / 256), byte check] := by
  simp [Frame.wire, beBytes]

theorem send_eq (s : State) (f : Frame) (k : Sent) :
    s.send f k = s.withLink { s.link with sending := some (f.wire, k) } := rfl

theorem sendListing_sending (s : State) (l : Listing) :
    (s.sendListing l).link.sending = some (Frame.wire
      { kind := 0x60
        body := byte l.table :: (beBytes 2 l.next ++ byte (s.nextUsed l.table (l.next + 1) l.last).isNone.toNat ::
          recordBytes s l.table l.next) }, .listing (s.nextUsed l.table (l.next + 1) l.last).isNone) := rfl

theorem exec_transmitFrameEnd {f : List Byte} {k : Sent} (running : s.running = true)
    (h : s.link.sending = some (f, k)) :
    exec .transmitFrameEnd s = .next ((s.withLink { s.link with sending := none }).sent k).finish :=
  exec_of_running rfl running (transmitFrameEnd_of_sending h)

/-- Settles O21: the transmitter's branches in their order, and what the end of each sort of frame brings about. -/
theorem transmitter : Obligations.Transmitter := by
  unfold Obligations.Transmitter
  refine ⟨fun s running => ⟨pump_of_sending, ?owed, ?listing, ?notice, pump_of_nothing⟩,
    fun s f running => ⟨?slot, ?other, ?last⟩⟩
  case owed =>
    intro o rest idle owed
    rw [pump_of_owed running idle owed, send_eq, wire_eq]
    rfl
  case listing =>
    intro l idle owed listing
    refine ⟨(s.nextUsed l.table (l.next + 1) l.last).isNone, ?_, Option.isNone_iff_eq_none, ?_⟩
    · rw [pump_of_listing running idle owed listing, sendListing_sending, wire_eq]
    · rw [pump_of_listing running idle owed listing]
      rfl
  case notice =>
    intro n rest idle owed listing notices
    rw [pump_of_notice running idle owed listing notices, send_eq, wire_eq]
    rfl
  case slot => exact exec_transmitFrameEnd running
  case other => rintro (h | h | h) <;> exact exec_transmitFrameEnd running h
  case last => exact exec_transmitFrameEnd running

end Sys2Proof.Proofs
end

section
/-! SUPPORT. The receiver, byte by byte (R179, R180). -/
namespace Sys2Proof.Proofs

open Sys2Proof.Machine Sys2Proof.Claims

variable {s : State} {gap : Nat} {v : Byte}

theorem exec_byte (b : RxByte) (running : s.running = true) :
    exec (.frameDiscarded [b]) s = .next (receiveByte b s).finish :=
  exec_of_running (f := receiveByte b) rfl running rfl

theorem gapped_of_inTime {n : Nat} (h : ∃ last, s.link.lastByte = some last ∧ n ≤ last + 20) (now : s.now = n) :
    s.gapped = false := by
  obtain ⟨last, lastByte, inTime⟩ := h
  have within : ¬20 < s.now - last := by omega
  unfold State.gapped
  rw [lastByte]
  exact decide_eq_false within

theorem gapped_of_late {n : Nat} (h : ∃ last, s.link.lastByte = some last ∧ last + 20 < n) (now : s.now = n) :
    s.gapped = true := by
  obtain ⟨last, lastByte, late⟩ := h
  have beyond : 20 < s.now - last := by omega
  unfold State.gapped
  rw [lastByte]
  exact decide_eq_true beyond

/-! ## What a byte finds -/

theorem receiveByte_of_hunting (stop : Bool) (hunting : s.link.receiver = .hunting) :
    receiveByte { gap := gap, value := v, stop := stop } s =
      (s.withTime (s.time.advance gap)).hunt { gap := gap, value := v, stop := stop } := if_pos hunting

section
variable (inside : s.link.receiver ≠ .hunting)
include inside

theorem receiveByte_of_late (stop : Bool) (late : ∃ last, s.link.lastByte = some last ∧ last + 20 < s.now + gap) :
    receiveByte { gap := gap, value := v, stop := stop } s =
      ((s.withTime (s.time.advance gap)).discard .gap).hunt { gap := gap, value := v, stop := stop } :=
  (if_neg inside).trans (if_pos (gapped_of_late (s := s.withTime (s.time.advance gap)) late rfl))

theorem receiveByte_of_inTime (stop : Bool) (inTime : ∃ last, s.link.lastByte = some last ∧ s.now + gap ≤ last + 20) :
    receiveByte { gap := gap, value := v, stop := stop } s =
      if !stop then (s.withTime (s.time.advance gap)).discard .framing
      else (s.withTime (s.time.advance gap)).takeByte v :=
  (if_neg inside).trans (if_neg (by rw [gapped_of_inTime (s := s.withTime (s.time.advance gap)) inTime rfl]; decide))

end

theorem hunt_of_other (stop : Bool) (h : v ≠ 0xC3) (t : State) :
    t.hunt { gap := gap, value := v, stop := stop } = t := by
  unfold State.hunt
  rw [decide_eq_false h, Bool.and_false]
  rfl

theorem hunt_start (t : State) : t.hunt { gap := gap, value := 0xC3, stop := true } = t.receive .length := rfl

/-! ## A byte collected -/

theorem takeByte_length (h : s.link.receiver = .length) :
    s.takeByte v = if within 1 250 v.toNat then s.receive (.frame v.toNat []) else s.discard .length := by
  unfold State.takeByte
  rw [h]

theorem takeByte_frame {n : Nat} {got : List Byte} (h : s.link.receiver = .frame n got) :
    s.takeByte v = s.receive (if n ≤ got.length + 1 then .check (got ++ [v]) none else .frame n (got ++ [v])) := by
  unfold State.takeByte
  rw [h]
  simp only [List.length_append, List.length_singleton]

theorem takeByte_firstCheck {got : List Byte} (h : s.link.receiver = .check got none) :
    s.takeByte v = s.receive (.check got (some v)) := by
  unfold State.takeByte
  rw [h]

theorem takeByte_secondCheck {kind high : Byte} {body : List Byte}
    (h : s.link.receiver = .check (kind :: body) (some high)) :
    s.takeByte v = if high.toNat * 256 + v.toNat = crc (byte (body.length + 1) :: kind :: body) then takeFrame kind body s
      else s.discard .check := by
  unfold State.takeByte
  rw [h, ← beNat_two]
  rfl

/-- A frame that comes whole where the receiver hunts is taken as one whose bytes have just ended. -/
theorem exec_hunting_of_frame {i : Instr} {kind : Byte} {body : List Byte} (frame : frameOf i = some (kind, body))
    (running : s.running = true) : exec i s.hunting = .next (takeFrame kind body s).finish :=
  (exec_of_frame frame s.hunting).trans (frameCommand_running (s := s.hunting) running)

/-- Settles O22: each state of the receiver with a byte in time, late, or without its stop bit. -/
theorem discardedFrame : Obligations.DiscardedFrame := by
  unfold Obligations.DiscardedFrame
  intro s gap v running later byte_ inTime tooLate collects
  have runs (stop : Bool) {t : State} (h : receiveByte { gap := gap, value := v, stop := stop } s = t) :
      exec (byte_ stop) s = .next t.finish := by
    rw [exec_byte _ running, h]
  have taken {r : Receiver} {t : State} (found : s.link.receiver = r) (time : inTime) (h : later.takeByte v = t)
      (inside : r ≠ .hunting := by simp) : exec (byte_ true) s = .next t.finish :=
    runs true ((receiveByte_of_inTime (found ▸ inside) true time).trans h)
  refine ⟨fun found time outside => taken found time ?badLength, fun found time low high => taken found time ?length,
    fun n got found time more => taken found time ?more, fun n got found time last => taken found time ?last,
    fun got found time => taken found time (takeByte_firstCheck (s := later) found),
    fun i kind body high found time frame agrees => ?whole,
    fun kind body high found time differs => taken found time ?differs,
    fun inside late => ⟨fun other => runs true ?late, fun start => runs true ?lateStart⟩,
    fun inside time => runs false (receiveByte_of_inTime inside false time),
    fun hunting other => runs true ?other, fun hunting start => runs true ?start⟩
  case badLength =>
    rw [takeByte_length (s := later) found, if_neg (by simp [within]; omega)]
    rfl
  case length =>
    rw [takeByte_length (s := later) found, if_pos (by simp [within]; omega)]
    rfl
  case more =>
    rw [takeByte_frame (s := later) found, if_neg (by omega)]
    rfl
  case last =>
    rw [takeByte_frame (s := later) found, if_pos last]
    rfl
  case whole =>
    refine (taken found time ?_).trans (exec_hunting_of_frame (s := later) frame running).symm
    rw [takeByte_secondCheck (s := later) found, if_pos agrees]
  case differs =>
    rw [takeByte_secondCheck (s := later) found, if_neg differs]
    rfl
  case late =>
    rw [receiveByte_of_late inside true late, hunt_of_other true other]
    rfl
  case lateStart =>
    rw [receiveByte_of_late inside true late, start, hunt_start]
    rfl
  case other => rw [receiveByte_of_hunting true hunting, hunt_of_other true other]
  case start =>
    rw [receiveByte_of_hunting true hunting, start, hunt_start]
    rfl

end Sys2Proof.Proofs
end

section
/-! SUPPORT. The notice queue (R189, R190). -/
namespace Sys2Proof.Proofs

open Sys2Proof.Machine Sys2Proof.Claims

variable {s : State}

theorem unpack_notice (low high : Byte) :
    unpack noticeRooms [low, high] =
      if high.toNat < 16 then some [low.toNat + 256 * high.toNat] else none := by
  have lowByte : low.toNat < 256 := low.isLt
  have marks : leNat [low, high] = low.toNat + 256 * high.toNat := rfl
  show (if leNat [low, high] < 4096 then some [leNat [low, high] % 4096] else none) = _
  rw [marks]
  by_cases small : high.toNat < 16
  · rw [if_pos small, if_pos (by omega), Nat.mod_eq_of_lt (by omega)]
  · rw [if_neg small, if_neg (by omega)]

theorem putRequest_of_noValues {table hi lo : Byte} {values : List Byte} {n i : Nat} (number : table.toNat = n)
    (index : hi.toNat * 256 + lo.toNat = i) (named : inTable n i = true)
    (length : values.length = roomBytes (recordRooms n i))
    (spare : unpack (recordRooms n i) values = none) : putRequest (table :: hi :: lo :: values) s = (s, .range, []) := by
  subst number index
  exact putRequest_of_spareBit named length spare

theorem putRequest_notice (low high : Byte) (s : State) :
    putRequest [11, 0, 5, low, high] s =
      if high.toNat < 16 then (s.withTables { s.tables with notice := low.toNat + 256 * high.toNat }, .ok, [])
      else (s, .range, []) := by
  have read := unpack_notice low high
  have twoBytes : roomBytes (recordRooms 11 5) = 2 := by decide
  split
  · rename_i small
    exact putRequest_of_values (values := [low, high]) (n := 11) (i := 5) rfl rfl rfl twoBytes.symm
      (read.trans (if_pos small))
  · rename_i large
    exact putRequest_of_noValues (n := 11) (i := 5) rfl rfl rfl twoBytes.symm (read.trans (if_neg large))

/-! ## A notice judged (R189) -/

theorem takeNotice_of_masked {n : NoticeBody} (masked : s.tables.notice.testBit n.cls = false) : s.takeNotice n = s := by
  unfold State.takeNotice
  rw [masked]
  rfl

section
variable {n : NoticeBody} (marked : s.tables.notice.testBit n.cls = true)
include marked

theorem takeNotice_of_full (full : 32 ≤ s.link.notices.length) :
    s.takeNotice n = s.withLink { s.link with overrun := true, lostCount := min 255 (s.link.lostCount + 1) } := by
  unfold State.takeNotice
  rw [marked]
  exact if_neg (Nat.not_lt.mpr full)

theorem takeNotice_of_place (place : s.link.notices.length < 32) :
    s.takeNotice n = s.withLink { s.link with
      notices := s.link.notices ++
        [{ lost := s.link.overrun, lostCount := if s.link.overrun then s.link.lostCount else 0, elapsed := s.now
           body := n }]
      overrun := false, lostCount := if s.link.overrun then 0 else s.link.lostCount } := by
  unfold State.takeNotice
  rw [marked]
  exact if_pos place

end

/-- Settles O23: the mask's two bytes are one field of 12 marks; a notice goes by its mark and by the places left. -/
theorem noticeQueue : Obligations.NoticeQueue := by
  unfold Obligations.NoticeQueue
  refine ⟨fun low high s hs idle => ⟨fun large => ?large, fun small => ?small⟩,
    fun s n => ⟨takeNotice_of_masked, takeNotice_of_full, fun marked place overrun => ?lost,
      fun marked place clear => ?queued⟩⟩
  case large =>
    exact exec_put hs idle ((putRequest_notice low high _).trans (if_neg (Nat.not_lt.mpr large)))
  case small => exact exec_put hs idle ((putRequest_notice low high _).trans (if_pos small))
  case lost =>
    rw [takeNotice_of_place marked place, overrun]
    rfl
  case queued =>
    simp [takeNotice_of_place marked place, clear]

end Sys2Proof.Proofs
end

section
/-! SUPPORT. The commands that wait (log 2): no operation of the model touches the queue of commands. What a message can cause
leaves it by `Moves`; here are the operations that only commands use, and the requests. -/
namespace Sys2Proof.Proofs

open Sys2Proof.Machine Sys2Proof.Claims

variable {s : State}

theorem foldl_pending {α : Type} {f : State → α → State} (hf : ∀ t a, (f t a).pending = t.pending) (l : List α)
    (s : State) :
    (l.foldl f s).pending = s.pending := by
  induction l generalizing s with
  | nil => rfl
  | cons a l ih => exact (ih (f s a)).trans (hf s a)

theorem each_pending {f : Nat → State → State} (hf : ∀ i t, (f i t).pending = t.pending) (l : List Nat) (s : State) :
    (s.each l f).pending = s.pending := foldl_pending (fun t i => hf i t) l s

/-! ## The time base (chapter 1) -/

theorem retime_pending (s : State) (b : TimeBase) (cause : TimeCause) (always : Bool) :
    (s.retime b cause always).pending = s.pending := by
  unfold State.retime
  dsimp only
  repeat' split
  all_goals rfl

theorem holdOver_pending (s : State) (cause : TimeCause) : (s.holdOver cause).pending = s.pending := retime_pending ..

theorem setTime_pending (s : State) (kept : Nat) : (s.setTime kept).pending = s.pending := retime_pending ..

theorem confirmation_pending (tel : Telegram) (phase : Latch) (source : PhaseSource) (s : State) :
    (confirmation tel phase source s).pending = s.pending := by
  unfold confirmation
  split <;> exact retime_pending ..

theorem limitJudged_pending (s : State) : (limitJudged s).pending = s.pending := by
  unfold limitJudged
  repeat' split
  · exact (moves_freeRun (.refl s)).pending
  · rfl
  · rfl

theorem applyTimeSettings_pending (s : State) : s.applyTimeSettings.pending = s.pending := by
  rw [applyTimeSettings_eq, ← limitJudged_pending s]
  unfold offsetJudged
  split
  · rfl
  · exact retime_pending ..
  · exact retime_pending ..

/-! ## The reference monitor (1.3-1.5) -/

theorem failPending_pending (s : State) : s.failPending.pending = s.pending := by
  unfold State.failPending
  split <;> rfl

theorem takeChar_pending (s : State) (c : Byte) : (takeChar s c).pending = s.pending := by
  unfold takeChar
  dsimp only
  repeat' split
  · rfl
  · rfl
  · rfl
  · rfl
  · rfl
  · rfl
  · exact failPending_pending _
  · rfl

theorem decideMark_pending (d : Decision) (after : Option SecEdge) (s : State) :
    (decideMark d after s).pending = s.pending := by
  unfold decideMark
  dsimp only
  repeat' split
  · rfl
  all_goals exact confirmation_pending ..

theorem decideEach_pending (after : Decision → Option SecEdge) (l : List Decision) (s : State) :
    (l.foldl (fun t d => decideMark d (after d) t) s).pending = s.pending :=
  foldl_pending (fun t d => decideMark_pending d (after d) t) l s

theorem phaseOf_pending (s : State) (mark : Latch) (confirms : Option Telegram) :
    (s.phaseOf mark confirms).pending = s.pending := by
  unfold State.phaseOf
  repeat' split
  · exact decideMark_pending ..
  · rfl
  · exact confirmation_pending ..
  · rfl

theorem changeMode_pending (s : State) (new : RefMode) : (s.changeMode new).pending = s.pending := by
  unfold State.changeMode
  dsimp only
  split
  · split
    · exact holdOver_pending ..
    · rfl
  · refine foldl_pending (fun u d => ?_) _ _
    split
    · exact confirmation_pending ..
    · rfl
  · rfl

/-! ## The bells and the swing units (chapters 3 and 5) -/

theorem setHammerFault_pending (s : State) (b : Nat) (f : HammerFault) (reading : Nat) :
    (s.setHammerFault b f reading).pending = s.pending := (moves_refuseHeld (.refl _) _ _).pending

theorem coilResult_pending (b reading : Nat) (s : State) : (coilResult b reading s).pending = s.pending := by
  unfold coilResult
  dsimp only
  repeat' split
  · rfl
  · exact setHammerFault_pending ..
  · rfl
  · exact (moves_pulseEnds (.refl _) _).pending.trans (setHammerFault_pending ..)
  · exact setHammerFault_pending ..
  · rfl

theorem enterSettling_pending (s : State) (n : Nat) (cause : UnitCause) :
    (s.enterSettling n cause).pending = s.pending :=
  (moves_unitNotice (moves_moveClaim (.refl _) _ _) _ _ _).pending.trans (moves_cutDrive (.refl s) n).pending

theorem enterFault_pending (s : State) (n : Nat) (f : UnitFault) : (s.enterFault n f).pending = s.pending :=
  (moves_unitNotice (moves_notify (moves_moveClaim (.refl _) _ _) _) _ _ _).pending.trans
    (moves_cutDrive (.refl s) n).pending

theorem enterSwinging_pending (s : State) (n : Nat) : (s.enterSwinging n).pending = s.pending := by
  refine (moves_unitNotice (.refl _) _ _ _).pending.trans ?_
  show State.pending (match (s.unit n).drive with
      | .waiting _ none _ => s.cutDrive n
      | _ => s) = s.pending
  split
  · exact (moves_cutDrive (.refl s) n).pending
  · rfl

theorem actOnTurn_pending (s : State) (n : Nat) (amplitude : Option Nat) (dir : Dir) :
    (s.actOnTurn n amplitude dir).pending = s.pending := by
  unfold State.actOnTurn
  dsimp only
  repeat' split
  · rfl
  · rfl
  · exact (moves_askImpulse (.refl s) _ _ _ _).pending
  · exact enterSwinging_pending s n
  · rfl
  · exact (moves_askImpulse (.refl s) _ _ _ _).pending
  · rfl
  · rfl
  · exact (moves_askImpulse (.refl _) _ _ _ _).pending
  · rfl
  · rfl

theorem takeTurn_pending (s : State) (n : Nat) (amplitude : Option Nat) (dir : Dir) :
    (s.takeTurn n amplitude dir).pending = s.pending := by
  unfold State.takeTurn
  dsimp only
  split
  · rfl
  · split
    · exact enterFault_pending ..
    · exact actOnTurn_pending ..

/-! ## The circuits and the light monitor (chapters 7 and 8) -/

theorem changeCircuit_pending (s : State) (c : Nat) (w : Circuit) (cause : FloodCause) (units : Nat) :
    (s.changeCircuit c w cause units).pending = s.pending := by
  unfold State.changeCircuit
  dsimp only
  split
  · rfl
  · exact (moves_floodNotice (.refl _) _ _ _ _).pending

theorem lightTransition_pending (s : State) (old new : LightState) :
    (s.lightTransition old new).pending = s.pending := by
  unfold State.lightTransition
  split <;> rfl

theorem goodLight_pending (r : Nat) (s : State) : (goodLight r s).pending = s.pending := by
  unfold goodLight
  dsimp only
  split
  · rfl
  · split
    · exact lightTransition_pending ..
    · exact lightTransition_pending ..

theorem outLight_pending (r : Nat) (s : State) : (outLight r s).pending = s.pending := by
  unfold outLight
  dsimp only
  repeat' split
  · rfl
  · rfl
  · exact lightTransition_pending ..

theorem lightResult_pending (r : Nat) (s : State) : (lightResult r s).pending = s.pending := by
  unfold lightResult
  split
  · exact goodLight_pending r s
  · exact outLight_pending r s

/-! ## PUT and ERASE (R186) -/

/-- A refusal has no effect: what is accepted decides. -/
theorem unless_pending {refused : Prop} [Decidable refused] {status : Status} {accepted : State × Status}
    (h : accepted.1.pending = s.pending) : (if refused then (s, status) else accepted).1.pending = s.pending := by
  split
  · rfl
  · exact h

theorem newDialRecord_pending (s : State) (d : Nat) (old new : DialRec) :
    (s.newDialRecord d old new).pending = s.pending := by
  unfold State.newDialRecord
  repeat' split
  · exact (moves_forgetDial (.refl s) _ _).pending
  · exact (moves_repeatOrClassify (.refl s) _ _).pending
  · rfl

theorem reclass_pending (s : State) : s.reclass.pending = s.pending := by
  unfold State.reclass
  split
  · exact (moves_setToday (.refl s) _).pending
  · rfl

theorem newTimeSettings_pending (s : State) (new : TimeSettings) : (s.newTimeSettings new).pending = s.pending := by
  refine (applyTimeSettings_pending _).trans ?_
  split
  · rfl
  · exact changeMode_pending ..

theorem newLightSettings_pending (s : State) (new : LightSettings) : (s.newLightSettings new).pending = s.pending := by
  unfold State.newLightSettings
  dsimp only
  split <;> rfl

theorem putBell_pending (b : Nat) (new : BellRec) (s : State) : (putBell b new s).1.pending = s.pending :=
  unless_pending <| unless_pending <| unless_pending rfl

theorem putDial_pending (d : Nat) (new : DialRec) (s : State) : (putDial d new s).1.pending = s.pending :=
  unless_pending <| unless_pending <| newDialRecord_pending ..

theorem putCircuit_pending (c : Nat) (new : CircuitRec) (s : State) : (putCircuit c new s).1.pending = s.pending :=
  unless_pending <| unless_pending rfl

theorem putSwing_pending (n : Nat) (new : SwingRec) (s : State) : (putSwing n new s).1.pending = s.pending :=
  unless_pending <| unless_pending rfl

theorem putPlan_pending (i : Nat) (new : Plan) (s : State) : (putPlan i new s).1.pending = s.pending := unless_pending rfl

theorem putTune_pending (i : Nat) (new : Tune) (s : State) : (putTune i new s).1.pending = s.pending := unless_pending rfl

theorem putNote_pending (i : Nat) (new : Note) (s : State) : (putNote i new s).1.pending = s.pending := unless_pending rfl

theorem putSpecial_pending (e : Nat) (new : Special) (s : State) : (putSpecial e new s).1.pending = s.pending :=
  unless_pending <| reclass_pending _

theorem putSupply_pending (new : SupplySettings) (s : State) : (putSupply new s).1.pending = s.pending :=
  unless_pending <| unless_pending (moves_serve (.refl _)).pending

theorem ranged_pending {α : Type} {write : α → State → State × Status} (h : ∀ new, (write new s).1.pending = s.pending)
    (reading : Option α) : (ranged reading write s).1.pending = s.pending := by
  cases reading with
  | none => rfl
  | some new => exact h new

theorem putGroup_pending (group : Nat) (v : List Nat) (s : State) : (putGroup group v s).1.pending = s.pending := by
  unfold putGroup
  split
  · exact ranged_pending (newTimeSettings_pending s) _
  · exact ranged_pending (fun _ => rfl) _
  · exact ranged_pending (newLightSettings_pending s) _
  · exact ranged_pending (putSupply_pending · s) _
  · exact ranged_pending (fun _ => rfl) _
  · exact ranged_pending (fun _ => rfl) _

theorem putValues_pending (table i : Nat) (v : List Nat) (s : State) :
    (putValues table i v s).1.pending = s.pending := by
  unfold putValues
  split
  · exact ranged_pending (putBell_pending i · s) _
  · exact ranged_pending (putSwing_pending i · s) _
  · exact ranged_pending (putPlan_pending i · s) _
  · exact ranged_pending (putTune_pending i · s) _
  · exact ranged_pending (putNote_pending i · s) _
  · exact ranged_pending (putDial_pending i · s) _
  · exact ranged_pending (putCircuit_pending i · s) _
  · exact ranged_pending (fun _ => rfl) _
  · exact ranged_pending (fun _ => rfl) _
  · exact ranged_pending (putSpecial_pending i · s) _
  · exact ranged_pending (fun _ => rfl) _
  · exact putGroup_pending i v s

theorem putRequest_pending (body : List Byte) (s : State) : (putRequest body s).1.pending = s.pending := by
  unfold putRequest plain
  dsimp only
  repeat' split
  case h_1 => exact putValues_pending _ _ _ s
  all_goals rfl

/-- An object not in use is erased without effect (log 41). -/
theorem ifUsed_pending {used : Prop} [Decidable used] {write : State × Status} (h : write.1.pending = s.pending) :
    (if used then write else (s, .ok)).1.pending = s.pending := by
  split
  · exact h
  · rfl

theorem eraseGroup_pending (group : Nat) (s : State) : (eraseGroup group s).1.pending = s.pending := by
  unfold eraseGroup
  split
  · exact newTimeSettings_pending s _
  · rfl
  · exact newLightSettings_pending s _
  · exact putSupply_pending _ s
  · rfl
  · rfl

theorem eraseEntry_pending (table i : Nat) (s : State) : (eraseEntry table i s).1.pending = s.pending := by
  unfold eraseEntry
  split
  · exact ifUsed_pending (putBell_pending i _ s)
  · exact putSwing_pending i _ s
  · exact putPlan_pending i _ s
  · exact putTune_pending i _ s
  · exact putNote_pending i _ s
  · exact ifUsed_pending (putDial_pending i _ s)
  · exact ifUsed_pending (putCircuit_pending i _ s)
  · rfl
  · rfl
  · exact putSpecial_pending i _ s
  · rfl
  · exact eraseGroup_pending i s

theorem eraseRequest_pending (body : List Byte) (s : State) : (eraseRequest body s).1.pending = s.pending := by
  unfold eraseRequest plain
  dsimp only
  split
  · exact eraseEntry_pending _ _ s
  · rfl

/-! ## The requests of the blocks (R181) -/

theorem clearNewMarks_pending (s : State) : s.clearNewMarks.pending = s.pending := by
  unfold State.clearNewMarks
  dsimp only
  rw [State.withLight_pending, each_pending fun u t => State.setUnit_pending t u _,
    each_pending fun b t => State.setBell_pending t b _]

theorem clearUnitFault_pending (s : State) (n : Nat) : (s.clearUnitFault n).pending = s.pending := by
  unfold State.clearUnitFault
  dsimp only
  split
  · exact enterSettling_pending ..
  · rfl

theorem clearfaultRequest_pending (v : List Nat) (s : State) : (clearfaultRequest v s).1.pending = s.pending := by
  unfold clearfaultRequest
  repeat' split
  case h_2.isTrue => exact clearUnitFault_pending s _
  all_goals rfl

theorem settimeRequest_pending (v : List Nat) (s : State) : (settimeRequest v s).1.pending = s.pending := by
  unfold settimeRequest
  dsimp only
  repeat' split
  case isFalse.isFalse => exact setTime_pending s _
  all_goals rfl

theorem quietRequest_pending (v : List Nat) (s : State) : (quietRequest v s).1.pending = s.pending := by
  unfold quietRequest
  split <;> rfl

theorem playRequest_pending (kind : PerfKind) (args : PerfArgs) (due : Option Nat) (s : State) :
    (playRequest kind args due s).1.pending = s.pending := by
  unfold playRequest
  split
  · rfl
  · dsimp only
    split
    all_goals
      rename_i offered
      exact congrArg Prod.fst offered ▸ (moves_offer (.refl s) _).pending

theorem playBody_pending (v : List Nat) (s : State) : (playBody v s).1.pending = s.pending := by
  unfold playBody
  split
  · split
    · exact playRequest_pending _ _ _ s
    · rfl
  · rfl

theorem cancelBody_pending (v : List Nat) (s : State) : (cancelBody v s).1.pending = s.pending := by
  unfold cancelBody cancelPerf plain
  repeat' split
  · rfl
  · rfl
  · exact (moves_endPlaying (.refl s) _).pending
  · rfl
  · exact (moves_drop (.refl s) _ _).pending
  · rfl

theorem ringRequest_pending (n minutes : Nat) (s : State) : (ringRequest n minutes s).1.pending = s.pending := by
  unfold ringRequest
  split
  · rfl
  · exact (moves_startUnit (.refl s) _ _ _ _).pending

theorem ringBody_pending (v : List Nat) (s : State) : (ringBody v s).1.pending = s.pending := by
  unfold ringBody
  split
  · split
    · exact ringRequest_pending _ _ s
    · rfl
  · rfl

theorem haltRequest_pending (n : Nat) (s : State) : (haltRequest n s).pending = s.pending := by
  have halted := (moves_haltUnit (.refl s) n .halt .halt).pending
  unfold haltRequest
  dsimp only
  split
  · exact halted
  · exact halted

theorem haltBody_pending (v : List Nat) (s : State) : (haltBody v s).1.pending = s.pending := by
  unfold haltBody
  repeat' split
  · exact haltRequest_pending _ s
  · rfl
  · rfl

theorem pealBody_pending (v : List Nat) (s : State) : (pealBody v s).1.pending = s.pending := by
  unfold pealBody
  repeat' split
  · exact (moves_startPeal (.refl s) _).pending
  · rfl
  · rfl

theorem endPeal_pending (s : State) : (endPeal s).1.pending = s.pending := by
  unfold endPeal
  split
  · rfl
  · rfl
  · exact (moves_stopRun (.refl s) _ _).pending

theorem dialsetRequest_pending (d face : Nat) (next : Dir) (s : State) :
    (dialsetRequest d face next s).1.pending = s.pending := by
  unfold dialsetRequest
  split
  · rfl
  · dsimp only
    split
    · exact (moves_askDial (moves_moveDial (moves_withdraw (.refl _) _) _ _ _) _).pending
    · exact (moves_askDial (moves_moveDial (.refl _) _ _ _) _).pending

theorem dialsetBody_pending (v : List Nat) (s : State) : (dialsetBody v s).1.pending = s.pending := by
  unfold dialsetBody
  split
  · split
    · exact dialsetRequest_pending _ _ _ s
    · rfl
  · rfl

theorem dialstopRequest_pending (d : Nat) (stop : Bool) (s : State) :
    (dialstopRequest d stop s).1.pending = s.pending := by
  unfold dialstopRequest
  dsimp only
  repeat' split
  · rfl
  · exact (moves_moveDial (moves_withdrawDial (.refl _) d) _ _ _).pending
  · exact (moves_withdrawDial (.refl _) d).pending
  · exact (moves_classify (.refl _) _ _).pending
  · rfl

theorem dialstopBody_pending (v : List Nat) (s : State) : (dialstopBody v s).1.pending = s.pending := by
  unfold dialstopBody
  repeat' split
  · exact dialstopRequest_pending _ _ s
  · rfl
  · rfl

theorem sceneBody_pending (v : List Nat) (s : State) : (sceneBody v s).1.pending = s.pending := by
  unfold sceneBody
  repeat' split
  · exact (moves_activateScene (.refl s) _).pending
  · rfl
  · rfl

theorem overrideBody_pending (v : List Nat) (s : State) : (overrideBody v s).1.pending = s.pending := by
  unfold overrideBody overrideRequest plain
  repeat' split
  all_goals rfl

theorem listRequest_pending (body : List Byte) (s : State) : (listRequest body s).1.pending = s.pending := by
  unfold listRequest
  dsimp only
  split <;> rfl

theorem getRequest_pending (body : List Byte) (s : State) : (getRequest body s).1.pending = s.pending := by
  unfold getRequest
  dsimp only
  split <;> rfl

theorem fields_pending {run : List Nat → State → Answer} (h : ∀ v, (run v s).1.pending = s.pending) (rooms : List Room)
    (body : List Byte) : (fields rooms body run s).1.pending = s.pending := by
  unfold fields
  split
  · exact h _
  · rfl

theorem runRequest_pending (kind : Nat) (body : List Byte) (s : State) :
    (runRequest kind body s).1.pending = s.pending := by
  unfold runRequest
  split
  case h_2 => exact clearNewMarks_pending s
  case h_3 => exact fields_pending (clearfaultRequest_pending · s) _ _
  case h_4 => exact getRequest_pending _ s
  case h_5 => exact putRequest_pending _ s
  case h_6 => exact eraseRequest_pending _ s
  case h_7 => exact listRequest_pending _ s
  case h_11 => exact fields_pending (settimeRequest_pending · s) _ _
  case h_13 => exact fields_pending (quietRequest_pending · s) _ _
  case h_15 => exact fields_pending (playBody_pending · s) _ _
  case h_16 => exact fields_pending (cancelBody_pending · s) _ _
  case h_18 => exact fields_pending (ringBody_pending · s) _ _
  case h_19 => exact fields_pending (haltBody_pending · s) _ _
  case h_20 => exact fields_pending (pealBody_pending · s) _ _
  case h_21 => exact endPeal_pending s
  case h_22 => exact fields_pending (dialsetBody_pending · s) _ _
  case h_23 => exact fields_pending (dialstopBody_pending · s) _ _
  case h_24 => exact fields_pending (sceneBody_pending · s) _ _
  case h_25 => exact fields_pending (overrideBody_pending · s) _ _
  all_goals rfl

theorem judgeRequest_pending (kind : Byte) (body : List Byte) (s : State) :
    (judgeRequest kind body s).1.pending = s.pending := by
  unfold judgeRequest
  repeat' split
  case isFalse.isFalse.isFalse => exact runRequest_pending _ _ s
  all_goals rfl

end Sys2Proof.Proofs
end

section
/-! SUPPORT. Every command leaves the commands that wait (log 2, R182). -/
namespace Sys2Proof.Proofs

open Sys2Proof.Machine Sys2Proof.Claims

variable {s : State}

/-! ## Frames and bytes of the line (R180-R183) -/

theorem takeFrame_pending (kind : Byte) (body : List Byte) (s : State) : (takeFrame kind body s).pending = s.pending := by
  unfold takeFrame
  dsimp only
  repeat' split
  · rfl
  · rfl
  · exact judgeRequest_pending kind body _

theorem wholeFrame_pending (kind : Byte) (body : List Byte) (s : State) : (wholeFrame kind body s).pending = s.pending :=
  takeFrame_pending kind body _

theorem hunt_pending (s : State) (b : RxByte) : (s.hunt b).pending = s.pending := by
  unfold State.hunt
  split <;> rfl

theorem takeByte_pending (s : State) (v : Byte) : (s.takeByte v).pending = s.pending := by
  unfold State.takeByte
  split
  · rfl
  · split <;> rfl
  · rfl
  · rfl
  · repeat' split
    · exact takeFrame_pending ..
    · rfl
    · rfl

theorem receiveByte_pending (b : RxByte) (s : State) : (receiveByte b s).pending = s.pending := by
  unfold receiveByte
  dsimp only
  repeat' split
  · exact hunt_pending _ b
  · exact hunt_pending _ b
  · rfl
  · exact takeByte_pending _ _

theorem openLoading_pending (cause : StartCause) (s : State) : (openLoading cause s).pending = s.pending :=
  openObjects_keeps (P := fun t => t.pending = s.pending) (fun _ _ _ _ _ same => same) rfl

theorem transmitFrameEnd_pending (s : State) : (transmitFrameEnd s).pending = s.pending := by
  unfold transmitFrameEnd
  split
  · unfold State.sent
    split
    · rfl
    · exact openLoading_pending ..
    · rfl
    · rfl
    · rfl
  · rfl

/-! ## The time base (R2-R6, R21) -/

theorem civilMinuteBoundary_pending (s : State) : (civilMinuteBoundary s).pending = s.pending := by
  unfold civilMinuteBoundary
  split <;> rfl

theorem passHalfMinute_pending {t : State} {half : Nat} (h : passHalfMinute s = some (t, half)) :
    t.pending = s.pending := by
  unfold passHalfMinute at h
  split at h
  · cases h
    rfl
  · cases h

theorem civilHalfMinuteBoundary_pending (s : State) : (civilHalfMinuteBoundary s).pending = s.pending := by
  unfold civilHalfMinuteBoundary
  split
  · rename_i t half passed
    refine ((each_pending (fun d u => ?_) _ _).trans (moves_setTargets (.refl t) _).pending).trans
      (passHalfMinute_pending passed)
    split
    · rfl
    · exact (moves_riseDial (.refl u) d).pending
  · rfl

theorem keptSecondEnd_pending (s : State) : (keptSecondEnd s).pending = s.pending := by
  unfold keptSecondEnd
  repeat' split
  all_goals rfl

theorem rangeEnd_pending (s : State) : (rangeEnd s).pending = s.pending := by
  unfold rangeEnd
  split
  · exact (moves_loseTime (.refl _)).pending
  · rfl

theorem seasonalInstant_pending (s : State) : (seasonalInstant s).pending = s.pending := by
  unfold seasonalInstant
  split
  · split
    · refine (retime_pending ..).trans ?_
      repeat' split
      all_goals rfl
    · rfl
  · rfl

theorem lossOfLock_pending (s : State) : (lossOfLock s).pending = s.pending := by
  unfold lossOfLock
  split
  · exact (holdOver_pending (s.runTo _) _).trans (State.runTo_pending s _)
  · rfl

theorem holdoverLimit_pending (s : State) : (holdoverLimit s).pending = s.pending := by
  unfold holdoverLimit
  split
  · exact (moves_freeRun (.refl _)).pending
  · rfl

/-! ## The reference monitor (R12-R18) -/

theorem whenReady_pending {f : State → State} (h : (f s).pending = s.pending) : (s.whenReady f).pending = s.pending := by
  unfold State.whenReady
  split
  · exact h
  · rfl

theorem whenReading_pending {f : State → State} (h : (f s).pending = s.pending) :
    (s.whenReading f).pending = s.pending := by
  refine whenReady_pending ?_
  split
  · rfl
  · exact h

theorem telegramRecord_pending (chars : List Byte) (s : State) : (telegramRecord chars s).pending = s.pending :=
  whenReading_pending (foldl_pending takeChar_pending chars s)

theorem telegramRecordTimeout_pending (s : State) : (telegramRecordTimeout s).pending = s.pending := by
  refine whenReading_pending ?_
  split <;> rfl

theorem telegramSilence_pending (s : State) : (telegramSilence s).pending = s.pending := by
  refine whenReading_pending ?_
  split
  · rw [State.withRefs_pending, State.runTo_pending]
  · rfl

theorem telegramMark_pending (s : State) : (telegramMark s).pending = s.pending := by
  refine whenReading_pending ?_
  dsimp only
  repeat' split
  · rfl
  · rw [phaseOf_pending, State.withRefs_pending]
  · rw [phaseOf_pending, State.withRefs_pending]
  · rw [phaseOf_pending, State.withRefs_pending, failPending_pending]

theorem telegramMarkDeadline_pending (s : State) : (telegramMarkDeadline s).pending = s.pending := by
  refine whenReading_pending ?_
  split
  · exact failPending_pending _
  · rfl

theorem secondMarkEdge_pending (s : State) : (secondMarkEdge s).pending = s.pending := by
  refine whenReady_pending ?_
  split
  · rfl
  · exact decideEach_pending ..

theorem secondMarkTimeout_pending (s : State) : (secondMarkTimeout s).pending = s.pending := by
  refine whenReady_pending ?_
  split <;> rfl

theorem skewDecisionTimeout_pending (s : State) : (skewDecisionTimeout s).pending = s.pending := by
  refine whenReady_pending ?_
  split
  · exact decideEach_pending (fun _ => none) ..
  · rfl

/-! ## The chime player (R81-R87) -/

theorem headDue_pending (s : State) : (headDue s).pending = s.pending := by
  unfold headDue
  repeat' split
  all_goals rfl

theorem startDeadline_pending (id : Nat) (s : State) : (startDeadline id s).pending = s.pending := by
  unfold startDeadline
  repeat' split
  · rfl
  · exact (moves_drop (.refl _) _ _).pending
  · rfl

theorem noteDue_pending (s : State) : (noteDue s).pending = s.pending := by
  unfold noteDue
  split
  · dsimp only
    split
    · exact (moves_requestNote (moves_onPlaying (.refl _) _)).pending
    · rfl
  · rfl

theorem noteWaitExpiry_pending (s : State) : (noteWaitExpiry s).pending = s.pending := by
  unfold noteWaitExpiry
  split
  · exact (moves_post (moves_postAll (moves_setPlaying (.refl _) _) _) _).pending
  · rfl

theorem tailEnd_pending (s : State) : (tailEnd s).pending = s.pending := by
  unfold tailEnd
  split
  · exact (moves_endPlaying (.refl _) _).pending
  · rfl

/-! ## The hammers (R58, R62) -/

theorem pulseEnd_pending (b : Nat) (s : State) : (pulseEnd b s).pending = s.pending := by
  unfold pulseEnd
  split
  · exact (moves_pulseEnds (.refl _) _).pending
  · rfl

theorem recoveryEnd_pending (b : Nat) (s : State) : (recoveryEnd b s).pending = s.pending := by
  unfold recoveryEnd
  split
  · dsimp only
    repeat' split
    · rfl
    · exact (moves_answerRefused (.refl _) _ _).pending
    · exact (moves_takeBlow (.refl _) _ _ _).pending
  · rfl

theorem senseInstant_pending (b : Nat) (s : State) : (senseInstant b s).pending = s.pending := by
  unfold senseInstant
  split
  · exact (moves_queueConversion (.refl _) _).pending
  · rfl

/-! ## The swing units and the run (R95-R103, R110, R111) -/

theorem reversal_pending (n : Nat) (s : State) : (reversal n s).pending = s.pending := by
  unfold reversal
  dsimp only
  split
  · rfl
  · split
    · exact takeTurn_pending ..
    · split
      · exact enterSettling_pending ..
      · rfl

theorem indexCrossing_pending (n : Nat) (s : State) : (indexCrossing n s).pending = s.pending := by
  unfold indexCrossing
  dsimp only
  repeat' split
  · rfl
  · rfl
  · exact enterFault_pending ..
  · rfl

theorem raiseLimitExpiry_pending (n : Nat) (s : State) : (raiseLimitExpiry n s).pending = s.pending := by
  unfold raiseLimitExpiry
  split
  · exact enterFault_pending ..
  · rfl

theorem lowerLimitExpiry_pending (n : Nat) (s : State) : (lowerLimitExpiry n s).pending = s.pending := by
  unfold lowerLimitExpiry
  split
  · exact enterFault_pending ..
  · rfl

theorem noTurnTimeout_pending (n : Nat) (s : State) : (noTurnTimeout n s).pending = s.pending := by
  unfold noTurnTimeout
  split
  · exact enterSettling_pending ..
  · rfl

theorem driveWindowExpiry_pending (n : Nat) (s : State) : (driveWindowExpiry n s).pending = s.pending := by
  unfold driveWindowExpiry
  split
  · exact (moves_cutDrive (.refl _) _).pending
  · rfl

theorem driveImpulseEnd_pending (n : Nat) (s : State) : (driveImpulseEnd n s).pending = s.pending := by
  unfold driveImpulseEnd
  split
  · exact (moves_cutDrive (.refl _) _).pending
  · rfl

theorem ringEnd_pending (n : Nat) (s : State) : (ringEnd n s).pending = s.pending := by
  unfold ringEnd
  repeat' split
  · exact (moves_stopUnit (.refl _) _ _ _).pending
  · rfl
  · rfl

theorem settleTimerExpiry_pending (n : Nat) (s : State) : (settleTimerExpiry n s).pending = s.pending := by
  unfold settleTimerExpiry
  split
  · exact (moves_unitNotice (moves_moveClaim (.refl _) _ _) _ _ _).pending
  · rfl

theorem startStep_pending (s : State) : (startStep s).pending = s.pending := by
  unfold startStep
  split
  · exact (moves_takeStartStep (.refl _)).pending
  · rfl

theorem pealEndInstant_pending (s : State) : (pealEndInstant s).pending = s.pending := by
  unfold pealEndInstant
  split
  · exact (moves_stopRun (.refl _) _ _).pending
  · rfl

theorem stopStep_pending (s : State) : (stopStep s).pending = s.pending := by
  unfold stopStep
  split
  · exact (moves_settleRun (moves_takeStopStep (.refl _))).pending
  · rfl

/-! ## The dials and the circuits (R119, R120, R135-R138) -/

theorem dialSpacingExpiry_pending (d : Nat) (s : State) : (dialSpacingExpiry d s).pending = s.pending := by
  unfold dialSpacingExpiry
  split
  · exact (moves_askDial (.refl _) _).pending
  · rfl

theorem dialImpulseEnd_pending (d : Nat) (s : State) : (dialImpulseEnd d s).pending = s.pending := by
  have released (t : State) : (t.releaseAll (.dial d)).pending = t.pending := (moves_releaseAll (.refl t) _).pending
  unfold dialImpulseEnd
  split
  · dsimp only
    repeat' split
    · exact (moves_classify (.refl _) _ _).pending.trans (released _)
    · exact (moves_moveDial (.refl _) _ _ _).pending.trans (released _)
    · exact (moves_judgeDial (.refl _) _).pending.trans (released _)
  · rfl

theorem warmUpEnd_pending (c : Nat) (s : State) : (warmUpEnd c s).pending = s.pending := by
  unfold warmUpEnd
  split
  · exact (moves_release (.refl _) _ _).pending.trans (changeCircuit_pending ..)
  · rfl

theorem restrikeEnd_pending (c : Nat) (s : State) : (restrikeEnd c s).pending = s.pending := by
  unfold restrikeEnd
  split
  · dsimp only
    repeat' split
    · rfl
    · exact (moves_strike (.refl _) _ _).pending
    · exact changeCircuit_pending ..
  · rfl

theorem fadeStep_pending (c : Nat) (s : State) : (fadeStep c s).pending = s.pending := by
  unfold fadeStep
  split
  · rename_i instant _ _ _
    dsimp only
    generalize (if _ < ((s.runTo instant).circuit c).target then _ else _) = level
    repeat' split
    · exact (moves_darken (.refl _) _ _).pending
    · exact (moves_release (moves_runFade (.refl _) _) _ _).pending
    · exact (moves_runFade (.refl _) _).pending
  · rfl

theorem overrideExpiry_pending (c : Nat) (s : State) : (overrideExpiry c s).pending = s.pending := by
  unfold overrideExpiry
  split <;> rfl

/-! ## The light monitor, the converter and the arbiter (R147, R151, R164) -/

theorem sampleInstant_pending (s : State) : (sampleInstant s).pending = s.pending := by
  unfold sampleInstant
  split
  · exact (moves_sampleNow (.refl _)).pending
  · rfl

theorem conversionEnd_pending (reading : Nat) (s : State) : (conversionEnd reading s).pending = s.pending := by
  have begun (t : State) : t.beginConversion.pending = t.pending := (moves_beginConversion (.refl t)).pending
  unfold conversionEnd
  split
  · rfl
  · dsimp only
    split
    · exact (coilResult_pending ..).trans (begun _)
    · exact (lightResult_pending ..).trans (begun _)

theorem shedTimerExpiry_pending (c : Claimant) (s : State) : (shedTimerExpiry c s).pending = s.pending := by
  unfold shedTimerExpiry
  dsimp only
  repeat' split
  all_goals rfl

/-! ## The power monitor (R168-R171) -/

theorem whenRunning_pending {f : State → State} (h : (f s).pending = s.pending) :
    (s.whenRunning f).pending = s.pending := by
  unfold State.whenRunning
  split
  · exact h
  · rfl

theorem setMains_pending (s : State) (mains : Mains) (settle : Option Nat) :
    (s.setMains mains settle).pending = s.pending := by
  unfold State.setMains
  dsimp only
  repeat' split
  · rfl
  · exact (moves_loseMains (.refl _)).pending
  · rfl
  · rfl

theorem mainsLineAbsent_pending (s : State) : (mainsLineAbsent s).pending = s.pending := by
  refine whenRunning_pending (s := s.withPower { s.power with linePresent := false }) ?_
  split
  · rfl
  · exact setMains_pending ..

theorem mainsLinePresent_pending (s : State) : (mainsLinePresent s).pending = s.pending := by
  refine whenRunning_pending (s := s.withPower { s.power with linePresent := true }) ?_
  split
  · exact setMains_pending ..
  · rfl

theorem mainsSettleExpiry_pending (s : State) : (mainsSettleExpiry s).pending = s.pending := by
  refine whenRunning_pending ?_
  split
  · rfl
  · exact setMains_pending ..

theorem accessSwitchChange_pending (shows : Access) (s : State) :
    (accessSwitchChange shows s).pending = s.pending := by
  unfold accessSwitchChange
  split
  · rfl
  · exact whenRunning_pending (s := s.withPower { s.power with accessShows := shows }) rfl

theorem accessTimerExpiry_pending (s : State) : (accessTimerExpiry s).pending = s.pending := by
  refine whenRunning_pending ?_
  split
  · rfl
  · dsimp only
    split <;> rfl

theorem keySwitchChange_pending (shows : Key) (s : State) : (keySwitchChange shows s).pending = s.pending := by
  unfold keySwitchChange
  split
  · rfl
  · exact whenRunning_pending (s := s.withPower { s.power with keyShows := shows }) rfl

theorem keyTimerExpiry_pending (s : State) : (keyTimerExpiry s).pending = s.pending := by
  refine whenRunning_pending ?_
  split <;> rfl

/-! ## The store and the start (R173-R175) -/

theorem saveTableWritten_pending (readBack : Bool) (s : State) : (saveTableWritten readBack s).pending = s.pending := by
  unfold saveTableWritten
  dsimp only
  repeat' split
  all_goals rfl

theorem resetLineRelease_pending (s : State) : (resetLineRelease s).pending = s.pending := by
  unfold resetLineRelease
  dsimp only
  repeat' split
  · exact openLoading_pending ..
  · rfl
  · rfl

theorem powerOn_pending (retained : Bool) (s : State) : (powerOn retained s).pending = s.pending := by
  unfold powerOn
  dsimp only
  repeat' split
  · rfl
  · rfl
  · exact openLoading_pending ..

theorem clearBells_pending (s : State) :
    (s.each bellNumbers fun b t => t.setBell b (clearedBell (t.bell b))).pending = s.pending :=
  each_pending (fun b t => State.setBell_pending t b _) _ s

theorem coldStart_pending (s : State) : s.coldStart.pending = s.pending := by
  unfold State.coldStart
  dsimp only
  rw [each_pending fun c t => State.setCircuit_pending t c _, clearBells_pending]

theorem warmStart_pending (s : State) : s.warmStart.pending = s.pending := by
  unfold State.warmStart
  dsimp only
  repeat' split
  · exact clearBells_pending _
  · exact clearBells_pending _
  · rfl
  · rfl

theorem loadingEnd_pending (s : State) : (loadingEnd s).pending = s.pending := by
  have started : (if s.start.retainedGood then s.warmStart else s.coldStart).pending = s.pending := by
    split
    · exact warmStart_pending s
    · exact coldStart_pending s
  unfold loadingEnd
  dsimp only
  split
  · exact started
  · rfl

/-! ## Every command -/

theorem finish_pending (s : State) : s.finish.pending = s.pending := by
  obtain ⟨t, m, -, e⟩ := s.finish_eq
  rw [e, t.pump_eq]
  exact m.pending

theorem command_pending {f : State → State} (h : (f s).pending = s.pending) : (command f s).pending = s.pending := by
  unfold command
  split
  · exact (finish_pending _).trans h
  · rfl

theorem readyCommand_pending {f : State → State} (h : (f s).pending = s.pending) :
    (readyCommand f s).pending = s.pending := by
  unfold readyCommand
  split
  · exact (finish_pending _).trans h
  · rfl

/-- Settles O3: each command's meaning is a next state, whose queue is the one its own effect leaves. -/
theorem everyCommandCompletes : Obligations.EveryCommandCompletes := by
  unfold Obligations.EveryCommandCompletes
  intro i s
  cases i with
  | status | faults | clearfault | get | put | erase | list | save | restart | rate | settime | timeinfo | quiet
  | dayinfo | play | cancel | queue | ring | halt | peal | endpeal | dialset | dialstop | scene | override
  | floodinfo | lightinfo | supplyinfo | unknownKindFrame =>
    exact ⟨_, rfl, command_pending (wholeFrame_pending _ _ s)⟩
  | frameDiscarded bytes =>
    exact ⟨_, rfl, foldl_pending (fun _ b => command_pending (receiveByte_pending b _)) bytes s⟩
  | transmitFrameEnd => exact ⟨_, rfl, command_pending (transmitFrameEnd_pending s)⟩
  | civilMinuteBoundary => exact ⟨_, rfl, readyCommand_pending (civilMinuteBoundary_pending s)⟩
  | civilHalfMinuteBoundary => exact ⟨_, rfl, readyCommand_pending (civilHalfMinuteBoundary_pending s)⟩
  | keptSecondEnd => exact ⟨_, rfl, readyCommand_pending (keptSecondEnd_pending s)⟩
  | rangeEnd => exact ⟨_, rfl, readyCommand_pending (rangeEnd_pending s)⟩
  | seasonalInstant => exact ⟨_, rfl, readyCommand_pending (seasonalInstant_pending s)⟩
  | lossOfLock => exact ⟨_, rfl, readyCommand_pending (lossOfLock_pending s)⟩
  | holdoverLimit => exact ⟨_, rfl, readyCommand_pending (holdoverLimit_pending s)⟩
  | telegramRecord chars => exact ⟨_, rfl, readyCommand_pending (telegramRecord_pending chars s)⟩
  | telegramRecordTimeout => exact ⟨_, rfl, readyCommand_pending (telegramRecordTimeout_pending s)⟩
  | telegramMark => exact ⟨_, rfl, readyCommand_pending (telegramMark_pending s)⟩
  | telegramMarkDeadline => exact ⟨_, rfl, readyCommand_pending (telegramMarkDeadline_pending s)⟩
  | telegramSilence => exact ⟨_, rfl, readyCommand_pending (telegramSilence_pending s)⟩
  | secondMarkEdge => exact ⟨_, rfl, readyCommand_pending (secondMarkEdge_pending s)⟩
  | secondMarkTimeout => exact ⟨_, rfl, readyCommand_pending (secondMarkTimeout_pending s)⟩
  | skewDecisionTimeout => exact ⟨_, rfl, readyCommand_pending (skewDecisionTimeout_pending s)⟩
  | headDue => exact ⟨_, rfl, readyCommand_pending (headDue_pending s)⟩
  | startDeadline id => exact ⟨_, rfl, readyCommand_pending (startDeadline_pending id s)⟩
  | noteDue => exact ⟨_, rfl, readyCommand_pending (noteDue_pending s)⟩
  | noteWaitExpiry => exact ⟨_, rfl, readyCommand_pending (noteWaitExpiry_pending s)⟩
  | tailEnd => exact ⟨_, rfl, readyCommand_pending (tailEnd_pending s)⟩
  | pulseEnd b => exact ⟨_, rfl, readyCommand_pending (pulseEnd_pending b s)⟩
  | recoveryEnd b => exact ⟨_, rfl, readyCommand_pending (recoveryEnd_pending b s)⟩
  | senseInstant b => exact ⟨_, rfl, readyCommand_pending (senseInstant_pending b s)⟩
  | reversal n => exact ⟨_, rfl, command_pending (reversal_pending n s)⟩
  | indexCrossing n => exact ⟨_, rfl, command_pending (indexCrossing_pending n s)⟩
  | raiseLimitExpiry n => exact ⟨_, rfl, readyCommand_pending (raiseLimitExpiry_pending n s)⟩
  | driveWindowExpiry n => exact ⟨_, rfl, readyCommand_pending (driveWindowExpiry_pending n s)⟩
  | driveImpulseEnd n => exact ⟨_, rfl, readyCommand_pending (driveImpulseEnd_pending n s)⟩
  | ringEnd n => exact ⟨_, rfl, readyCommand_pending (ringEnd_pending n s)⟩
  | noTurnTimeout n => exact ⟨_, rfl, readyCommand_pending (noTurnTimeout_pending n s)⟩
  | lowerLimitExpiry n => exact ⟨_, rfl, readyCommand_pending (lowerLimitExpiry_pending n s)⟩
  | settleTimerExpiry n => exact ⟨_, rfl, command_pending (settleTimerExpiry_pending n s)⟩
  | startStep => exact ⟨_, rfl, readyCommand_pending (startStep_pending s)⟩
  | pealEndInstant => exact ⟨_, rfl, readyCommand_pending (pealEndInstant_pending s)⟩
  | stopStep => exact ⟨_, rfl, readyCommand_pending (stopStep_pending s)⟩
  | dialSpacingExpiry d => exact ⟨_, rfl, readyCommand_pending (dialSpacingExpiry_pending d s)⟩
  | dialImpulseEnd d => exact ⟨_, rfl, readyCommand_pending (dialImpulseEnd_pending d s)⟩
  | warmUpEnd c => exact ⟨_, rfl, readyCommand_pending (warmUpEnd_pending c s)⟩
  | restrikeEnd c => exact ⟨_, rfl, command_pending (restrikeEnd_pending c s)⟩
  | fadeStep c => exact ⟨_, rfl, readyCommand_pending (fadeStep_pending c s)⟩
  | overrideExpiry c => exact ⟨_, rfl, readyCommand_pending (overrideExpiry_pending c s)⟩
  | sampleInstant => exact ⟨_, rfl, readyCommand_pending (sampleInstant_pending s)⟩
  | conversionEnd reading => exact ⟨_, rfl, readyCommand_pending (conversionEnd_pending reading s)⟩
  | shedTimerExpiry c => exact ⟨_, rfl, readyCommand_pending (shedTimerExpiry_pending c s)⟩
  | mainsLineAbsent => exact ⟨_, rfl, (finish_pending _).trans (mainsLineAbsent_pending s)⟩
  | mainsLinePresent => exact ⟨_, rfl, (finish_pending _).trans (mainsLinePresent_pending s)⟩
  | mainsSettleExpiry => exact ⟨_, rfl, command_pending (mainsSettleExpiry_pending s)⟩
  | accessSwitchChange shows => exact ⟨_, rfl, (finish_pending _).trans (accessSwitchChange_pending shows s)⟩
  | accessTimerExpiry => exact ⟨_, rfl, command_pending (accessTimerExpiry_pending s)⟩
  | keySwitchChange shows => exact ⟨_, rfl, (finish_pending _).trans (keySwitchChange_pending shows s)⟩
  | keyTimerExpiry => exact ⟨_, rfl, command_pending (keyTimerExpiry_pending s)⟩
  | saveTableWritten readBack => exact ⟨_, rfl, readyCommand_pending (saveTableWritten_pending readBack s)⟩
  | resetLineHeld | supplyFailure => exact ⟨_, rfl, rfl⟩
  | resetLineRelease => exact ⟨_, rfl, resetLineRelease_pending s⟩
  | powerOn retained => exact ⟨_, rfl, powerOn_pending retained s⟩
  | loadingEnd => exact ⟨_, rfl, command_pending (loadingEnd_pending s)⟩
  | encoderEdge n dir => exact ⟨_, rfl, command_pending (f := encoderEdge n dir) rfl⟩

end Sys2Proof.Proofs
end

section
/-! SUPPORT. The form of a record on the line (R194, log 18): the values of a record's fields, written into the room of the
fields, are read back, and the values a body gives lie in that room. -/
namespace Sys2Proof.Proofs

open Sys2Proof.Machine Sys2Proof.Claims

/-- How many values a room holds. -/
def capacity : Room → Nat
  | .bits n => 2 ^ n
  | .bytes n => 256 ^ n

/-- Each value lies in its room. -/
def Fits : List Room → List Nat → Prop := List.Forall₂ fun room v => v < capacity room

/-- The fields of a record from their rooms and values. -/
def fieldsOf (rooms : List Room) (values : List Nat) : List Item := List.zipWith Item.field rooms values

variable {room : Room} {rooms : List Room} {v : Nat} {values : List Nat}

theorem Fits.cons_iff : Fits (room :: rooms) (v :: values) ↔ v < capacity room ∧ Fits rooms values :=
  List.forall₂_cons

/-! ## Bytes and numbers -/

theorem toNat_byte_eq (n : Nat) : (byte n).toNat = n % 256 := BitVec.toNat_ofNat n 8

theorem length_beBytes (n v : Nat) : (beBytes n v).length = n := by
  induction n with
  | zero => rfl
  | succ n ih => rw [beBytes, List.length_cons, ih]

theorem length_leBytes (n v : Nat) : (leBytes n v).length = n := by
  induction n generalizing v with
  | zero => rfl
  | succ n ih => rw [leBytes, List.length_cons, ih]

/-- The number of bytes, high byte first, goes on from the number of the bytes before. -/
theorem foldl_beBytes (n v a : Nat) :
    (beBytes n v).foldl (fun a b => a * 256 + b.toNat) a = a * 256 ^ n + v % 256 ^ n := by
  induction n generalizing a with
  | zero => simp [beBytes, Nat.mod_one]
  | succ n ih =>
    rw [beBytes, List.foldl_cons, ih, toNat_byte_eq, Nat.pow_succ, Nat.mod_mul]
    ring

theorem beNat_beBytes (n v : Nat) : beNat (beBytes n v) = v % 256 ^ n := by
  unfold beNat
  rw [foldl_beBytes, Nat.zero_mul, Nat.zero_add]

theorem leNat_leBytes (n v : Nat) : leNat (leBytes n v) = v % 256 ^ n := by
  induction n generalizing v with
  | zero => rw [leBytes, leNat, Nat.pow_zero, Nat.mod_one]
  | succ n ih => rw [leBytes, leNat, ih, toNat_byte_eq, Nat.pow_succ', Nat.mod_mul]

theorem beNat_lt (l : List Byte) : beNat l < 256 ^ l.length := by
  induction l using List.reverseRecOn with
  | nil => simp [beNat]
  | append_singleton l b ih =>
    have last : b.toNat < 256 := b.isLt
    have next : beNat (l ++ [b]) = beNat l * 256 + b.toNat := by simp [beNat]
    rw [next, List.length_append, List.length_singleton, Nat.pow_succ]
    omega

/-! ## Marks -/

theorem markNat_fieldsOf_lt (h : Fits rooms values) : markNat (fieldsOf rooms values) < 2 ^ markBits rooms := by
  induction h with
  | nil => simp [fieldsOf, markNat, markBits]
  | @cons room v rooms values fits _ ih =>
    cases room with
    | bytes n => exact ih
    | bits n =>
      have fits : v < 2 ^ n := fits
      show v + 2 ^ n * markNat (fieldsOf rooms values) < 2 ^ (n + markBits rooms)
      calc v + 2 ^ n * markNat (fieldsOf rooms values) < 2 ^ n * (markNat (fieldsOf rooms values) + 1) := by
            rw [Nat.mul_add, Nat.mul_one, Nat.add_comm]; exact Nat.add_lt_add_left fits _
        _ ≤ 2 ^ n * 2 ^ markBits rooms := Nat.mul_le_mul_left _ ih
        _ = 2 ^ (n + markBits rooms) := (Nat.pow_add 2 n _).symm

theorem two_pow_markBits_le (rooms : List Room) : 2 ^ markBits rooms ≤ 256 ^ markBytes rooms := by
  have whole : markBits rooms ≤ 8 * markBytes rooms := by unfold markBytes; omega
  calc 2 ^ markBits rooms ≤ 2 ^ (8 * markBytes rooms) := Nat.pow_le_pow_right (by decide) whole
    _ = 256 ^ markBytes rooms := Nat.pow_mul 2 8 _

theorem rooms_fieldsOf (h : Fits rooms values) : (fieldsOf rooms values).map Item.room = rooms := by
  induction h with
  | nil => rfl
  | cons _ _ ih => exact congrArg _ ih

/-! ## A record written is read back -/

theorem unpackFrom_fieldsOf (h : Fits rooms values) :
    unpackFrom rooms (markNat (fieldsOf rooms values)) ((fieldsOf rooms values).flatMap Item.bytes) = values := by
  induction h with
  | nil => rfl
  | @cons room v rooms values fits _ ih =>
    cases room with
    | bits n =>
      have fits : v < 2 ^ n := fits
      show (v + 2 ^ n * markNat (fieldsOf rooms values)) % 2 ^ n ::
        unpackFrom rooms ((v + 2 ^ n * markNat (fieldsOf rooms values)) / 2 ^ n)
          ((fieldsOf rooms values).flatMap Item.bytes) = v :: values
      rw [Nat.add_mul_mod_self_left, Nat.mod_eq_of_lt fits, Nat.add_mul_div_left _ _ (Nat.two_pow_pos n),
        Nat.div_eq_of_lt fits, Nat.zero_add, ih]
    | bytes n =>
      have fits : v < 256 ^ n := fits
      show beNat ((beBytes n v ++ (fieldsOf rooms values).flatMap Item.bytes).take n) ::
        unpackFrom rooms (markNat (fieldsOf rooms values))
          ((beBytes n v ++ (fieldsOf rooms values).flatMap Item.bytes).drop n) = v :: values
      rw [List.take_left' (length_beBytes n v), List.drop_left' (length_beBytes n v), beNat_beBytes,
        Nat.mod_eq_of_lt fits, ih]

/-- The values of a record's fields, written in their rooms, are read back. -/
theorem unpack_pack (h : Fits rooms values) : unpack rooms (pack (fieldsOf rooms values)) = some values := by
  have small := markNat_fieldsOf_lt h
  unfold pack unpack
  rw [rooms_fieldsOf h]
  dsimp only
  rw [List.take_left' (length_leBytes _ _), List.drop_left' (length_leBytes _ _), leNat_leBytes,
    Nat.mod_eq_of_lt (small.trans_le (two_pow_markBits_le rooms)), if_pos small, unpackFrom_fieldsOf h]

/-! ## What a body gives lies in the rooms -/

theorem fits_unpackFrom (rooms : List Room) (marks : Nat) (body : List Byte) :
    Fits rooms (unpackFrom rooms marks body) := by
  induction rooms generalizing marks body with
  | nil => exact .nil
  | cons room rooms ih =>
    cases room with
    | bits n => exact .cons (Nat.mod_lt _ (Nat.two_pow_pos n)) (ih _ _)
    | bytes n =>
      have short : (body.take n).length ≤ n := by rw [List.length_take]; exact Nat.min_le_left _ _
      exact .cons ((beNat_lt _).trans_le (Nat.pow_le_pow_right (by decide) short)) (ih _ _)

theorem fits_of_unpack {body : List Byte} (h : unpack rooms body = some values) : Fits rooms values := by
  unfold unpack at h
  dsimp only at h
  split at h
  · cases h
    exact fits_unpackFrom _ _ _
  · cases h

/-! ## Records -/

/-- Where a record's bytes are those of values that read as the same record, it is read back. -/
theorem backAndForth_of_pack {α : Type} {read : List Nat → Option α} {items : α → List Item}
    (h : ∀ values r, Fits rooms values → read values = some r →
      ∃ written, pack (items r) = pack (fieldsOf rooms written) ∧ Fits rooms written ∧ read written = some r) :
    backAndForth rooms read items := by
  intro body r _ reads
  obtain ⟨values, unpacked, reads⟩ := Option.bind_eq_some_iff.mp reads
  obtain ⟨written, packed, fits, reads⟩ := h values r (fits_of_unpack unpacked) reads
  rw [packed, unpack_pack fits]
  exact reads

/-- A record whose fields are the values it is read from is read back. -/
theorem backAndForth_of_items {α : Type} {read : List Nat → Option α} {items : α → List Item}
    (h : ∀ values r, Fits rooms values → read values = some r → items r = fieldsOf rooms values) :
    backAndForth rooms read items :=
  backAndForth_of_pack fun values r fits reads => ⟨values, congrArg pack (h values r fits reads), fits, reads⟩

end Sys2Proof.Proofs
end

section
/-! SUPPORT. The parts of a reading, and the records of the tables read from values (R26, R29, R46, R93, R109, R115, R128,
R132). -/
namespace Sys2Proof.Proofs

open Sys2Proof.Machine Sys2Proof.Claims

/-! ## Parts of a reading -/

theorem keepIf_eq_some_iff {α : Type} {good : Bool} {v r : α} : keepIf good v = some r ↔ good = true ∧ v = r := by
  cases good <;> simp [keepIf]

theorem mark_of_lt {m : Nat} (h : m < 2) : mark (decide (m ≠ 0)) = [.field (.bits 1) m] := by
  have one : m = 0 ∨ m = 1 := by omega
  rcases one with rfl | rfl <;> rfl

/-- An optional number in range, read from its own mark and bytes. -/
theorem readOpt_value (o : Option Nat) (good : Nat → Bool) :
    readOpt o.isSome.toNat (o.getD 0) (good (o.getD 0)) = if ∀ v ∈ o, good v = true then some o else none := by
  cases o <;> simp [readOpt]

theorem readAlt_value (o : Option Nat) (good : Nat → Bool) :
    readAlt o.isNone.toNat (o.getD 0) (good (o.getD 0)) = if ∀ v ∈ o, good v = true then some o else none := by
  cases o <;> simp [readAlt]

/-- An optional number is written as the mark and the bytes it was read from. -/
theorem opt_of_readOpt {bytes present v : Nat} {good : Bool} {o : Option Nat} (h : readOpt present v good = some o)
    (hp : present < 2) : opt bytes o = [.field (.bits 1) present, .field (.bytes bytes) v] := by
  have one : present = 0 ∨ present = 1 := by omega
  unfold readOpt at h
  rcases one with rfl | rfl
  · rw [if_pos rfl] at h
    split at h
    · rename_i zero
      cases h
      rw [zero]
      rfl
    · cases h
  · rw [if_neg (by decide)] at h
    split at h
    · cases h
      rfl
    · cases h

theorem alt_of_readAlt {bytes named v : Nat} {good : Bool} {o : Option Nat} (h : readAlt named v good = some o)
    (hn : named < 2) : alt bytes o = [.field (.bits 1) named, .field (.bytes bytes) v] := by
  have one : named = 0 ∨ named = 1 := by omega
  unfold readAlt at h
  rcases one with rfl | rfl
  · rw [if_neg (not_not_intro rfl)] at h
    split at h
    · cases h
      rfl
    · cases h
  · rw [if_pos (by decide)] at h
    split at h
    · rename_i zero
      cases h
      rw [zero]
      rfl
    · cases h

/-- An enumeration's code is its value's place in the list. -/
theorem readEnum_eq_some_iff {α : Type} {listed : List α} {place : α → Nat}
    (places : listed.map place = List.range listed.length) (all : ∀ a, a ∈ listed) {code : Nat} {a : α} :
    readEnum listed code = some a ↔ code = place a := by
  have code_of {i : Nat} {b : α} (h : listed[i]? = some b) : i = place b := by
    have mapped : (listed.map place)[i]? = some (place b) := by rw [List.getElem?_map, h]; rfl
    rw [places] at mapped
    obtain ⟨_, same⟩ := List.getElem?_eq_some_iff.mp mapped
    rwa [List.getElem_range] at same
  refine ⟨code_of, ?_⟩
  rintro rfl
  obtain ⟨i, h⟩ := List.getElem?_of_mem (all a)
  rw [← code_of h]
  exact h

theorem readEnum_brake {code : Nat} {b : Brake} : readEnum [Brake.coast, .counter] code = some b ↔ code = b.ctorIdx :=
  readEnum_eq_some_iff rfl fun b => by cases b <;> decide

theorem readEnum_precedence {code : Nat} {p : Precedence} :
    readEnum [Precedence.wait, .preempt] code = some p ↔ code = p.ctorIdx :=
  readEnum_eq_some_iff rfl fun p => by cases p <;> decide

theorem readEnum_velocity {code : Nat} {v : Velocity} :
    readEnum [Velocity.soft, .medium, .full] code = some v ↔ code = v.ctorIdx :=
  readEnum_eq_some_iff rfl fun v => by cases v <;> decide

theorem readEnum_circuitKind {code : Nat} {k : CircuitKind} :
    readEnum [CircuitKind.switched, .dimmed] code = some k ↔ code = k.ctorIdx :=
  readEnum_eq_some_iff rfl fun k => by cases k <;> decide

theorem readEnum_refMode {code : Nat} {m : RefMode} :
    readEnum [RefMode.auto, .telegram, .off] code = some m ↔ code = m.ctorIdx :=
  readEnum_eq_some_iff rfl fun m => by cases m <;> decide

theorem decide_toNat_ne_zero (b : Bool) : decide (b.toNat ≠ 0) = b := by cases b <;> rfl

theorem toNat_decide_of_lt {m : Nat} (h : m < 2) : (decide (m ≠ 0)).toNat = m := by
  have one : m = 0 ∨ m = 1 := by omega
  rcases one with rfl | rfl <;> rfl

theorem bind_ite_some {α β : Type} {p : Prop} [Decidable p] (a : α) (f : α → Option β) :
    (if p then some a else none).bind f = if p then f a else none := by
  split <;> rfl

theorem within_iff {lo hi v : Nat} : within lo hi v = true ↔ lo ≤ v ∧ v ≤ hi := by
  simp [within]

end Sys2Proof.Proofs
end

section
/-! SUPPORT. The records read from the values of their fields: in range, and agreeing as the rules ask (R23, R26, R29, R46,
R68, R93, R115, R128, R155). -/
namespace Sys2Proof.Proofs

open Sys2Proof.Machine Sys2Proof.Claims

/-! ## BELL and SWING (R46, R93) -/

theorem readBell_values (r : BellRec) :
    readBell [r.inUse.toNat, r.fitted.toNat, r.enabled.toNat, r.soft, r.medium, r.full, r.recovery, r.units,
      r.swing.isSome.toNat, r.swing.getD 0, r.coilCheck.toNat] =
    if (10 ≤ r.soft ∧ r.soft ≤ 250) ∧ (10 ≤ r.medium ∧ r.medium ≤ 250) ∧ (10 ≤ r.full ∧ r.full ≤ 250) ∧
        (100 ≤ r.recovery ∧ r.recovery ≤ 2000) ∧ (1 ≤ r.units ∧ r.units ≤ 40) ∧ (∀ u ∈ r.swing, u < 6)
      then some r else none := by
  have swing := readOpt_value r.swing fun u => decide (u < 6)
  simp only [readBell, swing, Option.bind_eq_bind, bind_ite_some, keepIf, decide_toNat_ne_zero, ← ite_and]
  refine if_congr ?_ rfl rfl
  simp only [Bool.and_eq_true, within_iff, decide_eq_true_eq]
  tauto

theorem readSwing_values (r : SwingRec) :
    readSwing [r.counts, r.target, r.band, r.rest, r.settle, r.raise, r.lower, r.width, r.window, r.units,
      r.brake.ctorIdx, r.tolerance] =
    if (400 ≤ r.counts ∧ r.counts ≤ 16384 ∧ r.counts % 4 = 0) ∧ (20 ≤ r.target ∧ r.target ≤ 150) ∧
        (2 ≤ r.band ∧ r.band ≤ 20) ∧ (1 ≤ r.rest ∧ r.rest ≤ 10) ∧ (10 ≤ r.settle ∧ r.settle ≤ 300) ∧
        (10 ≤ r.raise ∧ r.raise ≤ 600) ∧ (10 ≤ r.lower ∧ r.lower ≤ 900) ∧ (50 ≤ r.width ∧ r.width ≤ 1000) ∧
        (20 ≤ r.window ∧ r.window ≤ 500) ∧ (5 ≤ r.units ∧ r.units ≤ 100) ∧ (2 ≤ r.tolerance ∧ r.tolerance ≤ 64) ∧
        r.counts * r.rest / 360 < r.counts * r.target / 360 - r.counts * r.band / 360
      then some r else none := by
  simp only [readSwing, readEnum_brake.mpr rfl, Option.bind_eq_bind, Option.bind_some, keepIf]
  refine if_congr ?_ rfl rfl
  simp only [Bool.and_eq_true, within_iff, decide_eq_true_eq, and_assoc]

/-! ## DIAL and CIRCUIT (R115, R128) -/

theorem readDial_values (r : DialRec) :
    readDial [r.inUse.toNat, r.interval, r.width, r.catchUp, r.hold, r.units] =
    if (r.interval = 30 ∨ r.interval = 60) ∧ (100 ≤ r.width ∧ r.width ≤ 2000) ∧ (1 ≤ r.catchUp ∧ r.catchUp ≤ 10) ∧
        (1 ≤ r.hold ∧ r.hold ≤ 719) ∧ (1 ≤ r.units ∧ r.units ≤ 50) ∧ r.width + 500 ≤ r.catchUp * 1000
      then some r else none := by
  simp only [readDial, keepIf, decide_toNat_ne_zero]
  refine if_congr ?_ rfl rfl
  simp only [Bool.and_eq_true, Bool.or_eq_true, within_iff, decide_eq_true_eq, and_assoc]

theorem readCircuit_values (r : CircuitRec) :
    readCircuit [r.inUse.toNat, r.kind.ctorIdx, r.rated, r.surge, r.warmUp, r.restrike, r.fade, r.shed, r.sheddable.toNat,
      r.accessLight.toNat] =
    if (1 ≤ r.rated ∧ r.rated ≤ 100) ∧ (r.rated ≤ r.surge ∧ r.surge ≤ 200) ∧ r.warmUp ≤ 600 ∧ r.restrike ≤ 1200 ∧
        (1 ≤ r.fade ∧ r.fade ≤ 100) ∧ r.shed ≤ 100
      then some r else none := by
  simp only [readCircuit, readEnum_circuitKind.mpr rfl, Option.bind_eq_bind, Option.bind_some, keepIf,
    decide_toNat_ne_zero]
  refine if_congr ?_ rfl rfl
  simp only [Bool.and_eq_true, within_iff, Nat.zero_le, true_and, and_assoc]

/-! ## SPECIAL (R29) -/

theorem validMonthDay_iff {month day : Nat} :
    validMonthDay month day = true ↔ (1 ≤ month ∧ month ≤ 12) ∧ 1 ≤ day ∧ day ≤ monthDays true month := by
  simp [validMonthDay, and_assoc]

theorem readSpecial_values (r : Special) :
    readSpecial [r.used.toNat, r.month, r.day, r.year.isSome.toNat, r.year.getD 0, r.cls] =
    if (1 ≤ r.month ∧ r.month ≤ 12) ∧ (1 ≤ r.day ∧ r.day ≤ monthDays true r.month) ∧
        (∀ y ∈ r.year, 2000 ≤ y ∧ y ≤ 2099 ∧ (r.month = 2 → r.day = 29 → y % 4 = 0))
      then some r else none := by
  have year := readOpt_value r.year fun y =>
    within 2000 2099 y && (isLeap y || !(decide (r.month = 2) && decide (r.day = 29)))
  have leap (y : Nat) : (within 2000 2099 y && (isLeap y || !(decide (r.month = 2) && decide (r.day = 29)))) = true ↔
      2000 ≤ y ∧ y ≤ 2099 ∧ (r.month = 2 → r.day = 29 → y % 4 = 0) := by
    simp only [isLeap, Bool.and_eq_true, Bool.or_eq_true, within_iff, decide_eq_true_eq, Bool.not_eq_true',
      Bool.and_eq_false_iff, decide_eq_false_iff_not]
    tauto
  simp only [readSpecial, year, Option.bind_eq_bind, bind_ite_some, keepIf, decide_toNat_ne_zero, ← ite_and]
  refine if_congr ?_ rfl rfl
  simp only [leap, validMonthDay_iff]
  tauto

/-! ## The SETTINGS groups TIME, STRIKE and LIGHT (R23, R68, R155) -/

theorem readEdge_values (e : SeasonEdge) :
    readEdge e.month e.week.isNone.toNat (e.week.getD 0) e.weekday e.hour =
    if (1 ≤ e.month ∧ e.month ≤ 12) ∧ (∀ w ∈ e.week, 1 ≤ w ∧ w ≤ 4) ∧ (1 ≤ e.weekday ∧ e.weekday ≤ 7) ∧ e.hour < 24
      then some e else none := by
  have week := readAlt_value e.week fun w => within 1 4 w
  simp only [readEdge, week, Option.bind_eq_bind, bind_ite_some, keepIf, ← ite_and]
  refine if_congr ?_ rfl rfl
  simp only [Bool.and_eq_true, within_iff, decide_eq_true_eq]
  tauto

theorem readTime_values (r : TimeSettings) :
    let values (e : SeasonEdge) : List Nat := [e.month, e.week.isNone.toNat, e.week.getD 0, e.weekday, e.hour]
    let good (e : SeasonEdge) : Prop := (1 ≤ e.month ∧ e.month ≤ 12) ∧ (∀ w ∈ e.week, 1 ≤ w ∧ w ≤ 4) ∧
      (1 ≤ e.weekday ∧ e.weekday ≤ 7) ∧ e.hour < 24
    readTime ([r.mode.ctorIdx, r.threshold, r.holdLimit, r.offset] ++ values r.begins ++ values r.ends) =
    if (100 ≤ r.threshold ∧ r.threshold ≤ 60000) ∧ (1 ≤ r.holdLimit ∧ r.holdLimit ≤ 168) ∧ r.offset ≤ 120 ∧
        good r.begins ∧ good r.ends ∧ ¬(r.begins = r.ends ∧ r.offset ≠ 0)
      then some r else none := by
  intro values good
  simp only [values, List.cons_append, List.nil_append, readTime, readEnum_refMode.mpr rfl, readEdge_values,
    Option.bind_eq_bind, Option.bind_some, bind_ite_some, keepIf, ← ite_and]
  refine if_congr ?_ rfl rfl
  simp only [good, Bool.and_eq_true, within_iff, Bool.not_eq_true', Bool.and_eq_false_iff, decide_eq_false_iff_not,
    Nat.zero_le, true_and, not_and_or]
  tauto

theorem readStrike_values (r : StrikeSettings) :
    let value (t : Option Nat) : List Nat := [t.isSome.toNat, t.getD 0]
    readStrike ([r.quarters.toNat, r.hours.toNat, r.hourBell] ++ value r.q1 ++ value r.q2 ++ value r.q3 ++ value r.q4 ++
      [r.gap, r.velocity.ctorIdx, r.lateness, r.noteWait]) =
    if r.hourBell < 16 ∧ (∀ t ∈ r.q1, t < 64) ∧ (∀ t ∈ r.q2, t < 64) ∧ (∀ t ∈ r.q3, t < 64) ∧ (∀ t ∈ r.q4, t < 64) ∧
        (1500 ≤ r.gap ∧ r.gap ≤ 6000) ∧ r.lateness ≤ 900 ∧ (50 ≤ r.noteWait ∧ r.noteWait ≤ 2000)
      then some r else none := by
  intro value
  have tune (t : Option Nat) := readOpt_value t fun n => decide (n < 64)
  simp only [value, List.cons_append, List.nil_append, readStrike, tune, readEnum_velocity.mpr rfl, Option.bind_eq_bind,
    Option.bind_some, bind_ite_some, keepIf, decide_toNat_ne_zero, ← ite_and]
  refine if_congr ?_ rfl rfl
  simp only [Bool.and_eq_true, within_iff, decide_eq_true_eq, Nat.zero_le, true_and]
  tauto

theorem readLight_values (r : LightSettings) :
    readLight [r.margin, r.fallback.isSome.toNat, r.fallback.getD 0, r.interval, r.dusk, r.dawn, r.confirm] =
    if r.margin ≤ 120 ∧ (∀ i ∈ r.fallback, i < 16) ∧ (2 ≤ r.interval ∧ r.interval ≤ 60) ∧ (5 ≤ r.dusk ∧ r.dusk ≤ 1018) ∧
        (5 ≤ r.dawn ∧ r.dawn ≤ 1018) ∧ (1 ≤ r.confirm ∧ r.confirm ≤ 30) ∧ r.dusk < r.dawn
      then some r else none := by
  have fallback := readOpt_value r.fallback fun i => decide (i < 16)
  simp only [readLight, fallback, Option.bind_eq_bind, bind_ite_some, keepIf, ← ite_and]
  refine if_congr ?_ rfl rfl
  simp only [Bool.and_eq_true, within_iff, decide_eq_true_eq, Nat.zero_le, true_and]
  tauto

/-! ## SCHEDULE (R26) -/

theorem isSome_keepIf {α : Type} {good : Bool} {v : α} : (keepIf good v).isSome = good := by
  cases good <;> rfl

theorem isSome_readTrigger {kind moment : Nat} :
    (readTrigger kind moment).isSome = true ↔
      kind = 0 ∧ moment / 256 < 24 ∧ moment % 256 < 60 ∨
        (kind = 1 ∨ kind = 2) ∧ -180 ≤ signed 2 moment ∧ signed 2 moment ≤ 180 := by
  match kind with
  | 0 | 1 | 2 => simp [readTrigger, isSome_keepIf]
  | n + 3 => simp [readTrigger]

theorem isSome_readWindow {present fm fd tm td : Nat} :
    (readWindow present fm fd tm td).isSome = true ↔
      present = 0 ∧ fm = 0 ∧ fd = 0 ∧ tm = 0 ∧ td = 0 ∨
        present = 1 ∧ validMonthDay fm fd = true ∧ validMonthDay tm td = true := by
  match present with
  | 0 | 1 => simp [readWindow, isSome_keepIf]
  | n + 2 => simp [readWindow]

theorem isSome_readAction {action a b c : Nat} :
    (readAction action a b c).isSome = true ↔
      action = 0 ∧ a < 64 ∧ (1 ≤ b ∧ b ≤ 9) ∧ c = 0 ∨
        action = 1 ∧ a < 16 ∧ (1 ≤ b ∧ b ≤ 240) ∧ (2 ≤ c ∧ c ≤ 60) ∨
        action = 2 ∧ a < 8 ∧ b = 0 ∧ c = 0 ∨ action = 3 ∧ a < 16 ∧ b = 0 ∧ c = 0 ∨
        (action = 4 ∨ action = 5) ∧ a = 0 ∧ b = 0 ∧ c = 0 := by
  match action with
  | 0 | 1 | 2 | 3 | 4 | 5 => simp [readAction, isSome_keepIf, within, and_assoc]
  | n + 6 => simp [readAction]

theorem isSome_bind_iff {α β : Type} {o : Option α} {f : α → Option β} {p : Prop} (h : ∀ a, (f a).isSome = true ↔ p) :
    (o.bind f).isSome = true ↔ o.isSome = true ∧ p := by
  cases o with
  | none => simp
  | some a => simpa using h a

theorem isSome_readEntry {used kind moment days classes present fm fd tm td action a b c lateness : Nat} :
    (readEntry [used, kind, moment, days, classes, present, fm, fd, tm, td, action, a, b, c, lateness]).isSome = true ↔
      used ≤ 1 ∧ days < 128 ∧ classes < 16 ∧ lateness ≤ 240 ∧ (readTrigger kind moment).isSome = true ∧
        (readWindow present fm fd tm td).isSome = true ∧ (readAction action a b c).isSome = true := by
  have inRange : (readEntry [used, kind, moment, days, classes, present, fm, fd, tm, td, action, a, b, c,
      lateness]).isSome = true ↔ (readTrigger kind moment).isSome = true ∧ (readWindow present fm fd tm td).isSome = true ∧
        (readAction action a b c).isSome = true ∧ used ≤ 1 ∧ days < 128 ∧ classes < 16 ∧ lateness ≤ 240 := by
    refine isSome_bind_iff fun _ => isSome_bind_iff fun _ => isSome_bind_iff fun _ => ?_
    rw [isSome_keepIf]
    simp [within, and_assoc]
  rw [inRange]
  tauto

end Sys2Proof.Proofs
end

section
/-! SUPPORT. The fields of each record, written, are the values it is read from (R194, log 18). -/
namespace Sys2Proof.Proofs

open Sys2Proof.Machine Sys2Proof.Claims

/-! ## Records whose fields are their values -/

variable {values : List Nat}

theorem bellItems_of_read {r : BellRec} (fits : Fits bellRooms values) (h : readBell values = some r) :
    bellItems r = fieldsOf bellRooms values := by
  unfold readBell at h
  split at h
  · simp only [Option.bind_eq_bind, Option.bind_eq_some_iff, keepIf_eq_some_iff] at h
    obtain ⟨swing, hs, -, rfl⟩ := h
    simp only [bellRooms, Fits, List.forall₂_cons, capacity, pow_one] at fits
    obtain ⟨inUse, fitted, enabled, -, -, -, -, -, bound, -, coil, -⟩ := fits
    simp only [bellItems, mark_of_lt inUse, mark_of_lt fitted, mark_of_lt enabled, mark_of_lt coil,
      opt_of_readOpt hs bound]
    rfl
  · cases h

theorem swingItems_of_read {r : SwingRec} (h : readSwing values = some r) :
    swingItems r = fieldsOf swingRooms values := by
  unfold readSwing at h
  split at h
  · simp only [Option.bind_eq_bind, Option.bind_eq_some_iff, keepIf_eq_some_iff, readEnum_brake] at h
    obtain ⟨brake, rfl, -, rfl⟩ := h
    rfl
  · cases h

theorem tuneItems_of_read {r : Tune} (fits : Fits tuneRooms values) (h : readTune values = some r) :
    tuneItems r = fieldsOf tuneRooms values := by
  unfold readTune at h
  split at h
  · obtain ⟨-, rfl⟩ := keepIf_eq_some_iff.mp h
    obtain ⟨used, -⟩ := Fits.cons_iff.mp fits
    simp only [tuneItems, mark_of_lt used]
    rfl
  · cases h

theorem dialItems_of_read {r : DialRec} (fits : Fits dialRooms values) (h : readDial values = some r) :
    dialItems r = fieldsOf dialRooms values := by
  unfold readDial at h
  split at h
  · obtain ⟨-, rfl⟩ := keepIf_eq_some_iff.mp h
    obtain ⟨inUse, -⟩ := Fits.cons_iff.mp fits
    simp only [dialItems, mark_of_lt inUse]
    rfl
  · cases h

theorem circuitItems_of_read {r : CircuitRec} (fits : Fits circuitRooms values) (h : readCircuit values = some r) :
    circuitItems r = fieldsOf circuitRooms values := by
  unfold readCircuit at h
  split at h
  · simp only [Option.bind_eq_bind, Option.bind_eq_some_iff, keepIf_eq_some_iff, readEnum_circuitKind] at h
    obtain ⟨kind, rfl, -, rfl⟩ := h
    simp only [circuitRooms, Fits, List.forall₂_cons, capacity, pow_one] at fits
    obtain ⟨inUse, -, -, -, -, -, -, -, sheddable, access, -⟩ := fits
    simp only [circuitItems, mark_of_lt inUse, mark_of_lt sheddable, mark_of_lt access]
    rfl
  · cases h

theorem specialItems_of_read {r : Special} (fits : Fits specialRooms values) (h : readSpecial values = some r) :
    specialItems r = fieldsOf specialRooms values := by
  unfold readSpecial at h
  split at h
  · simp only [Option.bind_eq_bind, Option.bind_eq_some_iff, keepIf_eq_some_iff] at h
    obtain ⟨year, hy, -, rfl⟩ := h
    simp only [specialRooms, Fits, List.forall₂_cons, capacity, pow_one] at fits
    obtain ⟨used, -, -, dated, -⟩ := fits
    simp only [specialItems, mark_of_lt used, opt_of_readOpt hy dated]
    rfl
  · cases h

theorem sunItems_of_read {r : Sun} (fits : Fits sunRooms values) (h : readSun values = some r) :
    sunItems r = fieldsOf sunRooms values := by
  unfold readSun at h
  split at h
  · simp only [Option.bind_eq_bind, Option.bind_eq_some_iff, Option.some.injEq] at h
    obtain ⟨dusk, hk, dawn, hn, rfl⟩ := h
    simp only [sunRooms, Fits, List.forall₂_cons, capacity, pow_one] at fits
    obtain ⟨hasDusk, -, hasDawn, -⟩ := fits
    simp only [sunItems, opt_of_readOpt hk hasDusk, opt_of_readOpt hn hasDawn]
    rfl
  · cases h

theorem edgeItems_of_read {month last week weekday hour : Nat} {e : SeasonEdge} (marked : last < 2)
    (h : readEdge month last week weekday hour = some e) :
    edgeItems e = [.field (.bytes 1) month, .field (.bits 1) last, .field (.bytes 1) week, .field (.bytes 1) weekday,
      .field (.bytes 1) hour] := by
  simp only [readEdge, Option.bind_eq_bind, Option.bind_eq_some_iff, keepIf_eq_some_iff] at h
  obtain ⟨weeks, hw, -, rfl⟩ := h
  simp only [edgeItems, alt_of_readAlt hw marked]
  rfl

theorem timeItems_of_read {r : TimeSettings} (fits : Fits timeRooms values) (h : readTime values = some r) :
    timeItems r = fieldsOf timeRooms values := by
  unfold readTime at h
  split at h
  · simp only [Option.bind_eq_bind, Option.bind_eq_some_iff, keepIf_eq_some_iff, readEnum_refMode] at h
    obtain ⟨mode, rfl, begins, hb, ends, he, -, rfl⟩ := h
    simp only [timeRooms, Fits, List.forall₂_cons, capacity, pow_one] at fits
    obtain ⟨-, -, -, -, -, beginsLast, -, -, -, -, endsLast, -⟩ := fits
    simp only [timeItems, edgeItems_of_read beginsLast hb, edgeItems_of_read endsLast he]
    rfl
  · cases h

theorem strikeItems_of_read {r : StrikeSettings} (fits : Fits strikeRooms values) (h : readStrike values = some r) :
    strikeItems r = fieldsOf strikeRooms values := by
  unfold readStrike at h
  split at h
  · simp only [Option.bind_eq_bind, Option.bind_eq_some_iff, keepIf_eq_some_iff, readEnum_velocity] at h
    obtain ⟨q1, h1, q2, h2, q3, h3, q4, h4, velocity, rfl, -, rfl⟩ := h
    simp only [strikeRooms, Fits, List.forall₂_cons, capacity, pow_one] at fits
    obtain ⟨quarters, hours, -, p1, -, p2, -, p3, -, p4, -⟩ := fits
    simp only [strikeItems, mark_of_lt quarters, mark_of_lt hours, opt_of_readOpt h1 p1, opt_of_readOpt h2 p2,
      opt_of_readOpt h3 p3, opt_of_readOpt h4 p4]
    rfl
  · cases h

theorem lightItems_of_read {r : LightSettings} (fits : Fits lightRooms values) (h : readLight values = some r) :
    lightItems r = fieldsOf lightRooms values := by
  unfold readLight at h
  split at h
  · simp only [Option.bind_eq_bind, Option.bind_eq_some_iff, keepIf_eq_some_iff] at h
    obtain ⟨fallback, hf, -, rfl⟩ := h
    simp only [lightRooms, Fits, List.forall₂_cons, capacity, pow_one] at fits
    obtain ⟨-, set, -⟩ := fits
    simp only [lightItems, opt_of_readOpt hf set]
    rfl
  · cases h

theorem supplyItems_of_read {r : SupplySettings} (h : readSupply values = some r) :
    supplyItems r = fieldsOf supplyRooms values := by
  unfold readSupply at h
  split at h
  · obtain ⟨-, rfl⟩ := keepIf_eq_some_iff.mp h
    rfl
  · cases h

theorem hammerItems_of_read {r : HammerSettings} (h : readHammer values = some r) :
    hammerItems r = fieldsOf hammerRooms values := by
  unfold readHammer at h
  split at h
  · obtain ⟨-, rfl⟩ := keepIf_eq_some_iff.mp h
    rfl
  · cases h

theorem noticeItems_of_read {mask : Nat} (h : readNotice values = some mask) :
    noticeItems mask = fieldsOf noticeRooms values := by
  unfold readNotice at h
  split at h
  · cases h
    rfl
  · cases h

/-! ## SCENE (R132) -/

theorem levelItems_of_read {n : Nat} {l : List (Option Nat)}
    (fits : Fits (List.replicate n [Room.bits 1, .bytes 1]).flatten values) (h : readLevels values = some l) :
    l.flatMap (alt 1) = fieldsOf (List.replicate n [Room.bits 1, .bytes 1]).flatten values := by
  induction n generalizing values l with
  | zero =>
    cases fits
    cases h
    rfl
  | succ n ih =>
    match values, fits with
    | unchanged :: level :: rest, .cons marked (.cons _ others) =>
      simp only [readLevels, Option.bind_eq_bind, Option.bind_eq_some_iff, Option.some.injEq] at h
      obtain ⟨first, hf, later, hl, rfl⟩ := h
      rw [List.flatMap_cons, alt_of_readAlt hf marked, ih others hl]
      rfl

theorem sceneItems_of_read {r : Scene} (fits : Fits sceneRooms values) (h : readScene values = some r) :
    sceneItems r = fieldsOf sceneRooms values := by
  unfold readScene at h
  split at h
  · obtain ⟨levels, hl, rfl⟩ := Option.map_eq_some_iff.mp h
    obtain ⟨used, others⟩ := Fits.cons_iff.mp fits
    simp only [sceneItems, mark_of_lt used, levelItems_of_read others hl]
    rfl
  · cases h

end Sys2Proof.Proofs
end

section
/-! SUPPORT. Records with a list: the slots past the list's count are not read, and written 0 (R75, R109, log 19). -/
namespace Sys2Proof.Proofs

open Sys2Proof.Machine Sys2Proof.Claims

/-- The slots a list is written in. -/
def padded (longest : Nat) (l : List Nat) : List Nat := (l ++ List.replicate longest 0).take longest

variable {l given values : List Nat} {longest lo bound count : Nat}

theorem slots_eq (longest : Nat) (l : List Nat) :
    slots longest l = num 1 l.length ++ (padded longest l).flatMap (num 1) := rfl

theorem length_padded (longest : Nat) (l : List Nat) : (padded longest l).length = longest := by
  simp [padded]

theorem take_padded (short : l.length ≤ longest) : (padded longest l).take l.length = l := by
  rw [padded, List.take_take, Nat.min_eq_left short, List.take_left]

theorem lt_of_mem_padded {top : Nat} (positive : 0 < top) (small : ∀ x ∈ l, x < top) :
    ∀ x ∈ padded longest l, x < top := by
  intro x hx
  rcases List.mem_append.mp (List.mem_of_mem_take hx) with entry | filler
  · exact small x entry
  · rw [List.eq_of_mem_replicate filler]
    exact positive

theorem readList_eq_some_iff {hi : Nat} : readList lo hi bound count given = some l ↔
    (lo ≤ count ∧ count ≤ hi) ∧ (∀ x ∈ given.take count, x < bound) ∧ (given.take count).Nodup ∧
      given.take count = l := by
  simp [readList, within, and_assoc]

/-- A list read has as many entries as were counted. -/
theorem length_of_readList (h : readList lo longest bound count given = some l) (room : given.length = longest) :
    l.length = count := by
  obtain ⟨⟨-, short⟩, -, -, rfl⟩ := readList_eq_some_iff.mp h
  rw [List.length_take, room, Nat.min_eq_left short]

/-- A list read is read again from the slots it is written in, which hold its entries and 0. -/
theorem padded_of_readList (h : readList lo longest bound count given = some l) (room : given.length = longest) :
    readList lo longest bound l.length (padded longest l) = some l ∧ l.length ≤ longest ∧
      (0 < bound → ∀ x ∈ padded longest l, x < bound) := by
  have counted := length_of_readList h room
  obtain ⟨⟨atLeast, short⟩, small, distinct, same⟩ := readList_eq_some_iff.mp h
  rw [same] at small distinct
  rw [← counted] at atLeast short
  refine ⟨readList_eq_some_iff.mpr ?_, short, fun positive => lt_of_mem_padded positive small⟩
  rw [take_padded short]
  exact ⟨⟨atLeast, short⟩, small, distinct, rfl⟩

/-! ## PLAN and NOTE -/

theorem planRooms_eq :
    planRooms = [.bits 1, .bytes 1, .bytes 1, .bytes 1, .bytes 1, .bytes 1, .bytes 1, .bytes 1, .bytes 1, .bytes 1, .bits 1,
      .bytes 1, .bits 1] := rfl

theorem planWritten_of_read {r : Plan} (fits : Fits planRooms values) (h : readPlan values = some r) :
    ∃ written, planItems r = fieldsOf planRooms written ∧ Fits planRooms written ∧ readPlan written = some r := by
  unfold readPlan at h
  split at h
  · simp only [Option.bind_eq_bind, Option.bind_eq_some_iff, keepIf_eq_some_iff, readEnum_precedence] at h
    obtain ⟨units, hu, precedence, rfl, good, rfl⟩ := h
    obtain ⟨again, short, small⟩ := padded_of_readList hu rfl
    simp only [planRooms_eq, Fits, List.forall₂_cons, capacity, pow_one] at fits ⊢
    obtain ⟨used, -, -, -, -, -, -, -, startGap, duration, order, stopGap, code, -⟩ := fits
    have inByte (x : Nat) (hx : x ∈ padded 6 units) : x < 256 := (small (by decide) x hx).trans (by decide)
    have room := length_padded 6 units
    simp only [planItems, mark_of_lt used, mark_of_lt order, slots_eq]
    generalize padded 6 units = entries at again inByte room
    match entries, room with
    | [a, b, c, d, e, f], _ =>
      refine ⟨[_, units.length, a, b, c, d, e, f, _, _, _, _, _], rfl, ?_, ?_⟩
      · simp only [List.forall₂_cons]
        exact ⟨used, by omega, inByte a (by simp), inByte b (by simp), inByte c (by simp), inByte d (by simp),
          inByte e (by simp), inByte f (by simp), startGap, duration, order, stopGap, code, .nil⟩
      · simp only [readPlan, again, readEnum_precedence.mpr rfl, Option.bind_eq_bind, Option.bind_some]
        exact keepIf_eq_some_iff.mpr ⟨good, rfl⟩
  · cases h

theorem noteWritten_of_read {r : Note} (fits : Fits noteRooms values) (h : readNote values = some r) :
    ∃ written, noteItems r = fieldsOf noteRooms written ∧ Fits noteRooms written ∧ readNote written = some r := by
  unfold readNote at h
  split at h
  · simp only [Option.bind_eq_bind, Option.bind_eq_some_iff, keepIf_eq_some_iff, readEnum_velocity] at h
    obtain ⟨bells, hb, velocity, rfl, good, rfl⟩ := h
    obtain ⟨again, short, small⟩ := padded_of_readList hb rfl
    simp only [noteRooms, Fits, List.forall₂_cons, capacity, pow_one] at fits ⊢
    obtain ⟨used, -, -, -, -, -, code, interval, -⟩ := fits
    have inByte (x : Nat) (hx : x ∈ padded 4 bells) : x < 256 := (small (by decide) x hx).trans (by decide)
    have room := length_padded 4 bells
    have marked := within_iff.mp (Bool.and_eq_true_iff.mp good).1
    simp only [noteItems, toNat_decide_of_lt (Nat.lt_succ_of_le marked.2), slots_eq]
    generalize padded 4 bells = entries at again inByte room
    match entries, room with
    | [a, b, c, d], _ =>
      refine ⟨[_, bells.length, a, b, c, d, _, _], rfl, ?_, ?_⟩
      · simp only [List.forall₂_cons]
        exact ⟨used, by omega, inByte a (by simp), inByte b (by simp), inByte c (by simp), inByte d (by simp), code,
          interval, .nil⟩
      · simp only [readNote, again, readEnum_velocity.mpr rfl, Option.bind_eq_bind, Option.bind_some]
        exact keepIf_eq_some_iff.mpr ⟨good, rfl⟩
  · cases h

end Sys2Proof.Proofs
end

section
/-! SUPPORT. The schedule entry, whose bytes are given whole (R26, R194). -/
namespace Sys2Proof.Proofs

open Sys2Proof.Machine Sys2Proof.Claims

theorem markBits_append (a b : List Room) : markBits (a ++ b) = markBits a + markBits b := by
  induction a with
  | nil => simp [markBits]
  | cons room a ih => cases room <;> simp [markBits, ih, Nat.add_assoc]

/-- Without marks, a record is the bytes of its parts. -/
theorem pack_of_noMarks {items : List Item} (h : markBits (items.map Item.room) = 0) :
    pack items = items.flatMap Item.bytes := by
  simp [pack, markBytes, h, leBytes]

theorem byte_mod (v : Nat) : byte (v % 256) = byte v :=
  BitVec.eq_of_toNat_eq (by rw [toNat_byte_eq, toNat_byte_eq, Nat.mod_mod])

theorem twos_signed {v : Nat} (h : v < 65536) : twos 2 (signed 2 v) = v := by
  unfold twos signed
  norm_num
  split <;> omega

theorem triggerBytes_of_read {kind moment : Nat} {t : Trigger} (room : moment < 65536)
    (h : readTrigger kind moment = some t) :
    (triggerItems t).flatMap Item.bytes = beBytes 1 kind ++ beBytes 2 moment := by
  have offset (code : Nat) :
      (num 1 code ++ int 2 (signed 2 moment)).flatMap Item.bytes = beBytes 1 code ++ beBytes 2 moment := by
    simp [num, int, twos_signed room, Item.bytes]
  unfold readTrigger at h
  split at h
  · obtain ⟨good, rfl⟩ := keepIf_eq_some_iff.mp h
    simp only [Bool.and_eq_true, decide_eq_true_eq] at good
    have hour : (moment / 256 * 60 + moment % 256) / 60 = moment / 256 := by omega
    have minute : (moment / 256 * 60 + moment % 256) % 60 = moment % 256 := by omega
    simp [triggerItems, num, Item.bytes, beBytes, hour, minute, byte_mod]
  · obtain ⟨-, rfl⟩ := keepIf_eq_some_iff.mp h
    exact offset 1
  · obtain ⟨-, rfl⟩ := keepIf_eq_some_iff.mp h
    exact offset 2
  · cases h

theorem windowBytes_of_read {present fm fd tm td : Nat} {w : Option Window}
    (h : readWindow present fm fd tm td = some w) :
    (windowItems w).flatMap Item.bytes =
      beBytes 1 present ++ beBytes 1 fm ++ beBytes 1 fd ++ beBytes 1 tm ++ beBytes 1 td := by
  unfold readWindow at h
  split at h
  · obtain ⟨zero, rfl⟩ := keepIf_eq_some_iff.mp h
    obtain ⟨rfl, rfl, rfl, rfl⟩ := of_decide_eq_true zero
    rfl
  · obtain ⟨-, rfl⟩ := keepIf_eq_some_iff.mp h
    rfl
  · cases h

theorem actionBytes_of_read {action a b c : Nat} {t : Action} (h : readAction action a b c = some t) :
    (actionItems t).flatMap Item.bytes = beBytes 1 action ++ beBytes 1 a ++ beBytes 1 b ++ beBytes 1 c := by
  unfold readAction at h
  split at h
  case h_7 => cases h
  all_goals
    obtain ⟨good, rfl⟩ := keepIf_eq_some_iff.mp h
    simp only [Bool.and_eq_true, decide_eq_true_eq] at good
    simp [actionItems, Action.code, num, Item.bytes, beBytes, good]

theorem markBits_triggerItems (t : Trigger) : markBits ((triggerItems t).map Item.room) = 0 := by cases t <;> rfl

theorem markBits_windowItems (w : Option Window) : markBits ((windowItems w).map Item.room) = 0 := by cases w <;> rfl

theorem markBits_actionItems (t : Action) : markBits ((actionItems t).map Item.room) = 0 := by cases t <;> rfl

theorem packEntry_of_read {values : List Nat} {r : Entry} (fits : Fits entryRooms values)
    (h : readEntry values = some r) :
    pack (entryItems r) = pack (fieldsOf entryRooms values) := by
  have noMarks : markBits ((entryItems r).map Item.room) = 0 := by
    simp only [entryItems, List.map_append, markBits_append, markBits_triggerItems, markBits_windowItems,
      markBits_actionItems]
    rfl
  rw [pack_of_noMarks noMarks, pack_of_noMarks (by rw [rooms_fieldsOf fits]; rfl)]
  unfold readEntry at h
  split at h
  · simp only [Option.bind_eq_bind, Option.bind_eq_some_iff, keepIf_eq_some_iff] at h
    obtain ⟨trigger, ht, window, hw, action, ha, good, rfl⟩ := h
    simp only [entryRooms, List.cons_append, List.nil_append, Fits, List.forall₂_cons, capacity] at fits
    obtain ⟨-, -, moment, -⟩ := fits
    simp only [Bool.and_eq_true, within_iff] at good
    obtain ⟨⟨⟨⟨-, used⟩, -⟩, -⟩, -⟩ := good
    simp only [entryItems, List.flatMap_append, triggerBytes_of_read moment ht, windowBytes_of_read hw,
      actionBytes_of_read ha, toNat_decide_of_lt (Nat.lt_succ_of_le used)]
    rfl
  · cases h

end Sys2Proof.Proofs
end

section
/-! SUPPORT. Every record is read back, and read exactly in its ranges. -/
namespace Sys2Proof.Proofs

open Sys2Proof.Machine Sys2Proof.Claims

theorem backAndForth_plan : backAndForth planRooms readPlan planItems :=
  backAndForth_of_pack fun _ _ fits h =>
    have ⟨written, items, fits, reads⟩ := planWritten_of_read fits h
    ⟨written, congrArg pack items, fits, reads⟩

theorem backAndForth_note : backAndForth noteRooms readNote noteItems :=
  backAndForth_of_pack fun _ _ fits h =>
    have ⟨written, items, fits, reads⟩ := noteWritten_of_read fits h
    ⟨written, congrArg pack items, fits, reads⟩

theorem backAndForth_entry : backAndForth entryRooms readEntry entryItems :=
  backAndForth_of_pack fun values _ fits h => ⟨values, packEntry_of_read fits h, fits, h⟩

theorem backAndForth_every :
    backAndForth bellRooms readBell bellItems ∧ backAndForth swingRooms readSwing swingItems ∧
    backAndForth planRooms readPlan planItems ∧ backAndForth tuneRooms readTune tuneItems ∧
    backAndForth noteRooms readNote noteItems ∧ backAndForth dialRooms readDial dialItems ∧
    backAndForth circuitRooms readCircuit circuitItems ∧ backAndForth sceneRooms readScene sceneItems ∧
    backAndForth entryRooms readEntry entryItems ∧ backAndForth specialRooms readSpecial specialItems ∧
    backAndForth sunRooms readSun sunItems ∧ backAndForth timeRooms readTime timeItems ∧
    backAndForth strikeRooms readStrike strikeItems ∧ backAndForth lightRooms readLight lightItems ∧
    backAndForth supplyRooms readSupply supplyItems ∧ backAndForth hammerRooms readHammer hammerItems ∧
    backAndForth noticeRooms readNotice noticeItems :=
  ⟨backAndForth_of_items fun _ _ => bellItems_of_read, backAndForth_of_items fun _ _ _ => swingItems_of_read,
    backAndForth_plan, backAndForth_of_items fun _ _ => tuneItems_of_read, backAndForth_note,
    backAndForth_of_items fun _ _ => dialItems_of_read, backAndForth_of_items fun _ _ => circuitItems_of_read,
    backAndForth_of_items fun _ _ => sceneItems_of_read, backAndForth_entry,
    backAndForth_of_items fun _ _ => specialItems_of_read, backAndForth_of_items fun _ _ => sunItems_of_read,
    backAndForth_of_items fun _ _ => timeItems_of_read, backAndForth_of_items fun _ _ => strikeItems_of_read,
    backAndForth_of_items fun _ _ => lightItems_of_read, backAndForth_of_items fun _ _ _ => supplyItems_of_read,
    backAndForth_of_items fun _ _ _ => hammerItems_of_read, backAndForth_of_items fun _ _ _ => noticeItems_of_read⟩

/-- Settles O9: the fields written of a record are the values it was read from, with 0 past a list's count; and the values of
a record's fields are read as the record where each is in its range. -/
theorem recordsReadBack : Obligations.RecordsReadBack := by
  unfold Obligations.RecordsReadBack
  refine ⟨backAndForth_every, readBell_values, readSwing_values, readDial_values, readCircuit_values, readSpecial_values,
    readTime_values, readStrike_values, readLight_values, ?entry⟩
  case entry =>
    intro used kind moment days classes present fm fd tm td action a b c lateness date
    rw [isSome_readEntry, isSome_readTrigger, isSome_readWindow, isSome_readAction, validMonthDay_iff, validMonthDay_iff]

end Sys2Proof.Proofs
end

section
/-! SUPPORT. The step by the queue's front: with a command waiting, a step is that command's meaning. -/
namespace Sys2Proof.Proofs

open Sys2Proof.Machine

theorem step_of_frontCommand {c : Instr} {rest : List Instr} {s : State} (waiting : s.pending = c :: rest) :
    step s = exec c { s with pending := rest } := by
  unfold step
  rw [waiting]

/-- Settles O1: of the step's two branches, a queue with a front command takes the one that executes it. -/
theorem stepRunsFrontCommand : Obligations.StepRunsFrontCommand := by
  unfold Obligations.StepRunsFrontCommand
  exact fun _ _ _ waiting => step_of_frontCommand waiting

end Sys2Proof.Proofs
end
